-- ==== Sys2Proof/Word.lean ====
section
/-! DEFINITION. The machine words of the OZ-SJ16 (bytes, 32-bit register words) and their plainest arithmetic. -/
namespace Sys2Proof

/-- One byte. -/
abbrev Byte := BitVec 8

/-- One 32-bit register word (R5). -/
abbrev Word := BitVec 32

/-- The bits [hi:lo] of `n`, counted from bit 0 (section 0.3). -/
def bits (n hi lo : Nat) : Nat := n / 2 ^ lo % 2 ^ (hi + 1 - lo)

/-- `n` with its bits [hi:lo] replaced by the low bits of `v`. -/
def setBits (n hi lo v : Nat) : Nat :=
  n - bits n hi lo * 2 ^ lo + v % 2 ^ (hi + 1 - lo) * 2 ^ lo

/-- The signed reading of the low `w` bits of `n` (R3: two's complement). -/
def toSigned (w n : Nat) : Int :=
  if n % 2 ^ w < 2 ^ (w - 1) then ((n % 2 ^ w : Nat) : Int) else ((n % 2 ^ w : Nat) : Int) - (2 ^ w : Nat)

/-- The low `w` bits of `i` in two's complement (R3). -/
def ofSigned (w : Nat) (i : Int) : Nat := (i % ((2 ^ w : Nat) : Int)).toNat

/-- `n` plus `k`, stopping at the greatest value of `w` bits. -/
def satAdd (w n k : Nat) : Nat := min (n + k) (2 ^ w - 1)

end Sys2Proof
end

