-- ==== Sys2Proof/Syntax.lean ====
section
/-! DEFINITION. The commands of the module: one constructor per row of the operations and events table. -/
namespace Sys2Proof

/-- What a CSI-2 line or frame carries (Table 5.5): RAW8, RAW10 or RAW12, YUV422 8-bit, embedded data, or a data type that is not supported. -/
inductive CsiType where
  | raw (bits : Fin 3)
  | yuv422
  | embedded
  | other
  deriving DecidableEq, Repr

/-- A request for one row-phase slot (R180): its engine, the arrays that step together, and whether it is a patrol read. -/
structure SlotReq where
  engine : Fin 16
  arrays : List Nat
  patrol : Bool := false
  deriving DecidableEq, Repr

/-- What the patrol of a suspect array reads (R186, R187): by how much the cells' sums differ from the cells as programmed (row, group, difference), and by how much the stored sums
differ from what was stored (row, group or 8 for the row sum, difference). -/
structure PatrolSeen where
  cells : List (Nat × Nat × Int) := []
  sums : List (Nat × Nat × Int) := []
  deriving DecidableEq, Repr

/-- What the VUI of a picture signals (R133): the matrix BT.601, or else BT.709, and full range, or else limited. -/
structure Vui where
  bt601 : Bool
  full : Bool
  deriving DecidableEq, Repr

/-- A feature map in module DRAM: its address, element type code (1 INT8, 3 BF16) and FRC ratio, 0 for none. -/
structure TensorAt where
  addr : BitVec 64
  fmt : Nat := 1
  ratio : Nat := 0
  deriving DecidableEq, Repr

/-- What one layer of a stripe group uses beside its records: the weights that the opaque programs give it, one row for each receptive-field element and one column for each output channel (for OP 4
the second activation tensor so arranged), whether they are 8-bit weights in array pairs (R174), by how much the analog columns change accumulators (output row, column, channel,
difference), and the residual tensor of its RESADD. -/
structure LayerWork where
  weights : List (List Int) := []
  wide : Bool := false
  drift : List (Nat × Nat × Nat × Int) := []
  residual : Option TensorAt := none
  deriving DecidableEq, Repr

/-- Where a stripe group reads its input tensor: the sample, the RUN's IN_ADDR (with what host memory holds there, if it lies there), a place in module DRAM, or the arrival region of its first layer. -/
inductive TensorSource where
  | sample
  | input (host : List (BitVec 8))
  | place (addr : BitVec 64)
  | region
  deriving DecidableEq, Repr

/-- The work of a stripe group on an engine, in a task or an iteration (R206, R222): the group record by its index in the image (a Freewheel task runs the group that its record names), the engine,
the stripes that the image assigns to it, its input, what its layers use, the slots at which rows of arrival layers start (layer, output row, cycle of the iteration; R241), and where
its output goes: nowhere outside the engine, to a module address, or to an offset of the RUN's OUT_ADDR. -/
structure GroupWork where
  group : Nat := 0
  engine : Fin 16
  stripes : List Nat := [0]
  input : TensorSource := .sample
  layers : List LayerWork := []
  slots : List (Nat × Nat × Nat) := []
  addr : Option (BitVec 64) := none
  out : Option Nat := none
  deriving DecidableEq, Repr

/-- What a start step finds in the world around it. `damage` bits 0 to 5: journal header A, header B, history 0, history 1,
retention area, snapshot fail their CRC at the mount; bit 6 the position store, bits 7 and 8 copies A and B of the Truing store; `torn`: SEQs of ring records that fail theirs;
`phase`: ENC0's fine phase as ST19 first reads it; `slot`: what ST15 or ST16 reads from its flash slot, if not what was last written there; `badSpares`: the engines whose A16 fails
its verify in a retirement at ST14 (R195); `test`: what the chains of ST21's test iteration did (R287). -/
structure StepInput where
  damage : BitVec 9 := 0
  torn : List Nat := []
  phase : BitVec 12 := 0
  slot : Option (List (BitVec 8)) := none
  badSpares : List (Fin 16) := []
  test : List GroupWork := []
  deriving DecidableEq, Repr

/-- One iteration of a solve (R338): how long it took, whether every Cholesky pivot was positive, whether residuals, Jacobian and cost are finite, the cost F(x′) in
FP64, the outlier blocks, and x′ in FP32. -/
structure SolveStep where
  ns : Nat
  pivotOk : Bool
  finite : Bool
  cost : BitVec 64
  outliers : Nat := 0
  params : List (BitVec 32)
  deriving DecidableEq, Repr

/-- A column read of a KIND 0 solve (R350): when its slot begins, in ns after the start of the solve, and the 12-bit code of each column in fine mode. -/
structure ColumnRead where
  start : Nat
  codes : List (BitVec 12)
  deriving DecidableEq, Repr

/-- What a solve computes: the column reads (KIND 0), set-up time, F(x) in FP64 at the start (KIND 1 to 3), whether fewer than PARAMS residual components have non-zero weight (KIND 1 and 2, whose blocks are opaque),
whether the engine read poisoned data, and the iterations. -/
structure SolveTrace where
  setup : Nat
  cost0 : BitVec 64
  tooFew : Bool := false
  poisoned : Bool := false
  steps : List SolveStep
  reads : List ColumnRead := []
  deriving DecidableEq, Repr

/-- The PTP protocol timers: announce receipt, sending Announce or Sync as master, and the per-second peer delay measurement of a port, with its result in ns (R381, R392). -/
inductive PtpTimer where
  | announceReceipt
  | announceSend
  | syncSend
  | peerDelay (port : Fin 6) (delay : Nat)
  deriving DecidableEq, Repr

/-- Who consumes or requested data that fails (Table 18.6): a Fixed-gear engine with the job that depends on the data, a Freewheel task's engine, the host interface with the
descriptor whose operands it moves, a decoder context, the Ihlex engine with the push whose tile it sends, the Truing engine, the scrub, the Hub firmware. -/
inductive Consumer where
  | fixedGear (engine : Fin 16) (job : BitVec 16)
  | freewheel (engine : Fin 16)
  | host (qp : Fin 64) (d : List Byte)
  | decoder (context : Fin 10)
  | intake (context : Fin 24)
  | ihlex (qp : Fin 64) (d : List Byte)
  | truing
  | scrub
  | hub
  deriving DecidableEq, Repr

/-- The units that send and receive on the Chainring (Table 10.1). -/
inductive RingUnit where
  | hostInterface
  | engine (n : Fin 16)
  | controller (c : Fin 8)
  | slice (n : Fin 16)
  | hub (pair : Fin 2)
  | spoke
  | timeBase
  | brake
  | sprout
  | camera
  | intake
  | cadence
  | truing
  | ihlex
  | switch
  deriving DecidableEq, Repr

/-- A request for a line of module DRAM: whether it writes, the bytes of the line that it reads or writes, whether an L1 issued it, and which (core 0 or 1 of its pair on the Hub; an engine has one sequencer), and
its traffic class where its unit issues several: an engine 3, 4 or 7 (Table 10.6). -/
structure CacheRequest where
  line : BitVec 29
  write : Bool
  bytes : BitVec 64 := BitVec.allOnes 64
  l1 : Option (Fin 2) := none
  cls : Fin 8
  deriving DecidableEq, Repr

/-- A message for the Chainring (R244, R246, R250): the unit whose message it is, the unit at the other end (none: the home of its line), whether it goes from that end to the unit, whether it is a
coherence response, whether it is a Fixed-gear transfer, its request, who consumes or requested the data; in how many cycles it is ready, and in how many its source holds a credit
for a receive buffer at its destination, whose number the spec does not give. -/
structure RingMsg where
  unit : RingUnit
  peer : Option RingUnit := none
  back : Bool := false
  coherence : Bool := false
  fixed : Bool := false
  request : Option CacheRequest := none
  consumer : Consumer
  ready : Nat := 0
  credit : Nat := 0
  deriving DecidableEq, Repr

/-- A serial character as the line carries it (R422, R423): the sender's bit rate in bit/s, its parity bit (sent where the port has parity) and the level of its stop bits, the next falling edge after
them, in 1/64 of a bit of the configured rate after the true start edge, by how many 1/64 the start edge is measured late, and the samples (bit and number) that noise inverts. -/
structure SerialLine where
  rate : Nat
  parity : Bool := false
  stop : Bool := true
  next : Option Nat := none
  late : Fin 2 := 0
  flips : List (Nat × Nat) := []
  deriving DecidableEq, Repr

/-- A command from outside or an event: one constructor per row of spec/opcode_table.json. -/
inductive Instr where
  /-- REGISTER_WRITE: a 32-bit write to a BAR0 register, and what the table fetch of R141 that it may start returns (R7). -/
  | registerWrite (off : BitVec 20) (value : Word) (fetch : Option (List Byte))
  /-- UNALIGNED_ACCESS: a register access of another width or alignment (R5). -/
  | unalignedAccess (off : BitVec 20) (write : Bool)
  /-- REG64_LOW_READ: a read of the low word of a 64-bit register (R6). -/
  | reg64LowRead (off : BitVec 20)
  /-- SYS_LOCK_SET: a write of 1 to SYS_LOCK.LOCK (R78). -/
  | sysLockSet
  /-- GO: a write of 1 to SYS_CONTROL.GO (R69). -/
  | go
  /-- RESTART: a write of 1 to SYS_CONTROL.RESTART (R72). -/
  | restart
  /-- JRN_STEP_CLEAR: a write to JRN_STEP_CLEAR (R64). -/
  | jrnStepClear (mask : BitVec 22)
  /-- BRK_RESTART: a write of 1 to BRK_CONTROL.RESTART (R457). -/
  | brkRestart
  /-- LLC_COUNT_CLEAR: a write to LLC_COUNT_CLEAR (R272). -/
  | llcCountClear (mask : BitVec 8)
  /-- QP_ENABLE: ENABLE written 1 (R86). -/
  | qpEnable (qp : Fin 64)
  /-- QP_DISABLE: ENABLE written 0 (R86). -/
  | qpDisable (qp : Fin 64)
  /-- START_STEP: the running start step ends (R60). -/
  | startStep (ok : Bool) (cut : Bool) (cause : BitVec 16) (durUs : Word) (detail : Word) (x : StepInput)
  /-- STEP_TIMEOUT: the running start step exceeds its maximum (R60). -/
  | stepTimeout
  /-- FAST_DOMAIN_RESTART: 100 ms after a failed step (R62). -/
  | fastDomainRestart
  /-- SQ_TAIL_DOORBELL: a BAR2 write of `width` bytes at a page offset, or with no value a read (R88). -/
  | sqTailDoorbell (page : Fin 64) (off : BitVec 12) (width : BitVec 8) (value : Option Word)
  /-- CQ_HEAD_DOORBELL: an aligned 32-bit write at page offset 0x004 (R92). -/
  | cqHeadDoorbell (page : Fin 64) (value : Word)
  /-- DESCRIPTOR_FETCH: a descriptor read of the pair whose turn it is; `data` is what its slots hold (R91). -/
  | descriptorFetch (data : List (List Byte))
  /-- CQ_STALL: a CQ has stayed full beyond CQ_STALL_MS (R92). -/
  | cqStall (qp : Fin 64)
  /-- HOST_DMA_ERROR: a failed host access: 0 fetch, 1 operand data, 2 completion write (R111). -/
  | hostDmaError (access : Fin 3) (qp : Fin 64) (d : List Byte) (addr : BitVec 64)
  /-- FLR: a function level reset (R81). -/
  | flr
  /-- PERST_N_ASSERT: PERST_N is asserted (R480). -/
  | perstNAssert
  /-- PERST_N_RELEASE: PERST_N is released (R480). -/
  | perstNRelease
  /-- LINK_LOST: the PCIe link is lost (R83). -/
  | linkLost
  /-- LINK_UP: the PCIe link reaches L0 (R101). -/
  | linkUp (gen : Fin 5) (width : BitVec 4)
  /-- MODERATION_TIMER: a vector's moderation time ends (R101). -/
  | moderationTimer (vector : Fin 64)
  /-- STAGE_REGISTER_LIST: STAGE_CONFIG, KIND 0; `list` is what host memory at ADDR holds (R103), `tables` what the table fetches of R141 return. -/
  | stageRegisterList (qp : Fin 64) (d : List Byte) (list : List Byte) (tables : List (List Byte))
  /-- FENCE: FENCE (R98). -/
  | fence (qp : Fin 64) (d : List Byte)
  /-- READ_STATE: READ_STATE (R97). -/
  | readState (qp : Fin 64) (d : List Byte)
  /-- READ_FAULT_QUEUE: READ_STATE with SPACE 2 (R442). -/
  | readFaultQueue (qp : Fin 64) (d : List Byte)
  /-- BAD_OPCODE: a fetched descriptor with a reserved opcode (R110). -/
  | badOpcode (qp : Fin 64) (d : List Byte)
  /-- POWER_REQUEST: POWER_REQUEST (R54). -/
  | powerRequest (qp : Fin 64) (d : List Byte)
  /-- SUPPLY_START: supply has risen or held: strap, V_in in 10 mV, E and E_FULL in mJ (R30). -/
  | supplyStart (strap : BitVec 3) (vin : BitVec 16) (e : BitVec 16) (eFull : BitVec 16)
  /-- VOLTAGE_TRIGGER: the dwell of V_LOW1, V_LOW2, V_INT, V_HIGH1 or V_HIGH2 (0 to 4) has ended at V_in (10 mV) (R33). -/
  | voltageTrigger (t : Fin 5) (vin : BitVec 16)
  /-- VOLTAGE_TRIGGER_CLEAR: V_in has come back past a trigger's threshold by 0.02 Un (R33). -/
  | voltageTriggerClear (t : Fin 5) (vin : BitVec 16)
  /-- ENERGY_TRIGGER: the bank energy has fallen to `e` mJ (R34). -/
  | energyTrigger (e : BitVec 16)
  /-- LEVEL_RESTORE: one restore dwell has passed (R38). -/
  | levelRestore (vin : BitVec 16) (e : BitVec 16)
  /-- ORDERLY_OFF_DONE: the journal flush of PL5 has ended (R37). -/
  | orderlyOffDone
  /-- BANK_MEASUREMENT: E_FULL has been measured (R31). -/
  | bankMeasurement (mJ : BitVec 16)
  /-- CRYSTAL_FAIL: the 32.768 kHz oscillator stops (R43). -/
  | crystalFail
  /-- WAKE: a wake event: motion, door, network, host, timer (0 to 4) (R47). -/
  | wake (src : Fin 5) (vin : BitVec 16) (coarse : Int) (sw : Fin 4) (rising : Bool)
  /-- LATCHED_WAKE_START: V_in has been inside V_OK for 100 ms with a wake latched (R49). -/
  | latchedWakeStart (vin : BitVec 16)
  /-- DOZE_TO_HOLD: the Doze timer expires (R45). -/
  | dozeToHold
  /-- SLEEP_ENTRY: the module enters Doze or Hold (R45). -/
  | sleepEntry
  /-- DOZE_WAKE_COMPLETE: a wake from Doze ends in Active (R45). -/
  | dozeWakeComplete (phases : List (Nat × Nat))
  /-- WAKE_RELEASE: 1 s after WAKE# was asserted (R48). -/
  | wakeRelease
  /-- ENGINE_GATE: an engine has been idle for 1 µs (R50). -/
  | engineGate (engine : Fin 16)
  /-- SELFTEST: a periodic self-test has run (R435). -/
  | selftest (bit : Fin 12) (pass : Bool)
  /-- BRK_CROSS_CHECK: channels A and B compare themselves (R434). -/
  | brkCrossCheck (agree : Bool)
  /-- AUTO_RESTART: 2 s after entry to safe state (R457). -/
  | autoRestart
  /-- WARN_HOLD: WARN_HOLD_MS has passed since a decision was shown (R449). -/
  | warnHold
  /-- OBSTACLE_INPUT_LOST: a watched context has emitted no sample for FRAME_WATCH_MS (R451). -/
  | obstacleInputLost (ctx : Fin 24)
  /-- WARN_READBACK: a WARN line differs from its command (R453). -/
  | warnReadback (line : Fin 3)
  /-- WARN_TEST_PULSE: an off-pulse on a WARN line (R453). -/
  | warnTestPulse (line : Fin 3)
  /-- SAFE_OK_READBACK: a SAFE_OK line differs from its command (R453). -/
  | safeOkReadback (channel : Fin 2)
  /-- WDOG_EDGE: WDOG_IN changes, `after` ns from now (R454). -/
  | wdogEdge (level : Bool) (after : Word)
  /-- EXT_WATCHDOG: the external watchdog falls due (R454). -/
  | extWatchdog
  /-- HUB_LOCKSTEP: a Hub lockstep pair diverges (R434). -/
  | hubLockstep
  /-- HUB_WATCHDOG: Hub firmware misses its 1 ms service (R434). -/
  | hubWatchdog
  /-- CLOCK_FAULT: a clock monitor trips (R434). -/
  | clockFault
  /-- RAIL_FAULT: a rail monitor trips (R434). -/
  | railFault
  /-- TEMP_MONITOR: the die has read a temperature (0.1 °C) for 10 ms (R434). -/
  | tempMonitor (tenths : BitVec 16)
  /-- STEM_FAULT: a Stem retimer detects a crossing error (R459). -/
  | stemFault
  /-- BASEPLATE_HOT: the baseplate has read a temperature (0.1 °C) for 1 s (R478). -/
  | baseplateHot (tenths : BitVec 16)
  /-- POWER_DERATE: the input power (10 mW) of 1 s, at a baseplate temperature (0.1 °C) (R478). -/
  | powerDerate (tenths : BitVec 16) (pin : BitVec 16)
  /-- SLEEP_STROBE: one strobe of the sleep supplies: coarse step 0, +1 or −1 (0 to 2), MSW levels (R468). -/
  | sleepStrobe (step : Fin 3) (msw : BitVec 4)
  /-- SAFE_SUP_CHANGE: SAFE_SUP reads a voltage (10 mV) (R472). -/
  | safeSupChange (mv10 : BitVec 16)
  /-- CXP_CONTROL_READ: CXP_CTL_CMD written with OP read (R125). -/
  | cxpControlRead (camera : Fin 2)
  /-- CXP_CONTROL_WRITE: CXP_CTL_CMD written with OP write (R125). -/
  | cxpControlWrite (camera : Fin 2)
  /-- CTL_RESPONSE: the camera answers: 0 OK, 1 camera error, 2 not connected; the value of a read (R125). -/
  | ctlResponse (result : Fin 3) (data : Word)
  /-- CTL_TIMEOUT: a mailbox transaction is unanswered for 200 ms (R125). -/
  | ctlTimeout
  /-- CXP_LINE: a line has ended at `t`: its pixel format code (Table 5.13), the camera's line count, whether it is complete, whether its lane is full (R122 to R124). -/
  | cxpLine (camera : Fin 2) (t : BitVec 64) (fmt : BitVec 8) (count : Word) (complete : Bool) (laneFull : Bool) (pixels : List (BitVec 16))
  /-- TRIGGER_TIMEOUT: the oldest trigger queue entry is older than LINE_TIMEOUT (R122). -/
  | triggerTimeout (camera : Fin 2)
  /-- CXP_LINK_LOSS: a connection of a camera is lost. -/
  | cxpLinkLoss (camera : Fin 2) (conn : Fin 4) (midLine : Bool)
  /-- CXP_DISCOVERY: discovery finds connections that support a speed code (R120). -/
  | cxpDiscovery (camera : Fin 2) (found : Fin 5) (speed : Fin 8)
  /-- CXP_EVENT_PACKET: an event packet (R119). -/
  | cxpEventPacket (camera : Fin 2)
  /-- CSI2_FRAME_START: an FS at `t`: header ECC 0 good, 1 corrected, 2 uncorrectable; the format of the frame that begins; whether lane L2 has no room for it (R128, R129, R138). -/
  | csi2FrameStart (port : Fin 2) (vc : BitVec 4) (t : BitVec 64) (frame : BitVec 16) (ecc : Fin 3) (dt : CsiType) (width : BitVec 16) (height : BitVec 16) (overrun : Bool)
  /-- CSI2_LONG_PACKET: a long packet: raw samples, or Y, U and V of each pixel (R129). -/
  | csi2LongPacket (port : Fin 2) (vc : BitVec 4) (ecc : Fin 3) (crcOk : Bool) (dt : CsiType) (samples : List (BitVec 16))
  /-- CSI2_FRAME_END: an FE at `t` (R129). -/
  | csi2FrameEnd (port : Fin 2) (vc : BitVec 4) (t : BitVec 64) (ecc : Fin 3)
  /-- SENSOR_LOST: no FS of an open sensor context for FS_TIMEOUT (R130). -/
  | sensorLost (sensor : Fin 8)
  /-- APY_LINK_DOWN: a port leaves link-up. -/
  | apyLinkDown (port : Fin 2)
  /-- APY_LINK_UP: a port trains; the far end supports gears up to `gear` (R127). -/
  | apyLinkUp (port : Fin 2) (gear : Fin 5)
  /-- SENSOR_WRITE_ACK: the write under way is acknowledged (R145). -/
  | sensorWriteAck (sensor : Fin 8)
  /-- SENSOR_WRITE_FAIL: the write under way is not acknowledged or exceeds its time (R146). -/
  | sensorWriteFail (sensor : Fin 8)
  /-- DECODE_GAP: an RTP gap outlasts its hold (R135). -/
  | decodeGap (context : Fin 10)
  /-- STREAM_SILENT: no packet classified for SILENT_MS (R136). -/
  | streamSilent (context : Fin 10)
  /-- DECODED_PICTURE: the codec has decoded the access unit of an RTP timestamp: when, what its VUI signals (none: no VUI), whether it uses supported features only, whether it is free of bitstream errors, and its 8-bit samples Y, U, V of each pixel, line by line (R132 to R135). -/
  | decodedPicture (context : Fin 10) (t : BitVec 64) (stamp : Word) (vui : Option Vui) (supported : Bool) (intact : Bool) (width : BitVec 16) (rows : List (List (BitVec 8)))
  /-- STREAM_OPEN: STREAM_OPEN (R115). -/
  | streamOpen (qp : Fin 64) (d : List Byte)
  /-- STREAM_CLOSE: STREAM_CLOSE (R116). -/
  | streamClose (qp : Fin 64) (d : List Byte)
  /-- INTAKE: INTAKE; `table` is what host memory at QPARAM_ADDR holds (R150). -/
  | intake (qp : Fin 64) (d : List Byte) (table : List Byte)
  /-- INTAKE_PROGRAM_EFFECT: the context's boundary comes for its pending program (R151). -/
  | intakeProgramEffect (context : Fin 24)
  /-- SAMPLE_EMIT: the oldest captured sample of a context has been written (R166). -/
  | sampleEmit (context : Fin 24)
  /-- PTP_MESSAGE: a PTP message reaches the ordinary clock: its type, the port state it leads to, and the offset when it completes a Sync (R381). -/
  | ptpMessage (messageType : BitVec 4) (portState : Fin 10) (sync : Option Int)
  /-- PTP_SYNC_TIMEOUT: four sync intervals without a complete Sync (R381). -/
  | ptpSyncTimeout
  /-- PTP_PORT_TIMER: a PTP protocol timer expires (R381). -/
  | ptpPortTimer (timer : PtpTimer)
  /-- PPS_IN_EDGE: a PPS input edge at a module time, its pulse lasting 1 µs or not (R382). -/
  | ppsInEdge (time : BitVec 64) (falling : Bool) (wide : Bool)
  /-- PPS_IN_TIMEOUT: 2 s without an accepted PPS edge (R382). -/
  | ppsInTimeout
  /-- PPS_OUT_SECOND: module time reaches a whole second (R393). -/
  | ppsOutSecond
  /-- FORWARD_STEP: the pending forward step is applied (R386). -/
  | forwardStep
  /-- STEP_BACK_APPLY: the requested step back is applied (R387). -/
  | stepBackApply
  /-- HOLDOVER_EXPIRED: the holdover timer expires (R384). -/
  | holdoverExpired
  /-- LAUNCH: the front launch entry of a port is launched (R395). -/
  | launch (port : Fin 6)
  /-- LAUNCH_DEADLINE: the front launch entry of a port cannot be launched in time (R396). -/
  | launchDeadline (port : Fin 6)
  /-- TIMED_SEND: TIMED_SEND; `frame` is what host memory at FRAME_ADDR holds (R394). -/
  | timedSend (qp : Fin 64) (d : List Byte) (frame : List Byte)
  /-- TIME_STEP_BACK: TIME_STEP_BACK (R387). -/
  | timeStepBack (qp : Fin 64) (d : List Byte)
  /-- STAGE_SCHEDULE_IMAGE: STAGE_CONFIG, KIND 1; `image` is what host memory at ADDR holds (R104). -/
  | stageScheduleImage (qp : Fin 64) (d : List Byte) (image : List Byte)
  /-- STAGE_CORRECTION_BLOCK: STAGE_CONFIG, KIND 2; `block` is what host memory at ADDR holds (R346). -/
  | stageCorrectionBlock (qp : Fin 64) (d : List Byte) (block : List Byte)
  /-- COMMIT_CONFIG: COMMIT_CONFIG (R105). -/
  | commitConfig (qp : Fin 64) (d : List Byte)
  /-- COMMIT_ABANDON: COMMIT_CONFIG with ABANDON (R105). -/
  | commitAbandon (qp : Fin 64) (d : List Byte)
  /-- COMMIT_EFFECT: the boundary of the front commit comes (R105). -/
  | commitEffect
  /-- COMMIT_TIMEOUT: NOT_AFTER of a waiting commit passes (R108). -/
  | commitTimeout
  /-- DRAIN_REPROGRAM_DONE: a drain's reprogramming has ended (R105). -/
  | drainReprogramDone
  /-- PROGRAM_ARRAYS: PROGRAM_ARRAYS with MODE 0; `images` is what host memory at SRC holds (R189). -/
  | programArrays (qp : Fin 64) (d : List Byte) (images : List Byte)
  /-- VERIFY_ARRAYS: PROGRAM_ARRAYS with MODE 1 (R190). -/
  | verifyArrays (qp : Fin 64) (d : List Byte) (images : List Byte)
  /-- ARRAY_PROGRAM_DONE: the array under way on an engine ends; `ok`: its single-row reads matched (R189). -/
  | arrayProgramDone (engine : Fin 16) (ok : Bool)
  /-- MVM: a matrix-vector product on an array or a pair; the errors say by how much codes differ from the ideal (row-phase, column, difference); `slots`: what else asks for each row-phase slot from its first on (R178, R180). -/
  | mvm (engine : Fin 16) (hi : Fin 16) (lo : Option (Fin 16)) (int4 : Bool) (input : List Byte) (errHi : List (Nat × Nat × Int)) (errLo : List (Nat × Nat × Int)) (slots : List (List SlotReq)) (job : BitVec 16)
  /-- PATROL_READ: the patrol reads a row of a physical array: differences of the 8 group sums from the cells as programmed, and the forced comparison's outcome (R186). -/
  | patrolRead (engine : Fin 16) (phys : Fin 17) (row : Fin 512) (diffs : List Int) (fires : Option Bool)
  /-- PATROL_RESOLVE: the out-of-turn patrol of a suspect array ends, with what it read (R187). -/
  | patrolResolve (engine : Fin 16) (array : Fin 16) (seen : PatrolSeen)
  /-- ARRAY_RETIRE: ARRAY_RETIRE (R196). -/
  | arrayRetire (qp : Fin 64) (d : List Byte)
  /-- RETIREMENT_BACKING_MOVE: a retirement's backing moves at its boundary (R196). -/
  | retirementBackingMove (engine : Fin 16)
  /-- SOLVE: SOLVE; `obs` is what host memory at IN_ADDR holds (R343). -/
  | solve (qp : Fin 64) (d : List Byte) (obs : List Byte)
  /-- SOLVE_END: the running solve ends (R339). -/
  | solveEnd (trace : SolveTrace)
  /-- TRUING_STORE_WRITE: the values in effect are written to the Truing store (R349). -/
  | truingStoreWrite (ok : Bool)
  /-- TEST_ITERATION_RUN: RUN with PARTITION 1 (R288). -/
  | testIterationRun (qp : Fin 64) (d : List Byte)
  /-- CONTEXT_KILL: CONTEXT_KILL (R310). -/
  | contextKill (qp : Fin 64) (d : List Byte)
  /-- ITERATION_START: a frame boundary at which R283 may start an iteration. -/
  | iterationStart
  /-- CHECKPOINT: the next checkpoint of the running iteration: for the North half (or the only one) and for the South half, what its chains did since the last checkpoint, the cycle at which the named chain's last write ended, and whether it has ended; the decision, and the time to its hand-over in ns (R292). -/
  | checkpoint (workN : List GroupWork) (cycleN : Word) (placedN : Bool) (workS : List GroupWork) (cycleS : Word) (placedS : Bool) (warn : Bool) (hand : Word)
  /-- ITERATION_END: the running iteration ends: its length if PACED, what its chains did since the last checkpoint (R283). -/
  | iterationEnd (cycles : Word) (work : List GroupWork)
  /-- VARIANT_CHANGE: a pending change of variant or clock plan takes effect (R282). -/
  | variantChange
  /-- PLAN_CHANGE_RESUME: carriages resume under the new plan's table (R249). -/
  | planChangeResume
  /-- DECISION_DEADLINE: a Fixed-gear job's deadline passes without its decision (R314). -/
  | decisionDeadline (job : BitVec 16)
  /-- TASK_END: the Freewheel task of an engine ends; what its chains did, and whether it marked its run REPORT (R300). -/
  | taskEnd (engine : Fin 16) (work : List GroupWork) (report : Bool)
  /-- PREEMPTION: the task of an engine is pre-empted (R302). -/
  | preemption (engine : Fin 16)
  /-- SAVE_COMPLETE: the save of an engine ends after `ns`; what the frame holds after its header (R305). -/
  | saveComplete (engine : Fin 16) (ns : Word) (content : List Byte)
  /-- RESTORE_COMPLETE: the restore of an engine ends after `ns` (R307). -/
  | restoreComplete (engine : Fin 16) (ns : Word)
  /-- TASK_FAULT: a sequencer raises a fault: 0 TASK_FAULT, 1 NO_WINDOW, 2 FIXED_WRITE (R309). -/
  | taskFault (engine : Fin 16) (what : Fin 3)
  /-- TEARDOWN_COMPLETE: the teardown of a context ends (R309). -/
  | teardownComplete (context : Fin 32)
  /-- JOB_DEADLINE: the deadline of a run of a context passes, runs counted from the oldest (R313). -/
  | jobDeadline (context : Fin 32) (index : Fin 16)
  /-- STARVE_CLAIM: a stop's oldest message has waited STARVE cycles (R251). -/
  | starveClaim (stop : Fin 30)
  /-- CARRIAGE_DELIVERY: the next message reaches its destination stop: the messages issued since the last one, for how many Chainring cycles at most the ring runs until then, what the message's codes find (0 no error, 1 or 2 a payload error of one or two bits, 3 a header error), what the slice's codes find (0 no error, 1 an error in the line, 2 in its directory entry), and which bytes of the line and of its code (64 to 67) are in error where the request reads DRAM, and where a line that it evicts is merged (R245, R254, R255, R267). -/
  | carriageDelivery (issued : List RingMsg) (cycles : Word) (code : Fin 4) (error : Fin 3) (dram : List (Fin 68)) (merge : List (Fin 68))
  /-- CHAIN_TIMEOUT: a Chainring request has had no response for 100 µs (R447). -/
  | chainTimeout (consumer : Consumer)
  /-- SCRUB_PASS: a scrub finds errors (line, the bytes of it and of its code in error, R254), overruns its period or ends (R265). -/
  | scrubPass (channel : Fin 8) (errors : List (BitVec 29 × List (Fin 68))) (late : Bool) (ended : Bool)
  /-- DRAM_OVERTEMP: a device reports its temperature: 0 normal, 1 its highest range, 2 above it (R264). -/
  | dramOvertemp (channel : Fin 8) (range : Fin 3)
  /-- RUN: RUN with PARTITION 0 (R298). -/
  | run (qp : Fin 64) (d : List Byte)
  /-- PIECE_SEND: the oldest run of a context sends the pieces of the phase that is due, cut out of its part of the boundary tensor at an address in module DRAM (R327). -/
  | pieceSend (context : Fin 32) (addr : BitVec 64)
  /-- BARRIER_TIMEOUT: the oldest run of a context, or the oldest host barrier, has waited BARRIER_MS (R326, R330). -/
  | barrierTimeout (context : Option (Fin 32))
  /-- IHLEX_TILE_PUSH: IHLEX_PUSH with KIND 0; `data` is what host memory at SRC holds (R419). -/
  | ihlexTilePush (qp : Fin 64) (d : List Byte) (data : List Byte)
  /-- REMOTE_DOORBELL_PUSH: IHLEX_PUSH with KIND 1 (R419). -/
  | remoteDoorbellPush (qp : Fin 64) (d : List Byte)
  /-- HOST_BARRIER_JOIN: IHLEX_PUSH with KIND 2 (R330). -/
  | hostBarrierJoin (qp : Fin 64) (d : List Byte)
  /-- IHLEX_TILE: a TILE is received; the bytes follow the EtherType (R415). -/
  | ihlexTile (frame : List Byte)
  /-- IHLEX_ACK: an ACK is received (R416). -/
  | ihlexAck (frame : List Byte)
  /-- IHLEX_DOORBELL: a DOORBELL is received (R415). -/
  | ihlexDoorbell (frame : List Byte)
  /-- IHLEX_JOIN: a JOIN is received (R330). -/
  | ihlexJoin (frame : List Byte)
  /-- IHLEX_RELEASE: a RELEASE is received (R326). -/
  | ihlexRelease (frame : List Byte)
  /-- IHLEX_HELLO: a HELLO is received (R417). -/
  | ihlexHello (frame : List Byte)
  /-- ACK_TIMER: 20 µs have passed since the last TILE or DOORBELL of a sender (R414). -/
  | ackTimer (peer : Fin 1024)
  /-- RETRANSMIT_TIMEOUT: RTO_US has passed since a frame to a peer was last sent (R416). -/
  | retransmitTimeout (peer : Fin 1024)
  /-- HELLO_TIMER: a monitored peer has had no frame for HELLO_MS (R417). -/
  | helloTimer (peer : Fin 1024)
  /-- PEER_LOST_TIMEOUT: no valid frame has come from a monitored peer for LOST_MS (R417). -/
  | peerLostTimeout (peer : Fin 1024)
  /-- PEER_SLOT_RELEASE: nothing to a peer has been unacknowledged for 1 ms (R413). -/
  | peerSlotRelease (peer : Fin 1024)
  /-- CMP_LOAD: CMP_LOAD; `entries` is what host memory at ADDR holds (R362). -/
  | cmpLoad (qp : Fin 64) (d : List Byte) (entries : List Byte)
  /-- ENCODER_SAMPLE: a sample: the step in counts (MODE 1) or quadrature edges (MODE 2), and the 8 bits below the count (R360). -/
  | encoderSample (channel : Fin 4) (delta : Int) (frac : BitVec 8)
  /-- STANDSTILL: no movement of 2 counts for STANDSTILL_MS (R360). -/
  | standstill (channel : Fin 4)
  /-- SETTLING_END: the speed window has passed since the exit edge (R360). -/
  | settlingEnd (channel : Fin 4)
  /-- REFERENCE_MARK: the reference mark input is crossed (R356). -/
  | referenceMark (channel : Fin 4)
  /-- ENC_SIGNAL_FAULT: a supervision condition has held for its dwell (R359). -/
  | encSignalFault (channel : Fin 4)
  /-- ENC_FAULT_END: every supervision condition has been clear for 10 ms (R359). -/
  | encFaultEnd (channel : Fin 4)
  /-- ENC_AMPLITUDE_WARN: the amplitude has been outside its band for 1 ms, or the mark line has failed (R358). -/
  | encAmplitudeWarn (channel : Fin 4)
  /-- COMPARE_FIRE: the first entry that fires at the present sample leaves the list; when a direct edge is placed, in steps of 250 ps (R365). -/
  | compareFire (channel : Fin 4) (direct : BitVec 16)
  /-- CMP_EXPIRED: an entry's travel has exceeded its expiry (R366). -/
  | cmpExpired (channel : Fin 4)
  /-- PULSE_END: a running pulse of ACT0 to ACT7 or TRG0 to TRG3 (8 to 11) ends, of count width or of time width (R369). -/
  | pulseEnd (output : Fin 12) (count : Bool) (direct : BitVec 16)
  /-- GENERATOR_POINT: the next point of a generator is crossed (R371). -/
  | generatorPoint (generator : Fin 4) (direct : BitVec 16)
  /-- ACT_READBACK_FAULT: an ACT output has read back other than commanded for 100 µs (R372). -/
  | actReadbackFault (output : Fin 8)
  /-- ACT_TEST_PULSE: the test pulse of an ACT output, and whether it reads back (R372). -/
  | actTestPulse (output : Fin 8) (ok : Bool)
  /-- ACT_OVERLOAD: more than 0.75 A for 100 µs (R372). -/
  | actOverload (output : Fin 8)
  /-- OVERLOAD_HOLD_END: 1 s after an overload trip (R372). -/
  | overloadHoldEnd (output : Fin 8)
  /-- ACT_SUPPLY_LOST: the actuator supply has been below its threshold for 1 ms (R372). -/
  | actSupplyLost
  /-- ACT_SUPPLY_RESTORED: the actuator supply is back above its threshold (R372). -/
  | actSupplyRestored
  /-- ACT_MAX_ON: an ACT output has been on for MAX_ON (R372). -/
  | actMaxOn (output : Fin 8)
  /-- TRG_READBACK_FAULT: a TRG output has mismatched for more than 200 ns (R373). -/
  | trgReadbackFault (output : Fin 4)
  /-- MSW_EDGE: a debounced edge of a magnetic switch, its first transition at `t` (R374). -/
  | mswEdge (input : Fin 4) (rising : Bool) (t : BitVec 64)
  /-- FRAME_RECEIVE: an Ethernet frame without its FCS on an external port, whether its FCS is good, and its ingress time stamp at the PHY (R401). -/
  | frameReceive (port : Fin 6) (frame : List Byte) (fcsOk : Bool) (stamp : BitVec 64)
  /-- GATE_ENTRY: the next entry of a gate list opens (R403). -/
  | gateEntry (list : Fin 2)
  /-- FDB_AGEING: a learned entry has been unused for AGE_S (R400). -/
  | fdbAgeing (mac : BitVec 48) (vid : BitVec 12)
  /-- ETHERNET_LINK_CHANGE: the link of a switch port goes up or down (R396). -/
  | ethernetLinkChange (port : Fin 6) (up : Bool)
  /-- SERIAL_CHARACTER: a character: the data bits sent, its start edge, the end of its last stop bit, how the line carries it, and the amplitude of its start bit in mV (R422). -/
  | serialCharacter (port : Fin 2) (value : BitVec 8) (first : BitVec 64) (last : BitVec 64) (line : SerialLine) (amplitude : BitVec 16)
  /-- SERIAL_IDLE: the line has been idle for IDLE_BITS (R424). -/
  | serialIdle (port : Fin 2)
  /-- AMPLITUDE_STEP: the amplitude exceeds the reference by more than STEP_PCT; when the port is sending, after how many characters (R425, R428). -/
  | amplitudeStep (port : Fin 2) (sending : Option (Fin 1024))
  /-- SERIAL_SEND: the front frame is sent after an idle gap; in half-duplex mode, after how many characters one read back wrong (R427, R428). -/
  | serialSend (port : Fin 2) (mismatch : Option (Fin 1024))
  /-- JOURNAL_READ: JOURNAL_READ (R77). -/
  | journalRead (qp : Fin 64) (d : List Byte)
  deriving DecidableEq, Repr

end Sys2Proof
end

