-- ==== Sys2Proof/Decode.lean ====
section
/-! DEFINITION. Words of commands: spec/opcode_table.json gives no command any bits, so no word spells one. -/
namespace Sys2Proof

/-- The command that a word spells by the table's bits: none, as no row of the table gives bits. -/
def decodeTableWord (_nbits _w : Nat) : Option Instr := none

end Sys2Proof
end

