-- ==== Sys2Proof/Config.lean ====
section
/-! DEFINITION. What one implementation fixes and the spec leaves open: opaque constants, of which no value can be proved. -/
namespace Sys2Proof.Config

/-- Free values: the n-th value that the spec leaves undefined, as 64 bits. The step reads it at the counter
`State.freeCount` and advances the counter (DESIGN CHOICE, log entry 2). -/
opaque freeValue : Nat → BitVec 64

/-- What a register whose value the spec leaves open reads as: by its offset and the same counter (DESIGN CHOICE, log entry 2). -/
opaque freeRegister : Nat → Nat → BitVec 64

/-- FW_BUILD of SYS_MANUAL_EDITION: "per release" (R17, Table 0.10). -/
opaque fwBuild : BitVec 16

/-- SW_MAC: the factory MAC of the internal port (Table 17.8). -/
opaque factoryMac : BitVec 48

/-- TB_Pp_LAT of port p: the factory latency corrections (Table 16.7). -/
opaque factoryLatency : Nat → BitVec 32

/-- Whether a channel of a converted YUV triple that is not whole is rounded up: by matrix (BT.601?), range (full?), Y, U, V and channel. The spec states no rounding of the conversion
(R133, Table 5.7; DESIGN CHOICE, log entry 40). -/
opaque yuvRoundsUp : Bool → Bool → BitVec 8 → BitVec 8 → BitVec 8 → Fin 3 → Bool

/-- Whether full scale of a converted channel is 65,535, or 255 × 256 as R140 unpacks an 8-bit sample: the spec does not say (DESIGN CHOICE, log entry 40). -/
opaque yuvFullScale : Bool

/-- The mono output of a colour pixel (ISP_Pp_CTRL.OUT 0 or 1 on colour data): the spec states no formula (DESIGN CHOICE, log entry 41). -/
opaque ispMono : BitVec 16 → BitVec 16 → BitVec 16 → BitVec 16

/-- The RGB output of a mono pixel (ISP_Pp_CTRL.OUT 2 or 3 on mono data): the spec states no formula (DESIGN CHOICE, log entry 41). -/
opaque ispColour : BitVec 16 → Fin 3 → BitVec 16

/-- The integer result of a SCALE stage whose input is a float: Table 9.5 gives none (DESIGN CHOICE, log entry 42). Arguments: the FP32 input, M
and S. -/
opaque scaleFloatToInt : BitVec 32 → BitVec 32 → Nat → Int

/-- What the module finds in the parts of a schedule image that are opaque to its reader (R277, R296): whether the image's sequencer
programs and declared buffers pass the given row of Table 11.5 (11, 12) or of Table 12.3 (8), and its block patterns those of Table 14.3 (15, 16)
(DESIGN CHOICE, log entry 43). -/
opaque opaqueRowOk : List Byte → Nat → Bool

/-- What a 32-bit accumulator holds for a sum beyond INT32, which the spec does not state (log entry 176). -/
opaque accBeyond : Int → BitVec 32

/-- The set of its slice in which a line is placed: the spec does not specify it (10.7). -/
opaque llcSet : Nat → BitVec 11

/-- The FP32 sum of products of BF16 operands and weights on the digital product unit or the vector unit: the spec does not state the order or the rounding of its additions (log entry 176). -/
opaque productBf16 : List (BitVec 16) → List (BitVec 16) → BitVec 32

/-- The engines to which the opaque part of an image assigns stripes of the group record at an index, as a mask (R206, DESIGN CHOICE, log entry 43). -/
opaque groupEngines : List Byte → Nat → BitVec 16

/-- Does a job of a Fixed-gear image, by its opaque programs, read the sample of an intake region (index, then job)? (R210, DESIGN CHOICE, log entry 43) -/
opaque jobReads : List Byte → Nat → Nat → Bool

/-- Where in a FIXED window an image supplies the tensor of its test region: its opaque programs say (R287, DESIGN CHOICE, log entry 43). -/
opaque testTensor : List Byte → BitVec 35

/-- Does the opaque part of an image write the output of the group record at an index to a RUN's OUT_ADDR? (R217, DESIGN CHOICE, log entry 43) -/
opaque writesOut : List Byte → Nat → Bool

/-- The arrays that the model of a job uses, as the opaque programs of a Freewheel image name them (R105, DESIGN CHOICE, log entry 43); array 16e + m. -/
opaque jobUsesArray : List Byte → Nat → Nat → Bool

/-- The fixed plan of row sets of the 64 column reads (R350), which the spec does not give: read j drives the d rows that it ranks lowest, by read and row (DESIGN CHOICE, log entry 185). -/
opaque columnPlan : Nat → Nat → BitVec 32

/-- The parameters, less one, of a parameter block after block 0 of a KIND 1 problem, by its record and the block: its pattern is opaque (Table 14.1, R336; DESIGN CHOICE, log entry 185). -/
opaque blockSize : List Byte → Nat → Fin 9

/-- The factory values that ST17's alternate action loads (Table 3.1, DESIGN CHOICE, log entry 44): the trims of a physical array (32 × engine + array) at a column, gain in
[7:0] and offset in [15:8]. -/
opaque factoryTrim : Nat → Nat → BitVec 16

/-- The factory pose of a stream context, by byte of a CAMERA_POSE payload (DESIGN CHOICE, log entry 44). -/
opaque factoryPose : Nat → Nat → BitVec 8

/-- The factory counts per metre of an encoder channel (DESIGN CHOICE, log entry 44). -/
opaque factoryWheel : Nat → BitVec 64

/-- The VID and PCP of the frames that the internal port originates for the serial bridge: no register gives them (R426, DESIGN CHOICE, log entry 45). -/
opaque internalVid : BitVec 12
/-- See `internalVid`. -/
opaque internalPcp : BitVec 3
/-- The IPv4 header fields of a serial datagram that R426 does not state (DESIGN CHOICE, log entry 45): type of service. -/
opaque ipService : BitVec 8
/-- Identification, flags and fragment offset, by datagram. -/
opaque ipIdent : Nat → BitVec 32
/-- Time to live. -/
opaque ipTtl : BitVec 8
/-- UDP checksum, by datagram. -/
opaque udpSum : Nat → BitVec 16

/-- Which memory controller a scrub's request comes from, and whether a Hub request comes from lockstep pair 1 (Table 10.1, DESIGN CHOICE, log entry 159). -/
opaque scrubStop : BitVec 3
/-- See `scrubStop`. -/
opaque hubSouth : Bool

end Sys2Proof.Config
end

