-- ==== Sys2Proof/Machine/Bytes.lean ====
section
/-! DEFINITION. Bytes: little-endian fields (R2), CRC-32C, and byte lists. -/
namespace Sys2Proof.Machine

/-- The little-endian value of a list of bytes (R2). -/
def leVal : List Byte → Nat
  | [] => 0
  | b :: t => b.toNat + 256 * leVal t

/-- `n` bytes of `v`, low byte first (R2). -/
def leBytes : Nat → Nat → List Byte
  | 0, _ => []
  | n + 1, v => BitVec.ofNat 8 v :: leBytes n (v / 256)

/-- The field of `n` bytes at offset `off` of a structure; bytes past its end read as zero. -/
def rd (b : List Byte) (off n : Nat) : Nat := leVal ((b.drop off).take n)

/-- The signed field of `n` bytes at `off` (R3). -/
def rdInt (b : List Byte) (off n : Nat) : Int := toSigned (8 * n) (rd b off n)

/-- `n` bytes at offset `off`, padded with zeros. -/
def slice (b : List Byte) (off n : Nat) : List Byte :=
  let p := (b.drop off).take n
  p ++ List.replicate (n - p.length) 0

/-- One bit step of the reflected CRC with polynomial 0x82F6_3B78. -/
def crcBit : Nat → Nat → Nat
  | 0, c => c
  | k + 1, c => crcBit k (if c % 2 = 1 then (c / 2) ^^^ 0x82F63B78 else c / 2)

/-- The CRC register after the bytes, least significant bit first. -/
def crcRun : Nat → List Byte → Nat
  | c, [] => c
  | c, b :: t => crcRun (crcBit 8 (c ^^^ b.toNat)) t

/-- CRC-32C (Castagnoli): initial value and final inversion all ones (R235). -/
def crc32c (b : List Byte) : Nat := crcRun 0xFFFFFFFF b ^^^ 0xFFFFFFFF

/-- The natural numbers below `n`, rising. -/
def upTo (n : Nat) : List Nat := List.range n

/-- `l` with position `i` replaced by `v`. -/
def setAt {α : Type} : List α → Nat → α → List α
  | [], _, _ => []
  | _ :: t, 0, v => v :: t
  | a :: t, i + 1, v => a :: setAt t i v

/-- The list without its first element that satisfies `p`. -/
def dropFirst {α : Type} (p : α → Bool) : List α → List α
  | [] => []
  | a :: t => if p a then t else a :: dropFirst p t

/-- The bit mask of the numbers below `n` that satisfy `p`. -/
def maskOf (n : Nat) (p : Nat → Bool) : Nat :=
  (List.range n).foldl (fun m i => if p i then m + 2 ^ i else m) 0

/-- Is bit `i` of `m` set? -/
def bitOn (m i : Nat) : Bool := decide (m / 2 ^ i % 2 = 1)

/-! ### Network byte order -/

/-- The big-endian value of a list of bytes. -/
def beVal (b : List Byte) : Nat := leVal b.reverse
/-- `n` bytes of `v`, high byte first. -/
def beBytes (n v : Nat) : List Byte := (leBytes n v).reverse
/-- The big-endian field of `n` bytes at `off`. -/
def rdBe (b : List Byte) (off n : Nat) : Nat := beVal ((b.drop off).take n)
/-- `b` with `v` at offset `off`. -/
def putBytes (b : List Byte) (off : Nat) (v : List Byte) : List Byte := b.take off ++ v ++ b.drop (off + v.length)

/-- An element put where it keeps a list in the order of a key. -/
def insertBy {α : Type} (key : α → Nat) (x : α) : List α → List α
  | [] => [x]
  | y :: t => if key x < key y then x :: y :: t else y :: insertBy key x t

/-- The list in the order of a key; equal keys keep their order. -/
def orderBy {α : Type} (key : α → Nat) : List α → List α
  | [] => []
  | x :: t => insertBy key x (orderBy key t)

end Sys2Proof.Machine
end

