-- ==== Sys2Proof/Machine/Causes.lean ====
section
/-! DEFINITION. Fault codes (R16) by the names that the spec's cause tables give them. -/
namespace Sys2Proof.Machine

abbrev Cause.UNALIGNED_ACCESS : Nat := 0x0001
abbrev Cause.UNMAPPED_ACCESS : Nat := 0x0002
abbrev Cause.LOCKED_WRITE : Nat := 0x0003
abbrev Cause.STEP_FAILED : Nat := 0x0004
abbrev Cause.STEP_ALTERNATE : Nat := 0x0005
abbrev Cause.STEP_SKIPPED : Nat := 0x0006
abbrev Cause.SNAPSHOT_INVALID : Nat := 0x0009
abbrev Cause.LEVEL_SHED : Nat := 0x0041
abbrev Cause.LEVEL_RESTORED : Nat := 0x0042
abbrev Cause.INPUT_INTERRUPTED : Nat := 0x0043
abbrev Cause.INPUT_OVERVOLTAGE : Nat := 0x0044
abbrev Cause.BANK_WORN : Nat := 0x0045
abbrev Cause.ORDERLY_OFF : Nat := 0x0047
abbrev Cause.WAKE_ABANDONED : Nat := 0x0048
abbrev Cause.PWR_BAD_CONFIG : Nat := 0x0049
abbrev Cause.BASEPLATE_HOT : Nat := 0x004A
abbrev Cause.POWER_DERATE : Nat := 0x004B
abbrev Cause.HEADER_COPY_USED : Nat := 0x00C1
abbrev Cause.RECORD_TORN : Nat := 0x00C2
abbrev Cause.BAD_DOORBELL : Nat := 0x0101
abbrev Cause.DOORBELL_IGNORED : Nat := 0x0102
abbrev Cause.BAD_OPCODE_SEEN : Nat := 0x0103
abbrev Cause.BAD_FIELD : Nat := 0x0104
abbrev Cause.QP_BUSY : Nat := 0x0105
abbrev Cause.CQ_STALL : Nat := 0x0106
abbrev Cause.HIF_BAD_CONFIG : Nat := 0x0107
abbrev Cause.FLR_RECEIVED : Nat := 0x010C
abbrev Cause.LINK_DOWN : Nat := 0x0141
abbrev Cause.LINE_INCOMPLETE : Nat := 0x0142
abbrev Cause.TRIGGER_MISSED : Nat := 0x0143
abbrev Cause.LINE_UNTRIGGERED : Nat := 0x0144
abbrev Cause.LINE_OVERRUN : Nat := 0x0145
abbrev Cause.CXP_FORMAT : Nat := 0x0146
abbrev Cause.CTL_TIMEOUT : Nat := 0x0147
abbrev Cause.CXP_BAD_CONFIG : Nat := 0x0148
abbrev Cause.APY_LINK_DOWN : Nat := 0x0181
abbrev Cause.CSI_HEADER_ERROR : Nat := 0x0183
abbrev Cause.CSI_CRC_ERROR : Nat := 0x0184
abbrev Cause.FRAME_INCOMPLETE : Nat := 0x0185
abbrev Cause.SENSOR_WRITE_LATE : Nat := 0x0186
abbrev Cause.SENSOR_WRITE_NAK : Nat := 0x0187
abbrev Cause.APY_BAD_CONFIG : Nat := 0x0188
abbrev Cause.DECODE_GAP : Nat := 0x01C1
abbrev Cause.STREAM_SILENT : Nat := 0x01C2
abbrev Cause.BITSTREAM_ERROR : Nat := 0x01C3
abbrev Cause.UNSUPPORTED_STREAM : Nat := 0x01C4
abbrev Cause.DEC_BAD_CONFIG : Nat := 0x01C5
abbrev Cause.LANE_OVERRUN : Nat := 0x0201
abbrev Cause.TABLE_FETCH_FAILED : Nat := 0x0202
abbrev Cause.ISP_BAD_CONFIG : Nat := 0x0203
abbrev Cause.INTAKE_OVERFLOW : Nat := 0x0241
abbrev Cause.INTAKE_GEOMETRY : Nat := 0x0242
abbrev Cause.DEST_BUSY : Nat := 0x0243
abbrev Cause.SAMPLE_EXPIRED : Nat := 0x0244
abbrev Cause.SAMPLE_NEVER : Nat := 0x0245
abbrev Cause.TIN_BAD_CONFIG : Nat := 0x0246
abbrev Cause.PATROL_CELL_ERROR : Nat := 0x0282
abbrev Cause.PROGRAM_VERIFY_FAILED : Nat := 0x0284
abbrev Cause.BAD_WEIGHT_IMAGE : Nat := 0x0285
abbrev Cause.ENDURANCE_LOW : Nat := 0x0286
abbrev Cause.TRIM_LIMIT : Nat := 0x0287
abbrev Cause.ARRAY_RETIRED : Nat := 0x0288
abbrev Cause.ENG_BAD_CONFIG : Nat := 0x028B
abbrev Cause.STRIPE_TABLE_INVALID : Nat := 0x028C
abbrev Cause.INPUT_SHAPE : Nat := 0x028D
abbrev Cause.FRC_NONFINITE : Nat := 0x028E
abbrev Cause.FRC_BAD_GROUP : Nat := 0x028F
abbrev Cause.CHAIN_TABLE_INVALID : Nat := 0x0290
abbrev Cause.POST_LIMIT : Nat := 0x0291
abbrev Cause.ARRIVAL_DUPLICATE : Nat := 0x0293
abbrev Cause.SLOT_TABLE_INVALID : Nat := 0x02C5
abbrev Cause.CRG_BAD_CONFIG : Nat := 0x02C6
abbrev Cause.ECC_REPEAT : Nat := 0x0303
abbrev Cause.LAYOUT_CHANGE : Nat := 0x0307
abbrev Cause.LAYOUT_INVALID : Nat := 0x0308
abbrev Cause.SCRUB_LATE : Nat := 0x0309
abbrev Cause.MEM_BAD_CONFIG : Nat := 0x030A
abbrev Cause.LLC_BAD_CONFIG : Nat := 0x0344
abbrev Cause.IMAGE_INVALID : Nat := 0x0381
abbrev Cause.VARIANT_PACED : Nat := 0x0382
abbrev Cause.VARIANT_NONE : Nat := 0x0383
abbrev Cause.ITERATION_ABANDONED : Nat := 0x0388
abbrev Cause.TEST_MISMATCH : Nat := 0x038A
abbrev Cause.FXG_BAD_CONFIG : Nat := 0x038B
abbrev Cause.FW_IMAGE_INVALID : Nat := 0x03C1
abbrev Cause.CONTEXT_KILLED : Nat := 0x03C4
abbrev Cause.FWH_BAD_CONFIG : Nat := 0x03C6
abbrev Cause.MAP_MISMATCH : Nat := 0x03C7
abbrev Cause.BARRIER_TIMEOUT : Nat := 0x03C8
abbrev Cause.MEMBER_LOST : Nat := 0x03C9
abbrev Cause.WARN_AVAIL_RESTORED : Nat := 0x0404
abbrev Cause.CAD_BAD_CONFIG : Nat := 0x0405
abbrev Cause.IHX_PEER_LOST : Nat := 0x0441
abbrev Cause.IHX_PEER_BACK : Nat := 0x0442
abbrev Cause.IHX_WINDOW_FULL : Nat := 0x0443
abbrev Cause.IHX_REMOTE_REJECT : Nat := 0x0444
abbrev Cause.IHX_BAD_ADDR : Nat := 0x0445
abbrev Cause.IHX_BAD_FRAME : Nat := 0x0446
abbrev Cause.IHX_NO_ROUTE : Nat := 0x0447
abbrev Cause.IHX_BAD_CONFIG : Nat := 0x0449
abbrev Cause.SOLVE_FAILED : Nat := 0x0481
abbrev Cause.TRUING_STALE : Nat := 0x0482
abbrev Cause.TRUING_CLAMPED : Nat := 0x0483
abbrev Cause.SLIP_DETECTED : Nat := 0x0484
abbrev Cause.TRIM_DUE : Nat := 0x0485
abbrev Cause.TRUING_DIR_INVALID : Nat := 0x0486
abbrev Cause.STORE_WRITE_FAILED : Nat := 0x0487
abbrev Cause.TRU_BAD_CONFIG : Nat := 0x0489
abbrev Cause.CMP_LIST_FULL : Nat := 0x04C2
abbrev Cause.CMP_EXPIRED : Nat := 0x04C3
abbrev Cause.CMP_DISCARDED : Nat := 0x04C4
abbrev Cause.CMP_BAD_ENTRY : Nat := 0x04C5
abbrev Cause.CMP_NO_SCALE : Nat := 0x04C6
abbrev Cause.ENC_AMPLITUDE_WARN : Nat := 0x04C7
abbrev Cause.ENC_REQUALIFIED : Nat := 0x04C9
abbrev Cause.REF_DEVIATION : Nat := 0x04CA
abbrev Cause.POS_STORE_INVALID : Nat := 0x04CB
abbrev Cause.ACT_MAX_ON : Nat := 0x04CD
abbrev Cause.GEN_OVERRUN : Nat := 0x04D1
abbrev Cause.SPK_BAD_CONFIG : Nat := 0x04D2
abbrev Cause.TIME_STEP : Nat := 0x0501
abbrev Cause.REF_LOST : Nat := 0x0502
abbrev Cause.REF_ACQUIRED : Nat := 0x0503
abbrev Cause.HOLDOVER_EXPIRED : Nat := 0x0504
abbrev Cause.STEP_BACK_DUE : Nat := 0x0505
abbrev Cause.PPS_IN_REJECTED : Nat := 0x0506
abbrev Cause.LAUNCH_LINK_DOWN : Nat := 0x0508
abbrev Cause.TB_BAD_CONFIG : Nat := 0x0509
abbrev Cause.SW_QUEUE_DROP : Nat := 0x0541
abbrev Cause.SW_BAD_CONFIG : Nat := 0x0542
abbrev Cause.SER_COLLISION : Nat := 0x0581
abbrev Cause.SER_TX_COLLISION : Nat := 0x0582
abbrev Cause.SER_TX_DROP : Nat := 0x0583
abbrev Cause.SER_BAD_CONFIG : Nat := 0x0584
abbrev Cause.TEMP_HIGH : Nat := 0x05D1
abbrev Cause.BRK_BAD_CONFIG : Nat := 0x05D2
abbrev Cause.JOURNAL_REFORMATTED : Nat := 0x10C3
abbrev Cause.CSI_ECC_CORRECTED : Nat := 0x1182
abbrev Cause.SUMS_REPAIRED : Nat := 0x1283
abbrev Cause.CRG_CORRECTED : Nat := 0x12C1
abbrev Cause.ECC_CORRECTED : Nat := 0x1301
abbrev Cause.LLC_CORRECTED : Nat := 0x1341
abbrev Cause.SINGLE_HALF : Nat := 0x1384
abbrev Cause.DMA_READ_ERROR : Nat := 0x2108
abbrev Cause.FETCH_ERROR : Nat := 0x2109
abbrev Cause.CPL_WRITE_ERROR : Nat := 0x210A
abbrev Cause.SENSOR_LOST : Nat := 0x2189
abbrev Cause.CHECK_MISMATCH : Nat := 0x2281
abbrev Cause.ARRIVAL_LATE : Nat := 0x2292
abbrev Cause.CRG_POISON : Nat := 0x22C2
abbrev Cause.CRG_UNREACHABLE : Nat := 0x22C4
abbrev Cause.ECC_UNCORRECTABLE : Nat := 0x2302
abbrev Cause.NO_WINDOW : Nat := 0x2305
abbrev Cause.FIXED_WRITE : Nat := 0x2306
abbrev Cause.LLC_UNCORRECTABLE : Nat := 0x2342
abbrev Cause.PAIR_MISMATCH : Nat := 0x2385
abbrev Cause.BOTH_WITHHELD : Nat := 0x2386
abbrev Cause.TASK_FAULT : Nat := 0x23C3
abbrev Cause.SAVE_CORRUPT : Nat := 0x23C5
abbrev Cause.IHX_ID_CONFLICT : Nat := 0x2448
abbrev Cause.TRU_DATA_FAULT : Nat := 0x2488
abbrev Cause.ENC_SIGNAL_FAULT : Nat := 0x24C8
abbrev Cause.ACT_OVERLOAD : Nat := 0x24CC
abbrev Cause.ACT_SUPPLY_LOST : Nat := 0x24D0
abbrev Cause.CHAIN_TIMEOUT : Nat := 0x25CF
abbrev Cause.OBSTACLE_INPUT_LOST : Nat := 0x25D0
abbrev Cause.BANK_FAILED : Nat := 0x3046
abbrev Cause.CRYSTAL_FAIL : Nat := 0x3082
abbrev Cause.JOURNAL_FAILED : Nat := 0x30C4
abbrev Cause.LINK_LOST : Nat := 0x310B
abbrev Cause.ARRAY_UNUSABLE : Nat := 0x3289
abbrev Cause.CHECK_LANE_FAULT : Nat := 0x328A
abbrev Cause.CRG_HEADER_ERROR : Nat := 0x32C3
abbrev Cause.DRAM_OVERTEMP : Nat := 0x3304
abbrev Cause.DIRECTORY_ERROR : Nat := 0x3343
abbrev Cause.SEQUENCE_DEVIATION : Nat := 0x3387
abbrev Cause.PARTITION_HALTED : Nat := 0x3389
abbrev Cause.ACT_READBACK_FAULT : Nat := 0x34CE
abbrev Cause.TRG_READBACK_FAULT : Nat := 0x34CF
abbrev Cause.SELFTEST_DEGRADED : Nat := 0x35CD
abbrev Cause.STEM_FAULT : Nat := 0x35CE
abbrev Cause.MAINTENANCE : Nat := 0x4007
abbrev Cause.START_LOOP : Nat := 0x4008
abbrev Cause.STRAP_INVALID : Nat := 0x4081
abbrev Cause.HUB_LOCKSTEP : Nat := 0x45C1
abbrev Cause.HUB_WATCHDOG : Nat := 0x45C2
abbrev Cause.HUB_DATA_POISON : Nat := 0x45C3
abbrev Cause.CLOCK_FAULT : Nat := 0x45C4
abbrev Cause.RAIL_FAULT : Nat := 0x45C5
abbrev Cause.TEMP_CRITICAL : Nat := 0x45C6
abbrev Cause.BRK_CHANNEL_MISMATCH : Nat := 0x45C7
abbrev Cause.SAFE_OK_READBACK : Nat := 0x45C8
abbrev Cause.WARN_READBACK : Nat := 0x45C9
abbrev Cause.EXT_WATCHDOG : Nat := 0x45CA
abbrev Cause.QUEUE_OVERFLOW : Nat := 0x45CB
abbrev Cause.SELFTEST_FAILED : Nat := 0x45CC
abbrev Cause.ADMIT_OVERFLOW : Nat := 0x53C2
abbrev Cause.JOB_MISSED : Nat := 0x5401
abbrev Cause.DECISION_MISSED : Nat := 0x5402
abbrev Cause.FALLBACK_MISSED : Nat := 0x5403
abbrev Cause.LATE_ACTUATION : Nat := 0x54C1
abbrev Cause.LAUNCH_LATE : Nat := 0x5507

end Sys2Proof.Machine
end

