-- ==== Sys2Proof/Machine/RegNames.lean ====
section
/-! DEFINITION. Names for the register offsets and the register fields that the meanings use, as the spec spells them. -/
namespace Sys2Proof.Machine

/-- A field of a register: the BAR0 offset of its register and its bits [hi:lo]. -/
structure Fld where
  off : Nat
  hi : Nat
  lo : Nat
  deriving DecidableEq, Repr

abbrev Reg.SYS_LOCK : Nat := 0x10
abbrev Fld.SYS_LOCK_LOCK : Fld := ⟨0x10, 0, 0⟩
abbrev Fld.SYS_LOCK_VIOLATIONS_COUNT : Fld := ⟨0x14, 31, 0⟩
abbrev Fld.SYS_LOCK_LAST_OFFSET_OFFSET : Fld := ⟨0x18, 19, 0⟩
abbrev Fld.SYS_LOCK_LAST_VALUE_VALUE : Fld := ⟨0x1C, 15, 0⟩
abbrev Reg.SYS_CONTROL : Nat := 0x20
abbrev Fld.SYS_CONTROL_RESTART : Fld := ⟨0x20, 1, 1⟩
abbrev Reg.PWR_CONFIG : Nat := 0x1010
abbrev Fld.PWR_CONFIG_RESTORE_DWELL : Fld := ⟨0x1010, 23, 16⟩
abbrev Fld.PWR_CONFIG_DOZE_TO_HOLD : Fld := ⟨0x1010, 15, 0⟩
abbrev Fld.PWR_EVENTS_INTERRUPTIONS : Fld := ⟨0x1014, 31, 16⟩
abbrev Fld.PWR_EVENTS_SHEDS : Fld := ⟨0x1014, 15, 0⟩
abbrev Fld.PWR_THERMAL_BASEPLATE : Fld := ⟨0x1018, 31, 16⟩
abbrev Fld.PWR_THERMAL_DIE : Fld := ⟨0x1018, 15, 0⟩
abbrev Fld.PWR_POWER_LIMIT : Fld := ⟨0x101C, 31, 16⟩
abbrev Fld.PWR_POWER_PIN : Fld := ⟨0x101C, 15, 0⟩
abbrev Fld.PWR_FIELD_SAFE_SUP : Fld := ⟨0x1020, 31, 16⟩
abbrev Reg.SPR_WAKE_ENABLE : Nat := 0x2000
abbrev Reg.SPR_WAKE_CAUSE : Nat := 0x2004
abbrev Fld.SPR_WAKE_CAUSE_SUPPLY : Fld := ⟨0x2004, 8, 8⟩
abbrev Fld.SPR_MOTION_EDGES : Fld := ⟨0x2008, 15, 0⟩
abbrev Fld.SPR_DOOR_POLARITY : Fld := ⟨0x200C, 7, 4⟩
abbrev Fld.SPR_DOOR_SELECT : Fld := ⟨0x200C, 3, 0⟩
abbrev Reg.JRN_STEP_CLEAR : Nat := 0x3024
abbrev Fld.HIF_CONFIG_QP0_FIRST : Fld := ⟨0x4004, 16, 16⟩
abbrev Reg.HIF_QP_n_SQ_BASE (n : Nat) : Nat := 0x4800 + n * 0x20
abbrev Reg.HIF_QP_n_CQ_BASE (n : Nat) : Nat := 0x4808 + n * 0x20
abbrev Reg.HIF_QP_n_CFG (n : Nat) : Nat := 0x4810 + n * 0x20
abbrev Fld.HIF_QP_n_CFG_CQ_LOG2 (n : Nat) : Fld := ⟨0x4810 + n * 0x20, 20, 16⟩
abbrev Fld.HIF_QP_n_CFG_SQ_LOG2 (n : Nat) : Fld := ⟨0x4810 + n * 0x20, 12, 8⟩
abbrev Fld.HIF_QP_n_CFG_WEIGHT (n : Nat) : Fld := ⟨0x4810 + n * 0x20, 3, 0⟩
abbrev Fld.HIF_QP_n_IRQ_VECTOR (n : Nat) : Fld := ⟨0x4814 + n * 0x20, 5, 0⟩
abbrev Fld.HIF_VEC_n_MOD_TIME_US (n : Nat) : Fld := ⟨0x5000 + n * 0x4, 23, 8⟩
abbrev Fld.HIF_VEC_n_MOD_COUNT (n : Nat) : Fld := ⟨0x5000 + n * 0x4, 7, 0⟩
abbrev Reg.MSIX_ADDR_LO (n : Nat) : Nat := 0x6000 + n * 0x10
abbrev Reg.MSIX_ADDR_HI (n : Nat) : Nat := 0x6004 + n * 0x10
abbrev Reg.MSIX_DATA (n : Nat) : Nat := 0x6008 + n * 0x10
abbrev Fld.MSIX_CTRL_MASK (n : Nat) : Fld := ⟨0x600C + n * 0x10, 0, 0⟩
abbrev Reg.CXP_STATUS : Nat := 0x8000
abbrev Reg.CXP_CAMn_CFG (n : Nat) : Nat := 0x8010 + n * 0x10
abbrev Fld.CXP_CAMn_CFG_LINE_TIMEOUT (n : Nat) : Fld := ⟨0x8010 + n * 0x10, 23, 16⟩
abbrev Fld.CXP_CAMn_CFG_TRIG_EN (n : Nat) : Fld := ⟨0x8010 + n * 0x10, 15, 15⟩
abbrev Fld.CXP_CAMn_CFG_TRIG_GEN (n : Nat) : Fld := ⟨0x8010 + n * 0x10, 11, 10⟩
abbrev Fld.CXP_CAMn_CFG_MAX_SPEED (n : Nat) : Fld := ⟨0x8010 + n * 0x10, 7, 4⟩
abbrev Fld.CXP_CAMn_CFG_LINKS (n : Nat) : Fld := ⟨0x8010 + n * 0x10, 3, 2⟩
abbrev Fld.CXP_CAMn_CFG_ENABLE (n : Nat) : Fld := ⟨0x8010 + n * 0x10, 0, 0⟩
abbrev Fld.CXP_CAMn_INFO_LINKS_UP (n : Nat) : Fld := ⟨0x8014 + n * 0x10, 7, 4⟩
abbrev Fld.CXP_CAMn_INFO_SPEED (n : Nat) : Fld := ⟨0x8014 + n * 0x10, 3, 0⟩
abbrev Reg.CXP_CAMn_LINES (n : Nat) : Nat := 0x8018 + n * 0x10
abbrev Reg.CXP_CTL_DATA : Nat := 0x8044
abbrev Reg.CXP_CTL_CMD : Nat := 0x8048
abbrev Fld.CXP_CTL_CMD_BUSY : Fld := ⟨0x8048, 31, 31⟩
abbrev Fld.CXP_CTL_CMD_RESULT : Fld := ⟨0x8048, 30, 28⟩
abbrev Fld.CXP_CTL_CMD_CAMERA : Fld := ⟨0x8048, 8, 8⟩
abbrev Fld.CXP_CTL_CMD_OP : Fld := ⟨0x8048, 1, 0⟩
abbrev Reg.APY_PORTn_STATUS (n : Nat) : Nat := 0x9000 + n * 0x4
abbrev Fld.APY_PORTn_STATUS_LINK_UP (n : Nat) : Fld := ⟨0x9000 + n * 0x4, 4, 4⟩
abbrev Fld.APY_PORTn_STATUS_GEAR (n : Nat) : Fld := ⟨0x9000 + n * 0x4, 3, 0⟩
abbrev Reg.APY_PORTn_CFG (n : Nat) : Nat := 0x9010 + n * 0x4
abbrev Fld.APY_PORTn_CFG_ENABLE (n : Nat) : Fld := ⟨0x9010 + n * 0x4, 8, 8⟩
abbrev Fld.APY_PORTn_CFG_MAX_GEAR (n : Nat) : Fld := ⟨0x9010 + n * 0x4, 2, 0⟩
abbrev Reg.APY_Sn_CFG (n : Nat) : Nat := 0x9100 + n * 0x40
abbrev Fld.APY_Sn_CFG_DELAY (n : Nat) : Fld := ⟨0x9100 + n * 0x40, 31, 28⟩
abbrev Fld.APY_Sn_CFG_FS_TIMEOUT (n : Nat) : Fld := ⟨0x9100 + n * 0x40, 23, 16⟩
abbrev Fld.APY_Sn_CFG_VAL16 (n : Nat) : Fld := ⟨0x9100 + n * 0x40, 15, 15⟩
abbrev Fld.APY_Sn_CFG_I2C_FAST (n : Nat) : Fld := ⟨0x9100 + n * 0x40, 14, 14⟩
abbrev Fld.APY_Sn_CFG_I2C_ADDR (n : Nat) : Fld := ⟨0x9100 + n * 0x40, 6, 0⟩
abbrev Reg.APY_Sn_Wk (n : Nat) (k : Nat) : Nat := 0x9104 + n * 0x40 + k * 0x4
abbrev Fld.APY_Sn_WMASK_MASK (n : Nat) : Fld := ⟨0x9124 + n * 0x40, 7, 0⟩
abbrev Fld.APY_Sn_FRAMES_COUNT (n : Nat) : Fld := ⟨0x9128 + n * 0x40, 31, 0⟩
abbrev Fld.APY_Sn_DROPPED_COUNT (n : Nat) : Fld := ⟨0x912C + n * 0x40, 31, 0⟩
abbrev Fld.DEC_CONFIG_SILENT_MS : Fld := ⟨0xA000, 15, 0⟩
abbrev Reg.DEC_Cc_MATCH (n : Nat) : Nat := 0xA100 + n * 0x20
abbrev Fld.DEC_Cc_MATCH_UDP_PORT (n : Nat) : Fld := ⟨0xA100 + n * 0x20, 31, 16⟩
abbrev Fld.DEC_Cc_MATCH_VLAN_ID (n : Nat) : Fld := ⟨0xA100 + n * 0x20, 11, 0⟩
abbrev Reg.DEC_Cc_FLOW (n : Nat) : Nat := 0xA104 + n * 0x20
abbrev Fld.DEC_Cc_FLOW_SSRC_EN (n : Nat) : Fld := ⟨0xA104 + n * 0x20, 31, 31⟩
abbrev Fld.DEC_Cc_FLOW_CODEC (n : Nat) : Fld := ⟨0xA104 + n * 0x20, 30, 30⟩
abbrev Fld.DEC_Cc_FLOW_PT (n : Nat) : Fld := ⟨0xA104 + n * 0x20, 6, 0⟩
abbrev Reg.DEC_Cc_SSRC (n : Nat) : Nat := 0xA108 + n * 0x20
abbrev Reg.DEC_Cc_RATE (n : Nat) : Nat := 0xA10C + n * 0x20
abbrev Fld.DEC_Cc_RATE_MAX_W_MB (n : Nat) : Fld := ⟨0xA10C + n * 0x20, 31, 24⟩
abbrev Fld.DEC_Cc_RATE_MAX_H_MB (n : Nat) : Fld := ⟨0xA10C + n * 0x20, 23, 16⟩
abbrev Fld.DEC_Cc_RATE_FPS (n : Nat) : Fld := ⟨0xA10C + n * 0x20, 7, 0⟩
abbrev Fld.DEC_Cc_STATUS_GAPS (n : Nat) : Fld := ⟨0xA110 + n * 0x20, 31, 16⟩
abbrev Fld.DEC_Cc_PICTURES_COUNT (n : Nat) : Fld := ⟨0xA114 + n * 0x20, 31, 0⟩
abbrev Fld.ISP_STATUS_OVERRUN : Fld := ⟨0xB000, 3, 0⟩
abbrev Reg.ISP_FFn_SRC (n : Nat) : Nat := 0xB010 + n * 0x8
abbrev Reg.ISP_Pp_CTRL (n : Nat) : Nat := 0xB800 + n * 0x40
abbrev Fld.ISP_Pp_CTRL_BAYER (n : Nat) : Fld := ⟨0xB800 + n * 0x40, 11, 10⟩
abbrev Fld.ISP_Pp_CTRL_OUT (n : Nat) : Fld := ⟨0xB800 + n * 0x40, 9, 8⟩
abbrev Reg.ISP_Pp_LSC_SRC (n : Nat) : Nat := 0xB828 + n * 0x40
abbrev Reg.ISP_Pp_TONE_SRC (n : Nat) : Nat := 0xB830 + n * 0x40
abbrev Reg.TIN_POOL_BASE : Nat := 0xC008
abbrev Fld.TIN_POOL_BASE_BASE : Fld := ⟨0xC008, 34, 16⟩
abbrev Reg.TIN_POOL_SIZE : Nat := 0xC010
abbrev Fld.TIN_POOL_SIZE_MIB : Fld := ⟨0xC010, 15, 0⟩
abbrev Reg.TIN_Cn_POOL (n : Nat) : Nat := 0xC100 + n * 0x20
abbrev Fld.TIN_Cn_POOL_SLOTS (n : Nat) : Fld := ⟨0xC100 + n * 0x20, 31, 24⟩
abbrev Fld.TIN_Cn_POOL_SLOT_KIB (n : Nat) : Fld := ⟨0xC100 + n * 0x20, 16, 0⟩
abbrev Fld.TIN_Cn_DROPPED_COUNT (n : Nat) : Fld := ⟨0xC118 + n * 0x20, 31, 0⟩
abbrev Fld.TIN_Cn_DISCARDED_COUNT (n : Nat) : Fld := ⟨0xC11C + n * 0x20, 31, 0⟩
abbrev Fld.ENG_n_CFG_PATROL_MS (n : Nat) : Fld := ⟨0x10004 + n * 0x1000, 25, 16⟩
abbrev Fld.ENG_n_CFG_RETIRE_NOW_EN (n : Nat) : Fld := ⟨0x10004 + n * 0x1000, 8, 8⟩
abbrev Fld.ENG_n_CFG_TOL (n : Nat) : Fld := ⟨0x10004 + n * 0x1000, 7, 0⟩
abbrev Reg.ENG_n_MVMS (n : Nat) : Nat := 0x10008 + n * 0x1000
abbrev Reg.ENG_n_ROWPHASES (n : Nat) : Nat := 0x10010 + n * 0x1000
abbrev Fld.ENG_n_STALLS_COUNT (n : Nat) : Fld := ⟨0x10018 + n * 0x1000, 31, 0⟩
abbrev Fld.ENG_n_Am_ERRORS_PATROL (n : Nat) (k : Nat) : Fld := ⟨0x10108 + n * 0x1000 + k * 0x10, 31, 16⟩
abbrev Fld.ENG_n_Am_ERRORS_MISMATCH (n : Nat) (k : Nat) : Fld := ⟨0x10108 + n * 0x1000 + k * 0x10, 15, 0⟩
abbrev Reg.ENG_BUDGET : Nat := 0x10E00
abbrev Fld.ENG_BUDGET_PL3 : Fld := ⟨0x10E00, 31, 24⟩
abbrev Fld.ENG_BUDGET_PL2 : Fld := ⟨0x10E00, 23, 16⟩
abbrev Fld.ENG_BUDGET_PL1 : Fld := ⟨0x10E00, 15, 8⟩
abbrev Fld.ENG_BUDGET_PL0 : Fld := ⟨0x10E00, 7, 0⟩
abbrev Reg.ENG_n_STRIPE (n : Nat) : Nat := 0x10300 + n * 0x1000
abbrev Fld.ENG_n_LB_USED_BYTES (n : Nat) : Fld := ⟨0x10304 + n * 0x1000, 19, 0⟩
abbrev Reg.ENG_n_FRC_ENCODED (n : Nat) : Nat := 0x10308 + n * 0x1000
abbrev Reg.ENG_n_FRC_DECODED (n : Nat) : Nat := 0x10310 + n * 0x1000
abbrev Fld.ENG_n_FRC_ERRORS_BAD_GROUP (n : Nat) : Fld := ⟨0x10318 + n * 0x1000, 31, 16⟩
abbrev Fld.ENG_n_FRC_ERRORS_NONFINITE (n : Nat) : Fld := ⟨0x10318 + n * 0x1000, 15, 0⟩
abbrev Reg.ENG_n_CHAIN (n : Nat) : Nat := 0x10400 + n * 0x1000
abbrev Fld.ENG_n_EB_USED_BYTES (n : Nat) : Fld := ⟨0x10404 + n * 0x1000, 17, 0⟩
abbrev Fld.ENG_n_POSTED_COUNT (n : Nat) : Fld := ⟨0x10408 + n * 0x1000, 31, 0⟩
abbrev Fld.ENG_n_POST_DROPPED_LIMIT (n : Nat) : Fld := ⟨0x1040C + n * 0x1000, 31, 16⟩
abbrev Fld.ENG_n_POST_DROPPED_DIRECTION (n : Nat) : Fld := ⟨0x1040C + n * 0x1000, 15, 0⟩
abbrev Fld.ENG_n_CHAIN_SAT_COUNT (n : Nat) : Fld := ⟨0x10410 + n * 0x1000, 31, 0⟩
abbrev Fld.ENG_n_ARRIVAL_DUPLICATES (n : Nat) : Fld := ⟨0x10414 + n * 0x1000, 31, 16⟩
abbrev Fld.ENG_n_ARRIVAL_LATE (n : Nat) : Fld := ⟨0x10414 + n * 0x1000, 15, 0⟩
abbrev Reg.ENG_n_SIG_k (n : Nat) (k : Nat) : Nat := 0x10420 + n * 0x1000 + k * 0x4
abbrev Fld.CRG_CONFIG_STARVE : Fld := ⟨0x20004, 12, 0⟩
abbrev Fld.CRG_CLAIMS_COUNT : Fld := ⟨0x20014, 31, 0⟩
abbrev Reg.CRG_MAX_WAIT : Nat := 0x20018
abbrev Fld.CRG_ERRORS_POISONED : Fld := ⟨0x2001C, 31, 16⟩
abbrev Fld.CRG_ERRORS_CORRECTED : Fld := ⟨0x2001C, 15, 0⟩
abbrev Reg.CRG_STEM_N2S : Nat := 0x20020
abbrev Reg.CRG_STEM_S2N : Nat := 0x20028
abbrev Fld.MEM_STATUS_HOT : Fld := ⟨0x21000, 23, 16⟩
abbrev Fld.MEM_CONFIG_SCRUB_H : Fld := ⟨0x21004, 15, 8⟩
abbrev Fld.MEM_CONFIG_REFRESH_ADAPT : Fld := ⟨0x21004, 0, 0⟩
abbrev Fld.MEM_SCRUB_PASSES_COUNT : Fld := ⟨0x2100C, 31, 0⟩
abbrev Fld.MEM_Cn_ECC_UNCORRECTABLE (n : Nat) : Fld := ⟨0x21040 + n * 0x8, 31, 16⟩
abbrev Fld.MEM_Cn_ECC_CORRECTED (n : Nat) : Fld := ⟨0x21040 + n * 0x8, 15, 0⟩
abbrev Reg.MEM_Cn_ECC_LAST (n : Nat) : Nat := 0x21044 + n * 0x8
abbrev Fld.LLC_STATUS_SLICES_UP : Fld := ⟨0x22000, 31, 16⟩
abbrev Fld.LLC_STATUS_COHERENT : Fld := ⟨0x22000, 1, 1⟩
abbrev Fld.LLC_STATUS_CACHED : Fld := ⟨0x22000, 0, 0⟩
abbrev Fld.LLC_BACKINV_COUNT : Fld := ⟨0x22004, 31, 0⟩
abbrev Fld.LLC_ERRORS_UNCORRECTABLE : Fld := ⟨0x22008, 31, 16⟩
abbrev Fld.LLC_ERRORS_CORRECTED : Fld := ⟨0x22008, 15, 0⟩
abbrev Reg.LLC_COUNT_CLEAR : Nat := 0x2200C
abbrev Fld.LLC_CLASSk_WAYS_WAYS (n : Nat) : Fld := ⟨0x22200 + n * 0x4, 15, 0⟩
abbrev Reg.LLC_CLASSk_HITS (n : Nat) : Nat := 0x22300 + n * 0x10
abbrev Reg.LLC_CLASSk_MISSES (n : Nat) : Nat := 0x22308 + n * 0x10
abbrev Fld.FXG_CONFIG_TEST_EN : Fld := ⟨0x23004, 0, 0⟩
abbrev Reg.FXG_ITERATIONS : Nat := 0x23018
abbrev Reg.FXG_LAST_START : Nat := 0x23020
abbrev Reg.FXG_LAST_CYCLES : Nat := 0x23028
abbrev Fld.FXG_SKIPPED_COUNT : Fld := ⟨0x2302C, 31, 0⟩
abbrev Fld.FXG_PAIR_EVENTS_MISMATCH : Fld := ⟨0x23030, 31, 16⟩
abbrev Fld.FXG_PAIR_EVENTS_SINGLE : Fld := ⟨0x23030, 15, 0⟩
abbrev Fld.FXG_WITHHELD_DEVIATIONS : Fld := ⟨0x23034, 31, 16⟩
abbrev Fld.FXG_WITHHELD_BOTH : Fld := ⟨0x23034, 15, 0⟩
abbrev Fld.FXG_ABANDONED_COUNT : Fld := ⟨0x23038, 31, 0⟩
abbrev Fld.FWH_CONFIG_MIN_RUN_US : Fld := ⟨0x24004, 31, 16⟩
abbrev Fld.FWH_CONFIG_BIND_QP : Fld := ⟨0x24004, 13, 8⟩
abbrev Fld.FWH_CONFIG_PREEMPT_EN : Fld := ⟨0x24004, 0, 0⟩
abbrev Reg.FWH_SAVE_BASE : Nat := 0x24008
abbrev Reg.FWH_SAVE_FRAMES : Nat := 0x24010
abbrev Fld.FWH_SAVE_FRAMES_FRAMES : Fld := ⟨0x24010, 6, 0⟩
abbrev Reg.FWH_PREEMPTIONS : Nat := 0x24018
abbrev Reg.FWH_SAVE_MAX_NS : Nat := 0x24020
abbrev Fld.FWH_NO_FRAME_COUNT : Fld := ⟨0x24024, 31, 0⟩
abbrev Fld.FWH_TEARDOWNS_COUNT : Fld := ⟨0x24028, 31, 0⟩
abbrev Fld.FWH_CPL_LOST_COUNT : Fld := ⟨0x2402C, 31, 0⟩
abbrev Fld.FWH_MAP_CONFIG_BARRIER_MS : Fld := ⟨0x24040, 15, 0⟩
abbrev Reg.FWH_MAP_SENT : Nat := 0x24048
abbrev Reg.FWH_MAP_RECEIVED : Nat := 0x24050
abbrev Fld.FWH_MAP_ERRORS_MISMATCH : Fld := ⟨0x24058, 31, 16⟩
abbrev Fld.FWH_MAP_ERRORS_TIMEOUTS : Fld := ⟨0x24058, 15, 0⟩
abbrev Reg.FWH_MAP_BARRIER_MAX : Nat := 0x2405C
abbrev Fld.FWH_CTXc_RUNS_COUNT (n : Nat) : Fld := ⟨0x24104 + n * 0x8, 31, 0⟩
abbrev Fld.CAD_STATUS_GOOD : Fld := ⟨0x25000, 15, 8⟩
abbrev Fld.CAD_STATUS_AVAIL_OK : Fld := ⟨0x25000, 0, 0⟩
abbrev Fld.CAD_CONFIG_RECOVER : Fld := ⟨0x25004, 3, 0⟩
abbrev Fld.CAD_MISSES_DECISION : Fld := ⟨0x25008, 31, 16⟩
abbrev Fld.CAD_MISSES_RUN : Fld := ⟨0x25008, 15, 0⟩
abbrev Fld.CAD_FALLBACK_MISSES_COUNT : Fld := ⟨0x2500C, 31, 0⟩
abbrev Fld.CAD_LATE_DISCARDS_COUNT : Fld := ⟨0x25010, 31, 0⟩
abbrev Reg.CAD_LAST_MISS : Nat := 0x25018
abbrev Reg.CAD_LAST_JOB : Nat := 0x25020
abbrev Fld.IHX_ID_VALID : Fld := ⟨0x26004, 31, 31⟩
abbrev Fld.IHX_ID_SYSTEM : Fld := ⟨0x26004, 23, 16⟩
abbrev Fld.IHX_ID_ID : Fld := ⟨0x26004, 9, 0⟩
abbrev Fld.IHX_CONFIG_WINDOW : Fld := ⟨0x26008, 31, 24⟩
abbrev Fld.IHX_CONFIG_RETRIES : Fld := ⟨0x26008, 23, 16⟩
abbrev Fld.IHX_CONFIG_RTO_US : Fld := ⟨0x26008, 15, 0⟩
abbrev Reg.IHX_LIVENESS : Nat := 0x2600C
abbrev Fld.IHX_LIVENESS_LOST_MS : Fld := ⟨0x2600C, 31, 16⟩
abbrev Fld.IHX_LIVENESS_HELLO_MS : Fld := ⟨0x2600C, 15, 0⟩
abbrev Reg.IHX_VLAN : Nat := 0x26010
abbrev Fld.IHX_VLAN_TAGGED : Fld := ⟨0x26010, 15, 15⟩
abbrev Fld.IHX_VLAN_PCP : Fld := ⟨0x26010, 14, 12⟩
abbrev Reg.IHX_TX_TILES : Nat := 0x26018
abbrev Fld.IHX_RETRANS_COUNT : Fld := ⟨0x26020, 31, 0⟩
abbrev Fld.IHX_RX_BAD_COUNT : Fld := ⟨0x26024, 31, 0⟩
abbrev Reg.IHX_LOSTj (n : Nat) : Nat := 0x26100 + n * 0x4
abbrev Reg.IHX_ROUTEk (n : Nat) : Nat := 0x26200 + n * 0x4
abbrev Fld.TRU_CONFIG_TIME_LIMIT_MS : Fld := ⟨0x27004, 31, 16⟩
abbrev Fld.TRU_CONFIG_SLIP : Fld := ⟨0x27004, 15, 8⟩
abbrev Fld.TRU_CONFIG_DRIFT : Fld := ⟨0x27004, 7, 0⟩
abbrev Reg.TRU_WORK_BASE : Nat := 0x27008
abbrev Reg.TRU_WORK_SIZE : Nat := 0x27010
abbrev Fld.TRU_WORK_SIZE_MIB : Fld := ⟨0x27010, 10, 0⟩
abbrev Fld.TRU_SOLVES_FAILED : Fld := ⟨0x27014, 31, 16⟩
abbrev Fld.TRU_SOLVES_CONVERGED : Fld := ⟨0x27014, 15, 0⟩
abbrev Reg.TRU_DUE_n (n : Nat) : Nat := 0x27100 + n * 0x4
abbrev Fld.TRU_DUE_n_MASK (n : Nat) : Fld := ⟨0x27100 + n * 0x4, 15, 0⟩
abbrev Reg.SPK_ENCn_CFG (n : Nat) : Nat := 0x28100 + n * 0x40
abbrev Fld.SPK_ENCn_CFG_STANDSTILL_MS (n : Nat) : Fld := ⟨0x28100 + n * 0x40, 31, 24⟩
abbrev Fld.SPK_ENCn_CFG_WINDOW (n : Nat) : Fld := ⟨0x28100 + n * 0x40, 23, 16⟩
abbrev Fld.SPK_ENCn_CFG_REF_MSW (n : Nat) : Fld := ⟨0x28100 + n * 0x40, 11, 10⟩
abbrev Fld.SPK_ENCn_CFG_REF_MODE (n : Nat) : Fld := ⟨0x28100 + n * 0x40, 9, 8⟩
abbrev Fld.SPK_ENCn_CFG_INVERT (n : Nat) : Fld := ⟨0x28100 + n * 0x40, 2, 2⟩
abbrev Fld.SPK_ENCn_CFG_MODE (n : Nat) : Fld := ⟨0x28100 + n * 0x40, 1, 0⟩
abbrev Fld.SPK_ENCn_REF_REF_TOL (n : Nat) : Fld := ⟨0x28104 + n * 0x40, 31, 24⟩
abbrev Fld.SPK_ENCn_REF_REF_PERIOD (n : Nat) : Fld := ⟨0x28104 + n * 0x40, 23, 0⟩
abbrev Reg.SPK_ENCn_CPM (n : Nat) : Nat := 0x28108 + n * 0x40
abbrev Reg.SPK_ENCn_CPM_EFFECT (n : Nat) : Nat := 0x28110 + n * 0x40
abbrev Reg.SPK_ENCn_EXPIRY (n : Nat) : Nat := 0x28128 + n * 0x40
abbrev Fld.SPK_ENCn_FIRED_COUNT (n : Nat) : Fld := ⟨0x2812C + n * 0x40, 31, 0⟩
abbrev Fld.SPK_ENCn_CMP_DROPS_DISCARDED (n : Nat) : Fld := ⟨0x28130 + n * 0x40, 31, 16⟩
abbrev Fld.SPK_ENCn_CMP_DROPS_IMPRECISE (n : Nat) : Fld := ⟨0x28130 + n * 0x40, 15, 0⟩
abbrev Reg.SPK_ENCn_LAST_ID (n : Nat) : Nat := 0x28138 + n * 0x40
abbrev Fld.SPK_GENg_CFG_ENABLE (n : Nat) : Fld := ⟨0x28200 + n * 0x20, 31, 31⟩
abbrev Fld.SPK_GENg_CFG_UNIT (n : Nat) : Fld := ⟨0x28200 + n * 0x20, 8, 8⟩
abbrev Fld.SPK_GENg_CFG_DIR (n : Nat) : Fld := ⟨0x28200 + n * 0x20, 5, 4⟩
abbrev Fld.SPK_GENg_CFG_SOURCE (n : Nat) : Fld := ⟨0x28200 + n * 0x20, 1, 0⟩
abbrev Reg.SPK_GENg_SPACING (n : Nat) : Nat := 0x28204 + n * 0x20
abbrev Reg.SPK_GENg_START (n : Nat) : Nat := 0x28208 + n * 0x20
abbrev Reg.SPK_GENg_END (n : Nat) : Nat := 0x28210 + n * 0x20
abbrev Fld.SPK_GENg_OVERRUN_COUNT (n : Nat) : Fld := ⟨0x28218 + n * 0x20, 31, 0⟩
abbrev Fld.SPK_ACTn_CFG_TEST_EN (n : Nat) : Fld := ⟨0x28300 + n * 0x8, 31, 31⟩
abbrev Fld.SPK_ACTn_CFG_MAX_ON (n : Nat) : Fld := ⟨0x28300 + n * 0x8, 23, 16⟩
abbrev Fld.SPK_ACTn_CFG_LEAD_US (n : Nat) : Fld := ⟨0x28300 + n * 0x8, 15, 0⟩
abbrev Fld.SPK_TRGn_CFG_WIDTH_10NS (n : Nat) : Fld := ⟨0x28380 + n * 0x8, 23, 8⟩
abbrev Fld.SPK_TRGn_CFG_SRC (n : Nat) : Fld := ⟨0x28380 + n * 0x8, 0, 0⟩
abbrev Fld.SPK_ACT_TEST_PERIOD_MS : Fld := ⟨0x283F0, 15, 0⟩
abbrev Fld.SPK_MSWm_CFG_DEBOUNCE_US (n : Nat) : Fld := ⟨0x28400 + n * 0x20, 31, 16⟩
abbrev Fld.SPK_MSWm_CFG_CHAN (n : Nat) : Fld := ⟨0x28400 + n * 0x20, 5, 4⟩
abbrev Fld.SPK_MSWm_CFG_EDGE (n : Nat) : Fld := ⟨0x28400 + n * 0x20, 2, 2⟩
abbrev Fld.SPK_MSWm_CFG_MODE (n : Nat) : Fld := ⟨0x28400 + n * 0x20, 1, 0⟩
abbrev Fld.SPK_MSWm_COUNT_COUNT (n : Nat) : Fld := ⟨0x28404 + n * 0x20, 31, 0⟩
abbrev Reg.SPK_MSWm_LAST_TIME (n : Nat) : Nat := 0x28408 + n * 0x20
abbrev Reg.SPK_MSWm_LAST_POS (n : Nat) : Nat := 0x28410 + n * 0x20
abbrev Reg.TB_OFFSET : Nat := 0x29010
abbrev Reg.TB_FREQ : Nat := 0x29018
abbrev Reg.TB_CONFIG : Nat := 0x29020
abbrev Fld.TB_CONFIG_HOLDOVER_S : Fld := ⟨0x29020, 31, 16⟩
abbrev Fld.TB_CONFIG_SEND_VALID_ONLY : Fld := ⟨0x29020, 5, 5⟩
abbrev Fld.TB_CONFIG_PPS_GATE : Fld := ⟨0x29020, 4, 4⟩
abbrev Fld.TB_CONFIG_SOURCES : Fld := ⟨0x29020, 1, 0⟩
abbrev Reg.TB_PTP_CFG : Nat := 0x29024
abbrev Fld.TB_PTP_CFG_LOG_SYNC : Fld := ⟨0x29024, 31, 28⟩
abbrev Fld.TB_PTP_CFG_TC_EN : Fld := ⟨0x29024, 24, 24⟩
abbrev Fld.TB_PTP_CFG_PORT : Fld := ⟨0x29024, 10, 8⟩
abbrev Fld.TB_PTP_CFG_ROLE : Fld := ⟨0x29024, 5, 4⟩
abbrev Fld.TB_PTP_CFG_PROFILE : Fld := ⟨0x29024, 1, 0⟩
abbrev Fld.TB_PTP_PRIO_PRIORITY1 : Fld := ⟨0x29028, 31, 24⟩
abbrev Fld.TB_PTP_PRIO_PRIORITY2 : Fld := ⟨0x29028, 23, 16⟩
abbrev Fld.TB_PTP_PRIO_CLOCK_CLASS : Fld := ⟨0x29028, 15, 8⟩
abbrev Reg.TB_PPS_CFG : Nat := 0x2902C
abbrev Fld.TB_PPS_CFG_IN_DELAY_NS : Fld := ⟨0x2902C, 31, 16⟩
abbrev Fld.TB_PPS_CFG_OUT_WIDTH_MS : Fld := ⟨0x2902C, 15, 8⟩
abbrev Fld.TB_PPS_CFG_OUT_EN : Fld := ⟨0x2902C, 2, 2⟩
abbrev Fld.TB_PPS_CFG_IN_FALLING : Fld := ⟨0x2902C, 1, 1⟩
abbrev Fld.TB_PPS_CFG_IN_EN : Fld := ⟨0x2902C, 0, 0⟩
abbrev Reg.TB_PPS_IN_LAST : Nat := 0x29030
abbrev Fld.TB_Pp_LAT_RX_NS (n : Nat) : Fld := ⟨0x29040 + n * 0x4, 31, 16⟩
abbrev Fld.TB_Pp_LAT_TX_NS (n : Nat) : Fld := ⟨0x29040 + n * 0x4, 15, 0⟩
abbrev Fld.TB_LAUNCH_SENT_COUNT : Fld := ⟨0x29064, 31, 0⟩
abbrev Fld.TB_LAUNCH_LATE_COUNT : Fld := ⟨0x29068, 31, 0⟩
abbrev Fld.TB_STEPS_BACK : Fld := ⟨0x29070, 31, 16⟩
abbrev Fld.TB_STEPS_FORWARD : Fld := ⟨0x29070, 15, 0⟩
abbrev Reg.TB_LAST_STEP : Nat := 0x29078
abbrev Fld.SW_STATUS_LINK_UP : Fld := ⟨0x2A000, 5, 0⟩
abbrev Reg.SW_MAC : Nat := 0x2A008
abbrev Reg.SW_IPV4 : Nat := 0x2A010
abbrev Reg.SW_PCP_MAP : Nat := 0x2A014
abbrev Fld.SW_CONFIG_AGE_S : Fld := ⟨0x2A018, 15, 0⟩
abbrev Fld.SW_Pp_CFG_ENABLE (n : Nat) : Fld := ⟨0x2A100 + n * 0x20, 31, 31⟩
abbrev Fld.SW_Pp_CFG_FWD_MASK (n : Nat) : Fld := ⟨0x2A100 + n * 0x20, 22, 16⟩
abbrev Fld.SW_Pp_CFG_MAX_FRAME (n : Nat) : Fld := ⟨0x2A100 + n * 0x20, 13, 0⟩
abbrev Fld.SW_Pp_VLAN_DROP_UNTAGGED (n : Nat) : Fld := ⟨0x2A104 + n * 0x20, 31, 31⟩
abbrev Fld.SW_Pp_VLAN_PCP (n : Nat) : Fld := ⟨0x2A104 + n * 0x20, 14, 12⟩
abbrev Fld.SW_Pp_VLAN_PVID (n : Nat) : Fld := ⟨0x2A104 + n * 0x20, 11, 0⟩
abbrev Fld.SW_Pp_DROPS_COUNT (n : Nat) : Fld := ⟨0x2A108 + n * 0x20, 31, 0⟩
abbrev Reg.SW_VLAN0 : Nat := 0x2A300
abbrev Fld.SW_GATEq_CTRL_ENABLE (n : Nat) : Fld := ⟨0x2A400 + n * 0x20, 31, 31⟩
abbrev Fld.SW_GATEq_CTRL_LENGTH (n : Nat) : Fld := ⟨0x2A400 + n * 0x20, 8, 0⟩
abbrev Reg.SW_GATEq_BASE (n : Nat) : Nat := 0x2A408 + n * 0x20
abbrev Fld.SW_GATEq_CYCLE_CYCLE_NS (n : Nat) : Fld := ⟨0x2A410 + n * 0x20, 29, 0⟩
abbrev Fld.SER_n_CFG_MODE (n : Nat) : Fld := ⟨0x2B000 + n * 0x40, 31, 30⟩
abbrev Fld.SER_n_CFG_PARITY (n : Nat) : Fld := ⟨0x2B000 + n * 0x40, 28, 27⟩
abbrev Fld.SER_n_CFG_STOP2 (n : Nat) : Fld := ⟨0x2B000 + n * 0x40, 26, 26⟩
abbrev Fld.SER_n_CFG_DATA7 (n : Nat) : Fld := ⟨0x2B000 + n * 0x40, 25, 25⟩
abbrev Fld.SER_n_CFG_IDLE_BITS (n : Nat) : Fld := ⟨0x2B000 + n * 0x40, 23, 16⟩
abbrev Fld.SER_n_CFG_TURN_BITS (n : Nat) : Fld := ⟨0x2B000 + n * 0x40, 15, 8⟩
abbrev Fld.SER_n_CFG_STEP_PCT (n : Nat) : Fld := ⟨0x2B000 + n * 0x40, 7, 0⟩
abbrev Fld.SER_n_BAUD_BAUD (n : Nat) : Fld := ⟨0x2B004 + n * 0x40, 21, 0⟩
abbrev Reg.SER_n_HOST_MAC (n : Nat) : Nat := 0x2B008 + n * 0x40
abbrev Reg.SER_n_HOST_IP (n : Nat) : Nat := 0x2B010 + n * 0x40
abbrev Fld.SER_n_PORTS_HOST_PORT (n : Nat) : Fld := ⟨0x2B014 + n * 0x40, 31, 16⟩
abbrev Fld.SER_n_PORTS_LOCAL_PORT (n : Nat) : Fld := ⟨0x2B014 + n * 0x40, 15, 0⟩
abbrev Fld.SER_n_FRAMES_COUNT (n : Nat) : Fld := ⟨0x2B018 + n * 0x40, 31, 0⟩
abbrev Fld.SER_n_ERRORS_COLLISIONS (n : Nat) : Fld := ⟨0x2B01C + n * 0x40, 31, 16⟩
abbrev Fld.SER_n_ERRORS_FRAMING (n : Nat) : Fld := ⟨0x2B01C + n * 0x40, 15, 0⟩
abbrev Fld.SER_n_AMPLITUDE_MV (n : Nat) : Fld := ⟨0x2B020 + n * 0x40, 15, 0⟩
abbrev Fld.BRK_CONFIG_WARN_HOLD_MS : Fld := ⟨0x2C004, 31, 24⟩
abbrev Fld.BRK_CONFIG_FRAME_WATCH_MS : Fld := ⟨0x2C004, 23, 16⟩
abbrev Fld.BRK_CONFIG_AUTO_RESTART : Fld := ⟨0x2C004, 8, 8⟩
abbrev Fld.BRK_CONFIG_SENSOR_POLICY : Fld := ⟨0x2C004, 7, 7⟩
abbrev Fld.BRK_CONFIG_SELFTEST_EN : Fld := ⟨0x2C004, 6, 6⟩
abbrev Fld.BRK_CONFIG_JOURNAL_DEADLINE : Fld := ⟨0x2C004, 5, 5⟩
abbrev Fld.BRK_CONFIG_JOURNAL_LOW : Fld := ⟨0x2C004, 2, 0⟩
abbrev Fld.BRK_WDOG_TIMEOUT_MS : Fld := ⟨0x2C008, 31, 16⟩
abbrev Fld.BRK_WDOG_ARM_S : Fld := ⟨0x2C008, 15, 8⟩
abbrev Fld.BRK_WDOG_MODE : Fld := ⟨0x2C008, 1, 0⟩
abbrev Reg.BRK_CONTROL : Nat := 0x2C00C
abbrev Reg.BRK_COUNTS : Nat := 0x2C010
abbrev Fld.BRK_COUNTS_ESCALATIONS : Fld := ⟨0x2C010, 31, 16⟩
abbrev Fld.BRK_COUNTS_DROPPED : Fld := ⟨0x2C010, 15, 0⟩
abbrev Fld.BRK_SAFE_CAUSE_CODE : Fld := ⟨0x2C014, 15, 0⟩
abbrev Fld.BRK_SELFTEST_FAILED : Fld := ⟨0x2C018, 27, 16⟩
abbrev Fld.BRK_SELFTEST_PASSED : Fld := ⟨0x2C018, 11, 0⟩
abbrev Reg.BRK_NEXT_SEQ : Nat := 0x2C01C
abbrev Fld.BRK_NEXT_SEQ_SEQ : Fld := ⟨0x2C01C, 31, 0⟩
abbrev Reg.BRK_LAST_SAFE : Nat := 0x2C020

end Sys2Proof.Machine
end

