-- ==== Sys2Proof/Machine/Isp.lean ====
section
/-! DEFINITION. The image pipeline's stages, to the bit (R139 to R141, Tables 5.7 and 5.8), on the rows of one frame or tile. -/
namespace Sys2Proof.Machine

/-- What a source delivers: `raw n bayer` is one n-bit sample a pixel, mono or with the Bayer code of ISP_Pp_CTRL.BAYER;
`yuv` the three 8-bit values Y, U, V of each pixel (shared chroma repeated; DESIGN CHOICE, log entry 166); `rgb` its R'G'B' values at 16 bits, converted by the decoder (R133). -/
inductive PixKind where
  | raw (n : Nat) (bayer : Option Nat)
  | yuv
  | rgb
  deriving DecidableEq, Repr

/-- The pipeline parameters that a frame or tile runs under (R142): the words CTRL, BL01, BL23, WB01, WB23 and CCM0 to CCM4 of
its parameter set, and the live tables of its camera and set; an empty table is the neutral one (R141). `lineScan` tells
CoaXPress data, which takes the flat-field stage, from A-PHY data, which takes lens shading. -/
structure IspSet where
  words : List Nat := []
  ff : List Byte := []
  lsc : List Byte := []
  tone : List Byte := []
  lineScan : Bool := false
  deriving DecidableEq, Repr

namespace IspMath

/-- clamp of R140. -/
def clamp16 (i : Int) : Nat := (max 0 (min 65535 i)).toNat

/-- Half-word `h` (0 low, 1 high) of parameter word `w`. -/
def half (p : IspSet) (w h : Nat) : Nat := bits (p.words.getD w 0) (16 * h + 15) (16 * h)

/-- Is the stage with ENABLES bit `b` enabled? -/
def on (p : IspSet) (b : Nat) : Bool := bitOn (p.words.getD 0 0) b

/-- ISP_Pp_CTRL.OUT. -/
def out (p : IspSet) : Nat := bits (p.words.getD 0 0) 9 8

/-- Black level of channel c: BL0 to BL3. -/
def blackLevel (p : IspSet) (c v : Nat) : Nat := if on p 0 then v - half p (1 + c / 2) (c % 2) else v

/-- Flat-field at pixel x of the line. -/
def flatField (p : IspSet) (x v : Nat) : Nat :=
  if on p 1 && !p.ff.isEmpty then
    clamp16 ((((v : Int) - rdInt p.ff (4 * x + 2) 2) * rd p.ff (4 * x) 2 + 8192) >>> 14)
  else v

/-- One node of the lens-shading grid, channel c: row j outer, column i inner. -/
def lscNode (p : IspSet) (i j c : Nat) : Nat := rd p.lsc (2 * (4 * (33 * j + i) + c)) 2

/-- Lens shading at (x, y) of a W × H frame. -/
def lensShading (p : IspSet) (w h x y c v : Nat) : Nat :=
  if on p 2 && !p.lsc.isEmpty then
    let i := min (32 * x / (w - 1)) 31
    let fx := 8192 * x / (w - 1) - 256 * i
    let j := min (32 * y / (h - 1)) 31
    let fy := 8192 * y / (h - 1) - 256 * j
    let g := (lscNode p i j c * (256 - fx) * (256 - fy) + lscNode p (i + 1) j c * fx * (256 - fy) +
      lscNode p i (j + 1) c * (256 - fx) * fy + lscNode p (i + 1) (j + 1) c * fx * fy + 32768) / 65536
    clamp16 ((v * g + 2048) / 4096 : Nat)
  else v

/-- Reading beyond an edge mirrors: −1 reads 1, n reads n − 2. -/
def mirror (n : Nat) (i : Int) : Nat :=
  if i < 0 then (-i).toNat else if (n : Int) ≤ i then 2 * n - 2 - i.toNat else i.toNat

/-- The sample at (x, y), mirrored. -/
def px (rows : List (List Nat)) (x y : Int) : Nat :=
  let row := rows.getD (mirror rows.length y) []
  row.getD (mirror row.length x) 0

/-- Rounded mean of 4 samples and of 2. -/
def mean4 (a b c d : Nat) : Nat := (a + b + c + d + 2) / 4
/-- Rounded mean of 2 samples. -/
def mean2 (a b : Nat) : Nat := (a + b + 1) / 2

/-- Bilinear demosaic at (x, y); `y0` is the line number of the first row, `b` the Bayer code: 0 RGGB, 1 GRBG, 2 GBRG,
3 BGGR. -/
def demosaic (b y0 : Nat) (rows : List (List Nat)) (x y : Nat) : List Nat :=
  let p := fun (dx dy : Int) => px rows ((x : Int) + dx) ((y : Int) + dy)
  let onRedCol := (x + b % 2) % 2 = 0
  let onRedRow := (y0 + y + b / 2) % 2 = 0
  let cross := mean4 (p (-1) 0) (p 1 0) (p 0 (-1)) (p 0 1)
  let diag := mean4 (p (-1) (-1)) (p 1 (-1)) (p (-1) 1) (p 1 1)
  let horiz := mean2 (p (-1) 0) (p 1 0)
  let vert := mean2 (p 0 (-1)) (p 0 1)
  if onRedCol ∧ onRedRow then [p 0 0, cross, diag]
  else if ¬ onRedCol ∧ ¬ onRedRow then [diag, cross, p 0 0]
  else if onRedRow then [horiz, p 0 0, vert]
  else [vert, p 0 0, horiz]

/-- White balance of channel c. -/
def whiteBalance (p : IspSet) (c v : Nat) : Nat :=
  if on p 4 then clamp16 ((v * half p (3 + c / 2) (c % 2) + 2048) / 4096 : Nat) else v

/-- Coefficient C[i][j] of the colour matrix, signed 3.12. -/
def coeff (p : IspSet) (i j : Nat) : Int := toSigned 16 (half p (5 + (3 * i + j) / 2) ((3 * i + j) % 2))

/-- The colour matrix on an R, G, B triple. -/
def colourMatrix (p : IspSet) (v : List Nat) : List Nat :=
  if on p 5 && v.length == 3 then
    (List.range 3).map fun i =>
      clamp16 ((coeff p i 0 * v.getD 0 0 + coeff p i 1 * v.getD 1 0 + coeff p i 2 * v.getD 2 0 + 2048) >>> 12)
  else v

/-- The tone curve. -/
def tone (p : IspSet) (v : Nat) : Nat :=
  if on p 6 && !p.tone.isEmpty then
    let k := v / 64
    let a : Int := rd p.tone (2 * k) 2
    let b : Int := rd p.tone (2 * k + 2) 2
    clamp16 (a + ((b - a) * ((v % 64 : Nat) : Int) + 32) >>> 6)
  else v

/-- Output: the channel count that OUT asks for, then U8 or U16. -/
def output (p : IspSet) (v : List Nat) : List Nat :=
  let w := fun i => BitVec.ofNat 16 (v.getD i 0)
  let v := if out p < 2 then (if v.length = 3 then [(Config.ispMono (w 0) (w 1) (w 2)).toNat] else v)
    else if v.length = 3 then v
    else [(Config.ispColour (w 0) 0).toNat, (Config.ispColour (w 0) 1).toNat, (Config.ispColour (w 0) 2).toNat]
  if out p % 2 = 0 then v.map fun v => min ((v + 128) / 256) 255 else v

/-- The stages from white balance on. -/
def finish (p : IspSet) (v : List Nat) : List Nat :=
  let v := v.zipIdx.map fun (v, c) => whiteBalance p c v
  output p ((colourMatrix p v).map (tone p))

/-- Stages 1 to 4 of raw data: unpack, black level, and flat-field or lens shading. -/
def rawStages (p : IspSet) (n : Nat) (bayer : Bool) (w h y0 : Nat) (rows : List (List Nat)) : List (List Nat) :=
  rows.zipIdx.map fun (row, y) => row.zipIdx.map fun (s, x) =>
    let c := if bayer then 2 * ((y0 + y) % 2) + x % 2 else 0
    let v := blackLevel p c (s % 2 ^ n * 2 ^ (16 - n))
    if p.lineScan then flatField p x v else lensShading p w h x y c v

/-- Groups of three values. -/
def triples : List Nat → List (List Nat)
  | a :: b :: c :: t => [a, b, c] :: triples t
  | _ => []

/-- What a YUV triple is coded in: the matrix, BT.601 or else BT.709, and the range, full or else limited. -/
structure YuvCode where
  bt601 : Bool
  full : Bool
  deriving DecidableEq, Repr

/-- The factors of Y, Cb and Cr in channel c of R'G'B', over a denominator. With luma weights Kr, Kg and Kb, R' = Y + 2(1 − Kr)Cr, B' = Y + 2(1 − Kb)Cb and
Kg G' = Y − Kr R' − Kb B' in exact terms: Kr = 0.299 and Kb = 0.114 for BT.601, 0.2126 and 0.0722 for BT.709. -/
def yuvFactors (bt601 : Bool) (c : Fin 3) : Nat × Int × Int :=
  if bt601 then
    match c with
    | 0 => (587000, 0, 822974)
    | 1 => (587000, -202008, -419198)
    | 2 => (587000, 1040164, 0)
  else
    match c with
    | 0 => (71520000, 0, 112629696)
    | 1 => (71520000, -13397432, -33480248)
    | 2 => (71520000, 132712512, 0)

/-- Channel c of the R'G'B' value, at 16 bits, of an 8-bit triple Y, U, V (R133, Table 5.7): exact but for the rounding, and limited to 16 bits. -/
def yuvToRgb (k : YuvCode) (y u v : BitVec 8) (c : Fin 3) : Nat :=
  let (d, b, r) := yuvFactors k.bt601 c
  let cb : Int := (u.toNat : Int) - 128
  let cr : Int := (v.toNat : Int) - 128
  let scale : Int := if Config.yuvFullScale then 65535 else 65280
  let (num, den) : Int × Int :=
    if k.full then (scale * (y.toNat * d + b * cb + r * cr), 255 * d)
    else (scale * (((y.toNat : Int) - 16) * 224 * d + (b * cb + r * cr) * 219), 219 * 224 * d)
  clamp16 (num / den + if num % den ≠ 0 ∧ Config.yuvRoundsUp k.bt601 k.full y u v c = true then 1 else 0)

/-- The R'G'B' values of a pixel given as Y, U, V. -/
def yuvPixel (k : YuvCode) (t : List Nat) : List Nat :=
  let w := fun i => BitVec.ofNat 8 (t.getD i 0)
  [yuvToRgb k (w 0) (w 1) (w 2) 0, yuvToRgb k (w 0) (w 1) (w 2) 1, yuvToRgb k (w 0) (w 1) (w 2) 2]

/-- The pipeline on the rows of a frame or tile of width `w`: the channels of every output pixel. `y0` is the line number of
the first row. -/
def run (p : IspSet) (kind : PixKind) (w y0 : Nat) (rows : List (List Nat)) : List (List (List Nat)) :=
  match kind with
  | .raw n bayer =>
    let pre := rawStages p n bayer.isSome w rows.length y0 rows
    match bayer with
    | some b =>
      if on p 3 then (List.range pre.length).map fun y => (List.range w).map fun x => finish p (demosaic b y0 pre x y)
      else pre.map fun row => row.map fun v => finish p [v]
    | none => pre.map fun row => row.map fun v => finish p [v]
  | .yuv => rows.map fun row => (triples row).map fun t => finish p (yuvPixel ⟨true, true⟩ t)
  | .rgb => rows.map fun row => (triples row).map (finish p)

end IspMath

end Sys2Proof.Machine
end

