-- ==== Sys2Proof/Machine/RegMap.lean ====
section
/-! DEFINITION. The BAR0 register map: one row per register (or array of registers) of the spec's register tables,
with its fields, access types, reset values and the values its table allows. -/
namespace Sys2Proof.Machine

/-- The access types of Table 0.2. -/
inductive Access where
  | rw | ro | w1c | wo1 | lck | st
  deriving DecidableEq, Repr

/-- One field [hi:lo]; `allowed` lists the ranges of values its table allows (empty: every value). Bits of a register
that no field covers are reserved: ignored on writes and read as zero (R4). -/
structure FieldSpec where
  hi : Nat
  lo : Nat
  access : Access
  allowed : List (Nat × Nat)
  deriving DecidableEq, Repr

/-- One register, or `count` by `count2` registers at strides `stride` and `stride2`. `reset` grows by `resetStep`
for each index. -/
structure RegSpec where
  base : Nat
  stride : Nat
  count : Nat
  stride2 : Nat
  count2 : Nat
  wide : Bool
  functional : Bool
  reset : Nat
  resetStep : Nat
  fields : List FieldSpec
  deriving DecidableEq, Repr

/-- Registers of chapter 0 (R17). -/
def regTable00 : List RegSpec := [
  -- SYS_IDENT
  .mk 0x0 0x0 1 0 1 false false 0x4B575316 0x0 [.mk 31 16 .ro [], .mk 15 0 .ro []],
  -- SYS_DIE_STEP
  .mk 0x4 0x0 1 0 1 false false 0x101 0x0 [.mk 15 8 .ro [], .mk 7 0 .ro []],
  -- SYS_MANUAL_EDITION
  .mk 0x8 0x0 1 0 1 false false 0x10000 0x0 [.mk 31 16 .ro [], .mk 15 0 .ro []]]

/-- Registers of chapter 1 (R23). -/
def regTable01 : List RegSpec := [
  -- SYS_FUNC_STATUS
  .mk 0xC 0x0 1 0 1 false false 0xF000000 0x0 [.mk 27 24 .ro [], .mk 5 5 .ro [], .mk 4 4 .ro [], .mk 3 3 .ro [], .mk 2 2 .ro [], .mk 1 1 .ro [], .mk 0 0 .ro []]]

/-- Registers of chapter 2 (R58). -/
def regTable02 : List RegSpec := [
  -- PWR_STATUS
  .mk 0x1000 0x0 1 0 1 false false 0x300F000 0x0 [.mk 27 24 .ro [], .mk 23 20 .ro [], .mk 19 16 .ro [], .mk 15 12 .ro [], .mk 6 6 .ro [], .mk 5 5 .ro [], .mk 4 4 .ro [], .mk 3 3 .ro [], .mk 2 2 .ro [], .mk 1 1 .ro []],
  -- PWR_VIN
  .mk 0x1004 0x0 1 0 1 false false 0x0 0x0 [.mk 15 0 .ro []],
  -- PWR_UN
  .mk 0x1008 0x0 1 0 1 false false 0x0 0x0 [.mk 2 0 .ro []],
  -- PWR_BANK
  .mk 0x100C 0x0 1 0 1 false false 0x0 0x0 [.mk 31 16 .ro [], .mk 15 0 .ro []],
  -- PWR_CONFIG
  .mk 0x1010 0x0 1 0 1 false true 0x4001E 0x0 [.mk 23 16 .lck [(1, 120)], .mk 15 0 .lck []],
  -- PWR_EVENTS
  .mk 0x1014 0x0 1 0 1 false false 0x0 0x0 [.mk 31 16 .ro [], .mk 15 0 .ro []],
  -- SPR_WAKE_ENABLE
  .mk 0x2000 0x0 1 0 1 false true 0x1F 0x0 [.mk 4 4 .lck [], .mk 3 3 .lck [], .mk 2 2 .lck [], .mk 1 1 .lck [], .mk 0 0 .lck []],
  -- SPR_WAKE_CAUSE
  .mk 0x2004 0x0 1 0 1 false false 0x100 0x0 [.mk 8 8 .w1c [], .mk 4 0 .w1c []],
  -- SPR_MOTION
  .mk 0x2008 0x0 1 0 1 false true 0x8 0x0 [.mk 15 0 .lck [(1, 65535)]],
  -- SPR_DOOR
  .mk 0x200C 0x0 1 0 1 false true 0x0 0x0 [.mk 7 4 .lck [], .mk 3 0 .lck []]]

/-- Registers of chapter 3 (R78, R79). -/
def regTable03 : List RegSpec := [
  -- SYS_LOCK
  .mk 0x10 0x0 1 0 1 false false 0x0 0x0 [.mk 0 0 .wo1 []],
  -- SYS_LOCK_VIOLATIONS
  .mk 0x14 0x0 1 0 1 false false 0x0 0x0 [.mk 31 0 .ro []],
  -- SYS_LOCK_LAST_OFFSET
  .mk 0x18 0x0 1 0 1 false false 0x0 0x0 [.mk 19 0 .ro []],
  -- SYS_LOCK_LAST_VALUE
  .mk 0x1C 0x0 1 0 1 false false 0x0 0x0 [.mk 15 0 .ro []],
  -- SYS_CONTROL
  .mk 0x20 0x0 1 0 1 false true 0x0 0x0 [.mk 1 1 .rw [], .mk 0 0 .wo1 []],
  -- SYS_START_STATUS
  .mk 0x24 0x0 1 0 1 false false 0x0 0x0 [.mk 23 16 .ro [], .mk 15 8 .ro [], .mk 7 4 .ro [], .mk 3 0 .ro []],
  -- SYS_START_COUNT
  .mk 0x28 0x0 1 0 1 false false 0x0 0x0 [.mk 31 0 .ro []],
  -- JRN_STATUS
  .mk 0x3000 0x0 1 0 1 false false 0x0 0x0 [.mk 3 3 .ro [], .mk 2 2 .ro [], .mk 1 1 .ro [], .mk 0 0 .ro []],
  -- JRN_NEXT_SEQ
  .mk 0x3008 0x0 1 0 1 true false 0x0 0x0 [.mk 63 0 .ro []],
  -- JRN_OLDEST_SEQ
  .mk 0x3010 0x0 1 0 1 true false 0x0 0x0 [.mk 63 0 .ro []],
  -- JRN_STEP_SKIPPED
  .mk 0x3018 0x0 1 0 1 false false 0x0 0x0 [.mk 21 0 .ro []],
  -- JRN_STEP_RETRY
  .mk 0x301C 0x0 1 0 1 false false 0x0 0x0 [.mk 21 0 .ro []],
  -- JRN_STEP_HALTED
  .mk 0x3020 0x0 1 0 1 false false 0x0 0x0 [.mk 21 0 .ro []],
  -- JRN_STEP_CLEAR
  .mk 0x3024 0x0 1 0 1 false false 0x0 0x0 [.mk 21 0 .lck []]]

/-- Registers of chapter 4 (R113). -/
def regTable04 : List RegSpec := [
  -- HIF_STATUS
  .mk 0x4000 0x0 1 0 1 false false 0x0 0x0 [.mk 8 8 .ro [], .mk 7 4 .ro [], .mk 3 1 .ro [], .mk 0 0 .ro []],
  -- HIF_CONFIG
  .mk 0x4004 0x0 1 0 1 false true 0x103E8 0x0 [.mk 16 16 .lck [], .mk 15 0 .lck [(1, 65535)]],
  -- HIF_QP_ENABLED
  .mk 0x4008 0x0 1 0 1 true false 0x0 0x0 [.mk 63 0 .ro []],
  -- HIF_QP_ERROR
  .mk 0x4010 0x0 1 0 1 true false 0x0 0x0 [.mk 63 0 .ro []],
  -- HIF_QP_n_SQ_BASE
  .mk 0x4800 0x20 64 0 1 true false 0x0 0x0 [.mk 63 12 .rw []],
  -- HIF_QP_n_CQ_BASE
  .mk 0x4808 0x20 64 0 1 true false 0x0 0x0 [.mk 63 12 .rw []],
  -- HIF_QP_n_CFG
  .mk 0x4810 0x20 64 0 1 false false 0x40401 0x0 [.mk 31 31 .rw [], .mk 20 16 .rw [(4, 16)], .mk 12 8 .rw [(4, 16)], .mk 3 0 .rw [(1, 15)]],
  -- HIF_QP_n_IRQ
  .mk 0x4814 0x20 64 0 1 false false 0x0 0x1 [.mk 5 0 .rw []],
  -- HIF_QP_n_STATUS
  .mk 0x4818 0x20 64 0 1 false false 0x0 0x0 [.mk 31 16 .ro [], .mk 15 0 .ro []],
  -- HIF_QP_n_STATE
  .mk 0x481C 0x20 64 0 1 false false 0x10000 0x0 [.mk 16 16 .ro [], .mk 15 8 .ro [], .mk 1 0 .ro []],
  -- HIF_VEC_n_MOD
  .mk 0x5000 0x4 64 0 1 false false 0x1 0x0 [.mk 23 8 .rw [], .mk 7 0 .rw [(1, 255)]],
  -- MSIX_ADDR_LO
  .mk 0x6000 0x10 72 0 1 false false 0x0 0x0 [.mk 31 2 .rw []],
  -- MSIX_ADDR_HI
  .mk 0x6004 0x10 72 0 1 false false 0x0 0x0 [.mk 31 0 .rw []],
  -- MSIX_DATA
  .mk 0x6008 0x10 72 0 1 false false 0x0 0x0 [.mk 31 0 .rw []],
  -- MSIX_CTRL
  .mk 0x600C 0x10 72 0 1 false false 0x1 0x0 [.mk 0 0 .rw []],
  -- MSIX_PBA
  .mk 0x7000 0x4 4 0 1 false false 0x0 0x0 [.mk 31 0 .ro []]]

/-- Registers of chapter 5 (R149). -/
def regTable05 : List RegSpec := [
  -- CXP_STATUS
  .mk 0x8000 0x0 1 0 1 false false 0x0 0x0 [.mk 15 12 .ro [], .mk 11 8 .ro [], .mk 7 4 .ro [], .mk 3 0 .ro []],
  -- CXP_CAMn_CFG
  .mk 0x8010 0x10 2 0 1 false true 0x148075 0x400 [.mk 23 16 .lck [(1, 255)], .mk 15 15 .lck [], .mk 11 10 .lck [], .mk 7 4 .lck [(1, 7)], .mk 3 2 .lck [(0, 2)], .mk 0 0 .lck []],
  -- CXP_CAMn_INFO
  .mk 0x8014 0x10 2 0 1 false false 0x0 0x0 [.mk 31 16 .ro [], .mk 15 8 .ro [], .mk 7 4 .ro [], .mk 3 0 .ro []],
  -- CXP_CAMn_LINES
  .mk 0x8018 0x10 2 0 1 true false 0x0 0x0 [.mk 63 0 .ro []],
  -- CXP_CTL_ADDR
  .mk 0x8040 0x0 1 0 1 false false 0x0 0x0 [.mk 31 0 .rw []],
  -- CXP_CTL_DATA
  .mk 0x8044 0x0 1 0 1 false false 0x0 0x0 [.mk 31 0 .rw []],
  -- CXP_CTL_CMD
  .mk 0x8048 0x0 1 0 1 false false 0x0 0x0 [.mk 31 31 .ro [], .mk 30 28 .ro [], .mk 8 8 .rw [], .mk 1 0 .rw [(0, 2)]],
  -- APY_PORTn_STATUS
  .mk 0x9000 0x4 2 0 1 false false 0x0 0x0 [.mk 31 16 .ro [], .mk 4 4 .ro [], .mk 3 0 .ro []],
  -- APY_PORTn_CFG
  .mk 0x9010 0x4 2 0 1 false true 0x104 0x0 [.mk 8 8 .lck [], .mk 2 0 .lck [(1, 4)]],
  -- APY_Sn_CFG
  .mk 0x9100 0x40 8 0 1 false true 0x200AC000 0x0 [.mk 31 28 .lck [(1, 7)], .mk 23 16 .lck [(1, 255)], .mk 15 15 .lck [], .mk 14 14 .lck [], .mk 6 0 .lck []],
  -- APY_Sn_Wk
  .mk 0x9104 0x40 8 4 8 false true 0x0 0x0 [.mk 31 16 .st [], .mk 15 0 .st []],
  -- APY_Sn_WMASK
  .mk 0x9124 0x40 8 0 1 false true 0x0 0x0 [.mk 7 0 .st []],
  -- APY_Sn_FRAMES
  .mk 0x9128 0x40 8 0 1 false false 0x0 0x0 [.mk 31 0 .ro []],
  -- APY_Sn_DROPPED
  .mk 0x912C 0x40 8 0 1 false false 0x0 0x0 [.mk 31 0 .ro []],
  -- DEC_CONFIG
  .mk 0xA000 0x0 1 0 1 false true 0x1F4 0x0 [.mk 15 0 .lck [(1, 65535)]],
  -- DEC_CAPACITY
  .mk 0xA004 0x0 1 0 1 false false 0x1DE200 0x0 [.mk 31 0 .ro []],
  -- DEC_Cc_MATCH
  .mk 0xA100 0x20 10 0 1 false true 0x0 0x0 [.mk 31 16 .lck [], .mk 11 0 .lck []],
  -- DEC_Cc_FLOW
  .mk 0xA104 0x20 10 0 1 false true 0x60 0x0 [.mk 31 31 .lck [], .mk 30 30 .lck [], .mk 6 0 .lck [(96, 127)]],
  -- DEC_Cc_SSRC
  .mk 0xA108 0x20 10 0 1 false true 0x0 0x0 [.mk 31 0 .lck []],
  -- DEC_Cc_RATE
  .mk 0xA10C 0x20 10 0 1 false true 0x7844001E 0x0 [.mk 31 24 .lck [(1, 240)], .mk 23 16 .lck [(1, 135)], .mk 7 0 .lck [(1, 60)]],
  -- DEC_Cc_STATUS
  .mk 0xA110 0x20 10 0 1 false false 0x0 0x0 [.mk 31 16 .ro [], .mk 1 0 .ro []],
  -- DEC_Cc_PICTURES
  .mk 0xA114 0x20 10 0 1 false false 0x0 0x0 [.mk 31 0 .ro []],
  -- ISP_STATUS
  .mk 0xB000 0x0 1 0 1 false false 0x0 0x0 [.mk 3 0 .w1c []],
  -- ISP_FFn_SRC
  .mk 0xB010 0x8 2 0 1 true true 0x0 0x0 [.mk 63 0 .st []],
  -- ISP_Pp_CTRL
  .mk 0xB800 0x40 32 0 1 false true 0x0 0x0 [.mk 11 10 .st [], .mk 9 8 .st [], .mk 6 0 .st []],
  -- ISP_Pp_BL01
  .mk 0xB804 0x40 32 0 1 false true 0x0 0x0 [.mk 31 16 .st [], .mk 15 0 .st []],
  -- ISP_Pp_BL23
  .mk 0xB808 0x40 32 0 1 false true 0x0 0x0 [.mk 31 16 .st [], .mk 15 0 .st []],
  -- ISP_Pp_WB01
  .mk 0xB80C 0x40 32 0 1 false true 0x10001000 0x0 [.mk 31 16 .st [], .mk 15 0 .st []],
  -- ISP_Pp_WB23
  .mk 0xB810 0x40 32 0 1 false true 0x10001000 0x0 [.mk 31 16 .st [], .mk 15 0 .st []],
  -- ISP_Pp_CCM0
  .mk 0xB814 0x40 32 0 1 false true 0x1000 0x0 [.mk 31 16 .st [], .mk 15 0 .st []],
  -- ISP_Pp_CCM1
  .mk 0xB818 0x40 32 0 1 false true 0x0 0x0 [.mk 31 16 .st [], .mk 15 0 .st []],
  -- ISP_Pp_CCM2
  .mk 0xB81C 0x40 32 0 1 false true 0x1000 0x0 [.mk 31 16 .st [], .mk 15 0 .st []],
  -- ISP_Pp_CCM3
  .mk 0xB820 0x40 32 0 1 false true 0x0 0x0 [.mk 31 16 .st [], .mk 15 0 .st []],
  -- ISP_Pp_CCM4
  .mk 0xB824 0x40 32 0 1 false true 0x1000 0x0 [.mk 15 0 .st []],
  -- ISP_Pp_LSC_SRC
  .mk 0xB828 0x40 32 0 1 true true 0x0 0x0 [.mk 63 0 .st []],
  -- ISP_Pp_TONE_SRC
  .mk 0xB830 0x40 32 0 1 true true 0x0 0x0 [.mk 63 0 .st []]]

/-- Registers of chapter 6 (R171). -/
def regTable06 : List RegSpec := [
  -- TIN_STATUS
  .mk 0xC000 0x0 1 0 1 false false 0x0 0x0 [.mk 7 0 .ro []],
  -- TIN_POOL_BASE
  .mk 0xC008 0x0 1 0 1 true false 0x0 0x0 [.mk 34 16 .lck []],
  -- TIN_POOL_SIZE
  .mk 0xC010 0x0 1 0 1 false false 0x0 0x0 [.mk 15 0 .lck [(0, 30720)]],
  -- TIN_POOL_USED
  .mk 0xC014 0x0 1 0 1 false false 0x0 0x0 [.mk 31 0 .ro []],
  -- TIN_Cn_POOL
  .mk 0xC100 0x20 24 0 1 false false 0x0 0x0 [.mk 31 24 .lck [], .mk 16 0 .lck [(0, 32769)]],
  -- TIN_Cn_STATUS
  .mk 0xC104 0x20 24 0 1 false false 0x0 0x0 [.mk 31 16 .ro [], .mk 5 5 .ro [], .mk 4 4 .ro [], .mk 3 3 .ro [], .mk 2 2 .ro []],
  -- TIN_Cn_NEXT_ID
  .mk 0xC108 0x20 24 0 1 true false 0x1 0x800000000000000 [.mk 63 0 .ro []],
  -- TIN_Cn_OLDEST_ID
  .mk 0xC110 0x20 24 0 1 true false 0x0 0x0 [.mk 63 0 .ro []],
  -- TIN_Cn_DROPPED
  .mk 0xC118 0x20 24 0 1 false false 0x0 0x0 [.mk 31 0 .ro []],
  -- TIN_Cn_DISCARDED
  .mk 0xC11C 0x20 24 0 1 false false 0x0 0x0 [.mk 31 0 .ro []]]

/-- Registers of chapter 7 (R198). -/
def regTable07 : List RegSpec := [
  -- ENG_n_STATUS
  .mk 0x10000 0x1000 16 0 1 false false 0x1 0x0 [.mk 9 8 .ro [], .mk 4 4 .ro [], .mk 1 1 .ro [], .mk 0 0 .ro []],
  -- ENG_n_CFG
  .mk 0x10004 0x1000 16 0 1 false true 0x1F40008 0x0 [.mk 25 16 .lck [(10, 1000)], .mk 8 8 .lck [], .mk 7 0 .lck [(0, 64)]],
  -- ENG_n_MVMS
  .mk 0x10008 0x1000 16 0 1 true false 0x0 0x0 [.mk 63 0 .ro []],
  -- ENG_n_ROWPHASES
  .mk 0x10010 0x1000 16 0 1 true false 0x0 0x0 [.mk 63 0 .ro []],
  -- ENG_n_STALLS
  .mk 0x10018 0x1000 16 0 1 false false 0x0 0x0 [.mk 31 0 .ro []],
  -- ENG_n_Am_STATE
  .mk 0x10100 0x1000 16 16 17 false false 0x0 0x0 [.mk 12 8 .ro [], .mk 5 5 .ro [], .mk 4 4 .ro [], .mk 2 0 .ro []],
  -- ENG_n_Am_CYCLES
  .mk 0x10104 0x1000 16 16 17 false false 0x0 0x0 [.mk 15 0 .ro []],
  -- ENG_n_Am_ERRORS
  .mk 0x10108 0x1000 16 16 17 false false 0x0 0x0 [.mk 31 16 .ro [], .mk 15 0 .ro []],
  -- ENG_n_Am_TRIM
  .mk 0x1010C 0x1000 16 16 17 false false 0x0 0x0 [.mk 15 8 .ro [], .mk 7 0 .ro []],
  -- ENG_BUDGET
  .mk 0x10E00 0x0 1 0 1 false true 0x20204060 0x0 [.mk 31 24 .lck [(1, 32)], .mk 23 16 .lck [(1, 32)], .mk 15 8 .lck [(1, 64)], .mk 7 0 .lck [(1, 96)]],
  -- ENG_SPARES
  .mk 0x10E04 0x0 1 0 1 false false 0x0 0x0 [.mk 31 16 .ro [], .mk 15 0 .ro []]]

/-- Registers of chapter 8 (R221). -/
def regTable08 : List RegSpec := [
  -- ENG_n_STRIPE
  .mk 0x10300 0x1000 16 0 1 false false 0xFFF 0x0 [.mk 31 16 .ro [], .mk 11 0 .ro []],
  -- ENG_n_LB_USED
  .mk 0x10304 0x1000 16 0 1 false false 0x0 0x0 [.mk 19 0 .ro []],
  -- ENG_n_FRC_ENCODED
  .mk 0x10308 0x1000 16 0 1 true false 0x0 0x0 [.mk 63 0 .ro []],
  -- ENG_n_FRC_DECODED
  .mk 0x10310 0x1000 16 0 1 true false 0x0 0x0 [.mk 63 0 .ro []],
  -- ENG_n_FRC_ERRORS
  .mk 0x10318 0x1000 16 0 1 false false 0x0 0x0 [.mk 31 16 .ro [], .mk 15 0 .ro []]]

/-- Registers of chapter 9 (R243). -/
def regTable09 : List RegSpec := [
  -- ENG_n_CHAIN
  .mk 0x10400 0x1000 16 0 1 false false 0x0 0x0 [.mk 31 16 .ro [], .mk 3 3 .ro [], .mk 2 0 .ro []],
  -- ENG_n_EB_USED
  .mk 0x10404 0x1000 16 0 1 false false 0x0 0x0 [.mk 17 0 .ro []],
  -- ENG_n_POSTED
  .mk 0x10408 0x1000 16 0 1 false false 0x0 0x0 [.mk 31 0 .ro []],
  -- ENG_n_POST_DROPPED
  .mk 0x1040C 0x1000 16 0 1 false false 0x0 0x0 [.mk 31 16 .ro [], .mk 15 0 .ro []],
  -- ENG_n_CHAIN_SAT
  .mk 0x10410 0x1000 16 0 1 false false 0x0 0x0 [.mk 31 0 .ro []],
  -- ENG_n_ARRIVAL
  .mk 0x10414 0x1000 16 0 1 false false 0x0 0x0 [.mk 31 16 .ro [], .mk 15 0 .ro []],
  -- ENG_n_SIG_k
  .mk 0x10420 0x1000 16 4 16 false false 0x0 0x0 [.mk 31 0 .ro []]]

/-- Registers of chapter 10 (R274). -/
def regTable10 : List RegSpec := [
  -- CRG_STATUS
  .mk 0x20000 0x0 1 0 1 false false 0x0 0x0 [.mk 17 16 .ro [], .mk 8 8 .ro [], .mk 0 0 .ro []],
  -- CRG_CONFIG
  .mk 0x20004 0x0 1 0 1 false true 0x100 0x0 [.mk 12 0 .lck [(32, 4096)]],
  -- CRG_FRAME
  .mk 0x20008 0x0 1 0 1 true false 0x0 0x0 [.mk 63 0 .ro []],
  -- CRG_RESERVED
  .mk 0x20010 0x0 1 0 1 false false 0x0 0x0 [.mk 31 16 .ro [], .mk 15 0 .ro []],
  -- CRG_CLAIMS
  .mk 0x20014 0x0 1 0 1 false false 0x0 0x0 [.mk 31 0 .ro []],
  -- CRG_MAX_WAIT
  .mk 0x20018 0x0 1 0 1 false false 0x0 0x0 [.mk 31 0 .ro []],
  -- CRG_ERRORS
  .mk 0x2001C 0x0 1 0 1 false false 0x0 0x0 [.mk 31 16 .ro [], .mk 15 0 .ro []],
  -- CRG_STEM_N2S
  .mk 0x20020 0x0 1 0 1 true false 0x0 0x0 [.mk 63 0 .ro []],
  -- CRG_STEM_S2N
  .mk 0x20028 0x0 1 0 1 true false 0x0 0x0 [.mk 63 0 .ro []],
  -- MEM_STATUS
  .mk 0x21000 0x0 1 0 1 false false 0x0 0x0 [.mk 23 16 .ro [], .mk 15 8 .ro [], .mk 4 4 .ro []],
  -- MEM_CONFIG
  .mk 0x21004 0x0 1 0 1 false true 0x1800 0x0 [.mk 15 8 .lck [(1, 168)], .mk 0 0 .lck []],
  -- MEM_LAYOUT_ID
  .mk 0x21008 0x0 1 0 1 false false 0x0 0x0 [.mk 31 0 .ro []],
  -- MEM_SCRUB_PASSES
  .mk 0x2100C 0x0 1 0 1 false false 0x0 0x0 [.mk 31 0 .ro []],
  -- MEM_Cn_SLOTS
  .mk 0x21010 0x4 8 0 1 false false 0x400 0x0 [.mk 15 8 .ro [], .mk 7 0 .ro []],
  -- MEM_Cn_ECC
  .mk 0x21040 0x8 8 0 1 false false 0x0 0x0 [.mk 31 16 .ro [], .mk 15 0 .ro []],
  -- MEM_Cn_ECC_LAST
  .mk 0x21044 0x8 8 0 1 false false 0x0 0x0 [.mk 31 0 .ro []],
  -- LLC_STATUS
  .mk 0x22000 0x0 1 0 1 false false 0x0 0x0 [.mk 31 16 .ro [], .mk 1 1 .ro [], .mk 0 0 .ro []],
  -- LLC_BACKINV
  .mk 0x22004 0x0 1 0 1 false false 0x0 0x0 [.mk 31 0 .ro []],
  -- LLC_ERRORS
  .mk 0x22008 0x0 1 0 1 false false 0x0 0x0 [.mk 31 16 .ro [], .mk 15 0 .ro []],
  -- LLC_COUNT_CLEAR
  .mk 0x2200C 0x0 1 0 1 false false 0x0 0x0 [.mk 7 0 .rw []],
  -- LLC_WINw
  .mk 0x22100 0x4 16 0 1 false false 0x0 0x0 [.mk 31 31 .ro [], .mk 30 30 .ro [], .mk 29 28 .ro [], .mk 24 16 .ro [], .mk 8 0 .ro []],
  -- LLC_CLASSk_WAYS
  .mk 0x22200 0x4 8 0 1 false true 0xFFFF 0x0 [.mk 15 0 .lck []],
  -- LLC_CLASSk_HITS
  .mk 0x22300 0x10 8 0 1 true false 0x0 0x0 [.mk 63 0 .ro []],
  -- LLC_CLASSk_MISSES
  .mk 0x22308 0x10 8 0 1 true false 0x0 0x0 [.mk 63 0 .ro []]]

/-- Registers of chapter 11 (R295). -/
def regTable11 : List RegSpec := [
  -- FXG_STATUS
  .mk 0x23000 0x0 1 0 1 false false 0xFF0000 0x0 [.mk 23 20 .ro [], .mk 19 16 .ro [], .mk 8 8 .ro [], .mk 7 7 .ro [], .mk 6 6 .ro [], .mk 2 0 .ro []],
  -- FXG_CONFIG
  .mk 0x23004 0x0 1 0 1 false true 0x0 0x0 [.mk 0 0 .lck []],
  -- FXG_IMAGE_ID
  .mk 0x23008 0x0 1 0 1 true false 0x0 0x0 [.mk 63 0 .ro []],
  -- FXG_MASK
  .mk 0x23010 0x0 1 0 1 false false 0x0 0x0 [.mk 15 0 .ro []],
  -- FXG_ITERATIONS
  .mk 0x23018 0x0 1 0 1 true false 0x0 0x0 [.mk 63 0 .ro []],
  -- FXG_LAST_START
  .mk 0x23020 0x0 1 0 1 true false 0x0 0x0 [.mk 63 0 .ro []],
  -- FXG_LAST_CYCLES
  .mk 0x23028 0x0 1 0 1 false false 0x0 0x0 [.mk 31 0 .ro []],
  -- FXG_SKIPPED
  .mk 0x2302C 0x0 1 0 1 false false 0x0 0x0 [.mk 31 0 .ro []],
  -- FXG_PAIR_EVENTS
  .mk 0x23030 0x0 1 0 1 false false 0x0 0x0 [.mk 31 16 .ro [], .mk 15 0 .ro []],
  -- FXG_WITHHELD
  .mk 0x23034 0x0 1 0 1 false false 0x0 0x0 [.mk 31 16 .ro [], .mk 15 0 .ro []],
  -- FXG_ABANDONED
  .mk 0x23038 0x0 1 0 1 false false 0x0 0x0 [.mk 31 0 .ro []]]

/-- Registers of chapter 12 (R319). -/
def regTable12 : List RegSpec := [
  -- FWH_STATUS
  .mk 0x24000 0x0 1 0 1 false false 0x0 0x0 [.mk 31 16 .ro [], .mk 2 0 .ro []],
  -- FWH_CONFIG
  .mk 0x24004 0x0 1 0 1 false true 0x640001 0x0 [.mk 31 16 .lck [(0, 10000)], .mk 13 8 .lck [], .mk 0 0 .lck []],
  -- FWH_SAVE_BASE
  .mk 0x24008 0x0 1 0 1 true true 0x0 0x0 [.mk 34 16 .lck []],
  -- FWH_SAVE_FRAMES
  .mk 0x24010 0x0 1 0 1 false true 0x0 0x0 [.mk 23 16 .ro [], .mk 6 0 .lck [(0, 64)]],
  -- FWH_PREEMPTIONS
  .mk 0x24018 0x0 1 0 1 true false 0x0 0x0 [.mk 63 0 .ro []],
  -- FWH_SAVE_MAX_NS
  .mk 0x24020 0x0 1 0 1 false false 0x0 0x0 [.mk 31 0 .ro []],
  -- FWH_NO_FRAME
  .mk 0x24024 0x0 1 0 1 false false 0x0 0x0 [.mk 31 0 .ro []],
  -- FWH_TEARDOWNS
  .mk 0x24028 0x0 1 0 1 false false 0x0 0x0 [.mk 31 0 .ro []],
  -- FWH_CPL_LOST
  .mk 0x2402C 0x0 1 0 1 false false 0x0 0x0 [.mk 31 0 .ro []],
  -- FWH_CTXc_STATUS
  .mk 0x24100 0x8 32 0 1 false false 0x0 0x0 [.mk 23 16 .ro [], .mk 10 8 .ro [], .mk 1 0 .ro []],
  -- FWH_CTXc_RUNS
  .mk 0x24104 0x8 32 0 1 false false 0x0 0x0 [.mk 31 0 .ro []],
  -- CAD_STATUS
  .mk 0x25000 0x0 1 0 1 false false 0x0 0x0 [.mk 15 8 .ro [], .mk 0 0 .ro []],
  -- CAD_CONFIG
  .mk 0x25004 0x0 1 0 1 false true 0x3 0x0 [.mk 3 0 .lck [(1, 15)]],
  -- CAD_MISSES
  .mk 0x25008 0x0 1 0 1 false false 0x0 0x0 [.mk 31 16 .ro [], .mk 15 0 .ro []],
  -- CAD_FALLBACK_MISSES
  .mk 0x2500C 0x0 1 0 1 false false 0x0 0x0 [.mk 31 0 .ro []],
  -- CAD_LATE_DISCARDS
  .mk 0x25010 0x0 1 0 1 false false 0x0 0x0 [.mk 31 0 .ro []],
  -- CAD_LAST_MISS
  .mk 0x25018 0x0 1 0 1 true false 0x0 0x0 [.mk 63 0 .ro []],
  -- CAD_LAST_JOB
  .mk 0x25020 0x0 1 0 1 false false 0x0 0x0 [.mk 31 16 .ro [], .mk 0 0 .ro []]]

/-- Registers of chapter 13 (R333). -/
def regTable13 : List RegSpec := [
  -- FWH_MAP_CONFIG
  .mk 0x24040 0x0 1 0 1 false true 0x3E8 0x0 [.mk 15 0 .lck [(1, 65535)]],
  -- FWH_MAP_SENT
  .mk 0x24048 0x0 1 0 1 true false 0x0 0x0 [.mk 63 0 .ro []],
  -- FWH_MAP_RECEIVED
  .mk 0x24050 0x0 1 0 1 true false 0x0 0x0 [.mk 63 0 .ro []],
  -- FWH_MAP_ERRORS
  .mk 0x24058 0x0 1 0 1 false false 0x0 0x0 [.mk 31 16 .ro [], .mk 15 0 .ro []],
  -- FWH_MAP_BARRIER_MAX
  .mk 0x2405C 0x0 1 0 1 false false 0x0 0x0 [.mk 31 0 .ro []]]

/-- Registers of chapter 14 (R352). -/
def regTable14 : List RegSpec := [
  -- TRU_STATUS
  .mk 0x27000 0x0 1 0 1 false false 0x0 0x0 [.mk 31 16 .ro [], .mk 10 8 .ro [], .mk 1 0 .ro []],
  -- TRU_CONFIG
  .mk 0x27004 0x0 1 0 1 false true 0x27101404 0x0 [.mk 31 16 .lck [(1, 65535)], .mk 15 8 .lck [(1, 255)], .mk 7 0 .lck [(1, 255)]],
  -- TRU_WORK_BASE
  .mk 0x27008 0x0 1 0 1 true true 0x0 0x0 [.mk 34 16 .lck []],
  -- TRU_WORK_SIZE
  .mk 0x27010 0x0 1 0 1 false true 0x0 0x0 [.mk 10 0 .lck [(0, 1024)]],
  -- TRU_SOLVES
  .mk 0x27014 0x0 1 0 1 false false 0x0 0x0 [.mk 31 16 .ro [], .mk 15 0 .ro []],
  -- TRU_STORE
  .mk 0x27018 0x0 1 0 1 false false 0x0 0x0 [.mk 31 2 .ro [], .mk 1 0 .ro []],
  -- TRU_DUE_n
  .mk 0x27100 0x4 16 0 1 false false 0x0 0x0 [.mk 15 0 .ro []]]

/-- Registers of chapter 15 (R375). -/
def regTable15 : List RegSpec := [
  -- SPK_ENCn_CFG
  .mk 0x28100 0x40 4 0 1 false true 0x140A0000 0x0 [.mk 31 24 .lck [(1, 255)], .mk 23 16 .lck [(1, 100)], .mk 11 10 .lck [], .mk 9 8 .lck [(0, 2)], .mk 2 2 .lck [], .mk 1 0 .lck [(0, 2)]],
  -- SPK_ENCn_REF
  .mk 0x28104 0x40 4 0 1 false true 0x40100000 0x0 [.mk 31 24 .lck [(1, 255)], .mk 23 0 .lck [(0, 0), (4096, 16777215)]],
  -- SPK_ENCn_CPM
  .mk 0x28108 0x40 4 0 1 true true 0x0 0x0 [.mk 63 0 .st []],
  -- SPK_ENCn_CPM_EFFECT
  .mk 0x28110 0x40 4 0 1 true false 0x0 0x0 [.mk 63 0 .ro []],
  -- SPK_ENCn_POS
  .mk 0x28118 0x40 4 0 1 true false 0x0 0x0 [.mk 63 0 .ro []],
  -- SPK_ENCn_SPEED
  .mk 0x28120 0x40 4 0 1 false false 0x0 0x0 [.mk 31 0 .ro []],
  -- SPK_ENCn_STATE
  .mk 0x28124 0x40 4 0 1 false false 0x1 0x0 [.mk 23 23 .ro [], .mk 17 16 .ro [], .mk 15 4 .ro [], .mk 3 3 .ro [], .mk 2 1 .ro [], .mk 0 0 .ro []],
  -- SPK_ENCn_EXPIRY
  .mk 0x28128 0x40 4 0 1 false true 0x1000000 0x0 [.mk 31 0 .lck [(1, 4294967294)]],
  -- SPK_ENCn_FIRED
  .mk 0x2812C 0x40 4 0 1 false false 0x0 0x0 [.mk 31 0 .ro []],
  -- SPK_ENCn_CMP_DROPS
  .mk 0x28130 0x40 4 0 1 false false 0x0 0x0 [.mk 31 16 .ro [], .mk 15 0 .ro []],
  -- SPK_ENCn_LAST_ID
  .mk 0x28138 0x40 4 0 1 true false 0x0 0x0 [.mk 63 0 .ro []],
  -- SPK_GENg_CFG
  .mk 0x28200 0x20 4 0 1 false true 0x0 0x1 [.mk 31 31 .st [], .mk 8 8 .st [], .mk 5 4 .st [(0, 2)], .mk 1 0 .st []],
  -- SPK_GENg_SPACING
  .mk 0x28204 0x20 4 0 1 false true 0x10000 0x0 [.mk 31 0 .st [(65536, 4294967295)]],
  -- SPK_GENg_START
  .mk 0x28208 0x20 4 0 1 true true 0x8000000000000000 0x0 [.mk 63 0 .st []],
  -- SPK_GENg_END
  .mk 0x28210 0x20 4 0 1 true true 0x0 0x0 [.mk 63 0 .st []],
  -- SPK_GENg_OVERRUN
  .mk 0x28218 0x20 4 0 1 false false 0x0 0x0 [.mk 31 0 .ro []],
  -- SPK_ACTn_CFG
  .mk 0x28300 0x8 8 0 1 false true 0x80320000 0x0 [.mk 31 31 .lck [], .mk 23 16 .lck [], .mk 15 0 .lck [(0, 50000)]],
  -- SPK_ACTn_STATUS
  .mk 0x28304 0x8 8 0 1 false false 0x0 0x0 [.mk 7 4 .ro [], .mk 2 2 .ro [], .mk 1 1 .ro [], .mk 0 0 .ro []],
  -- SPK_TRGn_CFG
  .mk 0x28380 0x8 4 0 1 false true 0x6400 0x0 [.mk 31 31 .lck [], .mk 23 8 .lck [(1, 65535)], .mk 0 0 .lck []],
  -- SPK_TRGn_STATUS
  .mk 0x28384 0x8 4 0 1 false false 0x0 0x0 [.mk 1 0 .ro []],
  -- SPK_ACT_TEST
  .mk 0x283F0 0x0 1 0 1 false true 0x1F4 0x0 [.mk 15 0 .lck [(10, 1000)]],
  -- SPK_MSWm_CFG
  .mk 0x28400 0x20 4 0 1 false true 0x640000 0x0 [.mk 31 16 .lck [(1, 65535)], .mk 5 4 .lck [], .mk 2 2 .lck [], .mk 1 0 .lck [(0, 2)]],
  -- SPK_MSWm_COUNT
  .mk 0x28404 0x20 4 0 1 false false 0x0 0x0 [.mk 31 0 .ro []],
  -- SPK_MSWm_LAST_TIME
  .mk 0x28408 0x20 4 0 1 true false 0x0 0x0 [.mk 63 0 .ro []],
  -- SPK_MSWm_LAST_POS
  .mk 0x28410 0x20 4 0 1 true false 0x0 0x0 [.mk 63 0 .ro []]]

/-- Registers of chapter 16 (R398). -/
def regTable16 : List RegSpec := [
  -- TB_STATUS
  .mk 0x29000 0x0 1 0 1 false false 0x2 0x0 [.mk 31 24 .ro [], .mk 19 16 .ro [], .mk 12 12 .ro [], .mk 9 8 .ro [], .mk 6 4 .ro [], .mk 2 2 .ro [], .mk 1 0 .ro []],
  -- TB_TIME
  .mk 0x29008 0x0 1 0 1 true false 0x0 0x0 [.mk 63 0 .ro []],
  -- TB_OFFSET
  .mk 0x29010 0x0 1 0 1 true false 0x0 0x0 [.mk 63 0 .ro []],
  -- TB_FREQ
  .mk 0x29018 0x0 1 0 1 false false 0x0 0x0 [.mk 31 0 .ro []],
  -- TB_CONFIG
  .mk 0x29020 0x0 1 0 1 false true 0x3C0000 0x0 [.mk 31 16 .lck [(1, 65535)], .mk 5 5 .lck [], .mk 4 4 .lck [], .mk 1 0 .lck []],
  -- TB_PTP_CFG
  .mk 0x29024 0x0 1 0 1 false true 0x1000010 0x0 [.mk 31 28 .lck [(0, 1), (9, 15)], .mk 24 24 .lck [], .mk 23 16 .lck [(0, 127)], .mk 10 8 .lck [(0, 5)], .mk 5 4 .lck [(0, 2)], .mk 3 2 .lck [(0, 1)], .mk 1 0 .lck [(0, 2)]],
  -- TB_PTP_PRIO
  .mk 0x29028 0x0 1 0 1 false true 0x8080F800 0x0 [.mk 31 24 .lck [], .mk 23 16 .lck [], .mk 15 8 .lck []],
  -- TB_PPS_CFG
  .mk 0x2902C 0x0 1 0 1 false true 0x6405 0x0 [.mk 31 16 .lck [], .mk 15 8 .lck [(1, 250)], .mk 2 2 .lck [], .mk 1 1 .lck [], .mk 0 0 .lck []],
  -- TB_PPS_IN_LAST
  .mk 0x29030 0x0 1 0 1 true false 0x0 0x0 [.mk 63 0 .ro []],
  -- TB_Pp_LAT
  .mk 0x29040 0x4 6 0 1 false false 0x0 0x0 [.mk 31 16 .lck [], .mk 15 0 .lck []],
  -- TB_LAUNCH_PENDING
  .mk 0x29060 0x0 1 0 1 false false 0x0 0x0 [.mk 8 0 .ro []],
  -- TB_LAUNCH_SENT
  .mk 0x29064 0x0 1 0 1 false false 0x0 0x0 [.mk 31 0 .ro []],
  -- TB_LAUNCH_LATE
  .mk 0x29068 0x0 1 0 1 false false 0x0 0x0 [.mk 31 0 .ro []],
  -- TB_STEPS
  .mk 0x29070 0x0 1 0 1 false false 0x0 0x0 [.mk 31 16 .ro [], .mk 15 0 .ro []],
  -- TB_LAST_STEP
  .mk 0x29078 0x0 1 0 1 true false 0x0 0x0 [.mk 63 0 .ro []]]

/-- Registers of chapter 17 (R429). -/
def regTable17 : List RegSpec := [
  -- IHX_STATUS
  .mk 0x26000 0x0 1 0 1 false false 0x0 0x0 [.mk 22 16 .ro [], .mk 1 0 .ro []],
  -- IHX_ID
  .mk 0x26004 0x0 1 0 1 false true 0x0 0x0 [.mk 31 31 .lck [], .mk 23 16 .lck [], .mk 9 0 .lck []],
  -- IHX_CONFIG
  .mk 0x26008 0x0 1 0 1 false true 0x400801F4 0x0 [.mk 31 24 .lck [(8, 255)], .mk 23 16 .lck [(1, 255)], .mk 15 0 .lck [(10, 65535)]],
  -- IHX_LIVENESS
  .mk 0x2600C 0x0 1 0 1 false true 0x32000A 0x0 [.mk 31 16 .lck [(3, 65535)], .mk 15 0 .lck [(1, 32767)]],
  -- IHX_VLAN
  .mk 0x26010 0x0 1 0 1 false true 0x4001 0x0 [.mk 15 15 .lck [], .mk 14 12 .lck [], .mk 11 0 .lck [(1, 4094)]],
  -- IHX_TX_TILES
  .mk 0x26018 0x0 1 0 1 true false 0x0 0x0 [.mk 63 0 .ro []],
  -- IHX_RETRANS
  .mk 0x26020 0x0 1 0 1 false false 0x0 0x0 [.mk 31 0 .ro []],
  -- IHX_RX_BAD
  .mk 0x26024 0x0 1 0 1 false false 0x0 0x0 [.mk 31 0 .ro []],
  -- IHX_LOSTj
  .mk 0x26100 0x4 32 0 1 false false 0x0 0x0 [.mk 31 0 .ro []],
  -- IHX_ROUTEk
  .mk 0x26200 0x4 64 0 1 false true 0x0 0x0 [.mk 1 0 .lck [(0, 2)], .mk 3 2 .lck [(0, 2)], .mk 5 4 .lck [(0, 2)], .mk 7 6 .lck [(0, 2)], .mk 9 8 .lck [(0, 2)], .mk 11 10 .lck [(0, 2)], .mk 13 12 .lck [(0, 2)], .mk 15 14 .lck [(0, 2)], .mk 17 16 .lck [(0, 2)], .mk 19 18 .lck [(0, 2)], .mk 21 20 .lck [(0, 2)], .mk 23 22 .lck [(0, 2)], .mk 25 24 .lck [(0, 2)], .mk 27 26 .lck [(0, 2)], .mk 29 28 .lck [(0, 2)], .mk 31 30 .lck [(0, 2)]],
  -- SW_STATUS
  .mk 0x2A000 0x0 1 0 1 false false 0x0 0x0 [.mk 8 8 .ro [], .mk 5 0 .ro []],
  -- SW_MAC
  .mk 0x2A008 0x0 1 0 1 true false 0x0 0x0 [.mk 47 0 .ro []],
  -- SW_IPV4
  .mk 0x2A010 0x0 1 0 1 false true 0x0 0x0 [.mk 31 0 .lck []],
  -- SW_PCP_MAP
  .mk 0x2A014 0x0 1 0 1 false true 0xFAC688 0x0 [.mk 2 0 .lck [], .mk 5 3 .lck [], .mk 8 6 .lck [], .mk 11 9 .lck [], .mk 14 12 .lck [], .mk 17 15 .lck [], .mk 20 18 .lck [], .mk 23 21 .lck []],
  -- SW_CONFIG
  .mk 0x2A018 0x0 1 0 1 false true 0x12C 0x0 [.mk 15 0 .lck [(10, 65535)]],
  -- SW_Pp_CFG
  .mk 0x2A100 0x20 6 0 1 false true 0x807F2400 0x0 [.mk 31 31 .lck [], .mk 22 16 .lck [], .mk 13 0 .lck [(1514, 9216)]],
  -- SW_Pp_VLAN
  .mk 0x2A104 0x20 6 0 1 false true 0x1 0x0 [.mk 31 31 .lck [], .mk 14 12 .lck [], .mk 11 0 .lck [(1, 4094)]],
  -- SW_Pp_DROPS
  .mk 0x2A108 0x20 6 0 1 false false 0x0 0x0 [.mk 31 0 .ro []],
  -- SW_VLAN0
  .mk 0x2A300 0x0 1 0 1 false true 0xFF7F0001 0x0 [.mk 31 31 .lck [], .mk 30 24 .lck [], .mk 22 16 .lck [], .mk 11 0 .lck [(0, 4094)]],
  -- SW_VLANv
  .mk 0x2A304 0x4 63 0 1 false true 0x0 0x0 [.mk 31 31 .lck [], .mk 30 24 .lck [], .mk 22 16 .lck [], .mk 11 0 .lck [(0, 4094)]],
  -- SW_GATEq_CTRL
  .mk 0x2A400 0x20 2 0 1 false true 0x0 0x0 [.mk 31 31 .st [], .mk 8 0 .st [(0, 256)]],
  -- SW_GATEq_BASE
  .mk 0x2A408 0x20 2 0 1 true true 0x0 0x0 [.mk 63 0 .st []],
  -- SW_GATEq_CYCLE
  .mk 0x2A410 0x20 2 0 1 false true 0xF4240 0x0 [.mk 29 0 .st [(1000, 1000000000)]],
  -- SW_GATEq_Ee
  .mk 0x2A800 0x400 2 4 256 false true 0xFF000000 0x0 [.mk 31 24 .st [], .mk 23 0 .st []],
  -- SER_n_CFG
  .mk 0x2B000 0x40 2 0 1 false true 0x230132 0x0 [.mk 31 30 .lck [(0, 2)], .mk 29 29 .lck [], .mk 28 27 .lck [(0, 2)], .mk 26 26 .lck [], .mk 25 25 .lck [], .mk 23 16 .lck [(11, 255)], .mk 15 8 .lck [], .mk 7 0 .lck [(10, 200)]],
  -- SER_n_BAUD
  .mk 0x2B004 0x40 2 0 1 false true 0x1C200 0x0 [.mk 21 0 .lck [(300, 3000000)]],
  -- SER_n_HOST_MAC
  .mk 0x2B008 0x40 2 0 1 true true 0x0 0x0 [.mk 47 0 .lck []],
  -- SER_n_HOST_IP
  .mk 0x2B010 0x40 2 0 1 false true 0x0 0x0 [.mk 31 0 .lck []],
  -- SER_n_PORTS
  .mk 0x2B014 0x40 2 0 1 false true 0x0 0x0 [.mk 31 16 .lck [], .mk 15 0 .lck []],
  -- SER_n_FRAMES
  .mk 0x2B018 0x40 2 0 1 false false 0x0 0x0 [.mk 31 0 .ro []],
  -- SER_n_ERRORS
  .mk 0x2B01C 0x40 2 0 1 false false 0x0 0x0 [.mk 31 16 .ro [], .mk 15 0 .ro []],
  -- SER_n_AMPLITUDE
  .mk 0x2B020 0x40 2 0 1 false false 0x0 0x0 [.mk 15 0 .ro []]]

/-- Registers of chapter 18 (R460). -/
def regTable18 : List RegSpec := [
  -- BRK_STATUS
  .mk 0x2C000 0x0 1 0 1 false false 0x0 0x0 [.mk 31 31 .ro [], .mk 30 30 .ro [], .mk 22 16 .ro [], .mk 12 12 .ro [], .mk 11 11 .ro [], .mk 10 10 .ro [], .mk 4 4 .ro [], .mk 3 3 .ro [], .mk 2 2 .ro [], .mk 1 1 .ro [], .mk 0 0 .ro []],
  -- BRK_CONFIG
  .mk 0x2C004 0x0 1 0 1 false true 0x323200D8 0x0 [.mk 31 24 .lck [(10, 255)], .mk 23 16 .lck [(10, 255)], .mk 8 8 .lck [], .mk 7 7 .lck [], .mk 6 6 .lck [], .mk 5 5 .lck [], .mk 4 3 .ro [], .mk 2 0 .lck []],
  -- BRK_WDOG
  .mk 0x2C008 0x0 1 0 1 false true 0x640A00 0x0 [.mk 31 16 .lck [(1, 1000)], .mk 15 8 .lck [(1, 255)], .mk 1 0 .lck [(0, 2)]],
  -- BRK_CONTROL
  .mk 0x2C00C 0x0 1 0 1 false false 0x0 0x0 [.mk 0 0 .rw []],
  -- BRK_COUNTS
  .mk 0x2C010 0x0 1 0 1 false false 0x0 0x0 [.mk 31 16 .ro [], .mk 15 0 .ro []],
  -- BRK_SAFE_CAUSE
  .mk 0x2C014 0x0 1 0 1 false false 0x0 0x0 [.mk 15 0 .ro []],
  -- BRK_SELFTEST
  .mk 0x2C018 0x0 1 0 1 false false 0x0 0x0 [.mk 27 16 .ro [], .mk 11 0 .ro []],
  -- BRK_NEXT_SEQ
  .mk 0x2C01C 0x0 1 0 1 false false 0x1 0x0 [.mk 31 0 .ro []],
  -- BRK_LAST_SAFE
  .mk 0x2C020 0x0 1 0 1 true false 0x0 0x0 [.mk 63 0 .ro []]]

/-- Registers of chapter 19 (R478). -/
def regTable19 : List RegSpec := [
  -- PWR_THERMAL
  .mk 0x1018 0x0 1 0 1 false false 0x0 0x0 [.mk 31 16 .ro [], .mk 15 0 .ro []],
  -- PWR_POWER
  .mk 0x101C 0x0 1 0 1 false false 0x0 0x0 [.mk 31 16 .ro [], .mk 15 0 .ro []],
  -- PWR_FIELD
  .mk 0x1020 0x0 1 0 1 false false 0x0 0x0 [.mk 31 16 .ro [], .mk 15 0 .ro []]]

/-- The whole register map (R10, R11). -/
def regTable : List RegSpec :=
  regTable00 ++ regTable01 ++ regTable02 ++ regTable03 ++ regTable04 ++ regTable05 ++ regTable06 ++ regTable07 ++ regTable08 ++ regTable09 ++ regTable10 ++ regTable11 ++ regTable12 ++ regTable13 ++ regTable14 ++ regTable15 ++ regTable16 ++ regTable17 ++ regTable18 ++ regTable19

/-- Where an offset falls in a register row: the indices and whether it is the high word. -/
structure RegHit where
  spec : RegSpec
  i : Nat
  j : Nat
  high : Bool
  deriving DecidableEq, Repr

/-- The offset of the register that the hit names (the low word's, for a 64-bit register). -/
def RegHit.offset (h : RegHit) : Nat := h.spec.base + h.i * h.spec.stride + h.j * h.spec.stride2

/-- Does `off` lie in row `r`? -/
def RegSpec.hit (r : RegSpec) (off : Nat) : Option RegHit :=
  if off < r.base then none else
    let d := off - r.base
    let i := if r.stride = 0 then 0 else d / r.stride
    let d := d - i * r.stride
    let j := if r.stride2 = 0 then 0 else d / r.stride2
    let d := d - j * r.stride2
    if i < r.count ∧ j < r.count2 ∧ (d = 0 ∨ (r.wide = true ∧ d = 4)) then some ⟨r, i, j, decide (d = 4)⟩ else none

/-- The register that an offset names; none for an unmapped offset (R11). -/
def findReg (off : Nat) : Option RegHit := regTable.findSome? (fun r => r.hit off)

/-- The reset value of a register (R7 and the register tables). -/
def RegHit.resetValue (h : RegHit) : Nat := h.spec.reset + h.i * h.spec.resetStep

/-- The reset value of the 32-bit word at `off`; an unmapped word reads as zero (R11). -/
def resetWord (off : Nat) : Word :=
  match findReg off with
  | none => 0
  | some h => if h.high then BitVec.ofNat 32 (h.resetValue / 2 ^ 32) else BitVec.ofNat 32 h.resetValue

end Sys2Proof.Machine
end

