-- ==== Sys2Proof/Machine/Tbl.lean ====
section
/-! DEFINITION. Sparse tables: lists of (key, value) pairs in ONE canonical form (keys strictly rising, no entry equal to
what an unlisted key reads as), for registers, memory bytes and every numbered family of units. -/
namespace Sys2Proof.Machine

/-- A table from keys to values; an unlisted key reads as a default that the reader supplies. -/
abbrev Tbl (α : Type) := List (Nat × α)

/-- What the table holds at `k`; `d` is what an unlisted key reads as. -/
def Tbl.get {α : Type} (d : Nat → α) : Tbl α → Nat → α
  | [], k => d k
  | (k', v) :: t, k => if k = k' then v else Tbl.get d t k

/-- The entry of `k` put where it keeps the keys rising. -/
def Tbl.insert {α : Type} : Tbl α → Nat → α → Tbl α
  | [], k, v => [(k, v)]
  | (k', v') :: t, k, v => if k < k' then (k, v) :: (k', v') :: t else (k', v') :: Tbl.insert t k v

/-- The table without the entries whose key fails `p`. -/
def Tbl.keep {α : Type} (p : Nat → Bool) : Tbl α → Tbl α
  | [] => []
  | (k, v) :: t => if p k then (k, v) :: Tbl.keep p t else Tbl.keep p t

/-- The table with `v` at `k`, in canonical form: writing the default removes the entry. -/
def Tbl.put {α : Type} [DecidableEq α] (d : Nat → α) (t : Tbl α) (k : Nat) (v : α) : Tbl α :=
  if v = d k then t.keep (fun j => j != k) else Tbl.insert (t.keep fun j => j != k) k v

/-- Every listed key lies above `lo`, keys rise strictly, and no entry equals its default. -/
def Tbl.wfFrom {α : Type} [DecidableEq α] (d : Nat → α) : Nat → Tbl α → Bool
  | _, [] => true
  | lo, (k, v) :: t => decide (lo ≤ k) && decide (v ≠ d k) && Tbl.wfFrom d (k + 1) t

/-- The canonical form. -/
def Tbl.wf {α : Type} [DecidableEq α] (d : Nat → α) (t : Tbl α) : Bool := Tbl.wfFrom d 0 t

end Sys2Proof.Machine
end

