-- ==== Sys2Proof/Machine/State.lean ====
section
/-! DEFINITION. The state of the module: plain data, every piece of state the spec gives the OZ-SJ16, and its reset. -/
namespace Sys2Proof.Machine

/-! ### Start, journal, supply -/

/-- The phases of SYS_START_STATUS.PHASE (Table 3.9): codes 0 to 4. -/
inductive Phase where
  | starting | awaitGo | operational | maintenance | safe
  deriving DecidableEq, Repr

/-- The power states of Table 2.7; `sprout` is the Sprout domain alone with the supply present (R25, R30, R65), `starting`
the start steps and Maintenance state. -/
inductive Power where
  | off | sprout | hold | doze | starting | ready | active
  deriving DecidableEq, Repr

/-- The supply monitor, the power-level sequencer and the wake logic of the Sprout domain (chapter 2). `dwell` holds the start of each voltage trigger's dwell count
(R33); `vOkSince` and `goodSince` tell since when V_in has been inside V_OK, and with it E at least E_R; `levelAt` is the last change of the supply level (R38), `sleptAt`
the entry to sleep, `wakeAt` the assertion of WAKE# (R45, R47, R48); `budgetAt` is from when on a changed ENG_BUDGET takes effect once no iteration runs (R181), and
`slotTurn` the engine at which the round-robin of Freewheel slots begins (R180). -/
structure Supply where
  strap : Nat := 0
  vin : Nat := 0
  eNow : Nat := 0
  eFull : Nat := 0
  vLow1 : Bool := false
  vLow2 : Bool := false
  vInt : Bool := false
  vHigh1 : Bool := false
  vHigh2 : Bool := false
  supplyLevel : Nat := 0
  hostCap : Nat := 0
  level : Nat := 0
  plan : Nat := 0
  budget : Nat := 96
  planPending : Bool := false
  power : Power := .off
  wakeMask : Nat := 0
  timerS : Nat := 0
  wakeLatched : Option Nat := none
  waking : Bool := false
  wakeSrc : Nat := 0
  discard : Bool := false
  abandoned : Bool := false
  wakePin : Bool := false
  coarse : Int := 0
  crystalFailed : Bool := false
  flushing : Bool := false
  sleepTarget : Option Power := none
  request : Option (Nat × List Byte × Power) := none
  queued : List (Nat × List Byte) := []
  strapBad : Bool := false
  mswStable : Nat := 0
  mswLast : Nat := 0
  hotRaised : Bool := false
  derateRaised : Bool := false
  dwell : Tbl (Option Nat) := []
  vOkSince : Option Nat := none
  goodSince : Option Nat := none
  levelAt : Nat := 0
  sleptAt : Nat := 0
  wakeAt : Nat := 0
  budgetAt : Option Nat := none
  slotTurn : Nat := 0
  deriving DecidableEq, Repr

/-- The states of a step-history entry (R64), codes 0 to 3. -/
inductive HistState where
  | primary | retry | skipped | halted
  deriving DecidableEq, Repr

/-- One step-history entry (Table 3.5). -/
structure StepHist where
  state : HistState := .primary
  consec : Nat := 0
  outcome : Nat := 4
  cause : Nat := 0
  failures : Nat := 0
  failStart : Nat := 0
  deriving DecidableEq, Repr

/-- One journal header copy (Table 3.4). -/
structure JrnHeader where
  valid : Bool := true
  fwPref : Nat := 0
  slotPref : Nat := 0
  generation : Nat := 0
  startCount : Nat := 0
  deriving DecidableEq, Repr

/-- One step-history copy (R75): `entries` by step number, ST02 to ST22 (ST01's entry is in the retention area). -/
structure HistCopy where
  valid : Bool := true
  generation : Nat := 0
  entries : Tbl StepHist := []
  deriving DecidableEq, Repr

/-- One ring record (Tables 3.6 and 3.7). -/
structure JrnRec where
  seq : Nat
  time : Nat
  type : Nat
  quality : Nat
  epoch : Nat
  start : Nat
  level : Nat
  step : Nat
  payload : List Byte
  crcOk : Bool
  deriving DecidableEq, Repr

/-- The start sequencer (chapter 3). `supplyLost` tells that this attempt has seen V_INT active, E4 or PL5 (R65); `stepAt` is when the running step began; `before` is what
the start took before the time count took up from the journal (R377). -/
structure Start where
  phase : Phase := .starting
  origin : Nat := 0
  attempt : Nat := 0
  step : Nat := 0
  holdWake : Bool := false
  alternate : Bool := false
  stepOpen : Bool := false
  bringUp : Bool := false
  go : Bool := false
  failedAttempts : Nat := 0
  fastOff : Bool := false
  cut : Option (Nat × Nat) := none
  began : Nat := 0
  passed : List Nat := []
  fromOff : Bool := false
  freshTried : List Nat := []
  st19Passed : Bool := false
  st21Passed : Bool := false
  skipped : List Nat := []
  supplyLost : Bool := false
  stepAt : Nat := 0
  before : Nat := 0
  deriving DecidableEq, Repr

/-! ### Host interface -/

/-- The states of a queue pair (Table 4.3), codes 0 to 3. -/
inductive QpState where
  | disabled | active | draining | error
  deriving DecidableEq, Repr

/-- A fetched descriptor that has not completed: its fetch number, the SQ head after its fetch, its 64 bytes; `dead` tells that its pair has left ERROR since, so that no completion is
written (Table 4.3), `started` that its work has begun. -/
structure Inflight where
  id : Nat
  sqHead : Nat
  bytes : List Byte
  dead : Bool := false
  started : Bool := false
  deriving DecidableEq, Repr

/-- A completion entry (Table 4.6). -/
structure Cpl where
  tag : Nat
  status : Nat
  fault : Nat
  time : Nat
  epoch : Nat
  sqHead : Nat
  phase : Nat
  quality : Nat
  timeEpoch : Nat
  qspec : Nat
  result : Nat
  noIrq : Bool
  deriving DecidableEq, Repr

/-- One queue pair (section 4.2). `written` lists the entries written into its CQ, newest first; `waiting` the completions
held for want of a CQ entry, oldest first. -/
structure Qp where
  state : QpState := .disabled
  held : Bool := false
  cause : Nat := 0
  sqHead : Nat := 0
  sqTail : Nat := 0
  cqHead : Nat := 0
  cqTail : Nat := 0
  phase : Nat := 1
  inflight : List Inflight := []
  waiting : List Cpl := []
  written : List Cpl := []
  stallRaised : Bool := false
  deriving DecidableEq, Repr

/-- What a write of the module into host memory carries (R82): output data, a completion entry or an MSI-X message. -/
inductive HostKind where
  | data | completion | message
  deriving DecidableEq, Repr

/-- One write of the module into host memory: address, bytes, what it carries, and its Relaxed Ordering attribute (R82). -/
structure HostWrite where
  addr : Nat
  bytes : List Byte
  kind : HostKind := .data
  relaxed : Bool := false
  deriving DecidableEq, Repr

/-- A section of a staged Truing correction block (Table 14.7); an ARRAY_TRIMS section with the backing and the program count noted at its staging (R347). -/
structure Section where
  type : Nat
  a : Nat
  b : Nat
  payload : List Byte
  backing : Nat := 0
  cycles : Nat := 0
  deriving DecidableEq, Repr

/-- A staging set (R102): register entries by offset, one image for each partition, one correction block, and the arrays
that staging programmed. -/
structure StageSet where
  entries : Tbl Word := []
  fixedImg : Option (List Byte) := none
  freeImg : Option (List Byte) := none
  sections : List Section := []
  persistFixed : Bool := false
  persistFree : Bool := false
  programmed : List (Nat × Nat) := []
  tables : Tbl (List Byte) := []
  outstanding : Bool := false
  deriving DecidableEq, Repr

/-- A commit that waits for its boundary (R105); `notAfter` is its time limit, 0 for none, which a time step moves (R108, R389). `phase` is 0 while it waits for its
turn or its boundary, 1 while a drain lets runs in flight end, 2 while it reprograms, 3 once the drain is over; `verifyFailed` tells that an array failed verify,
`untouched` that a power level left arrays unprogrammed. -/
structure Commit where
  qp : Nat
  d : List Byte
  set : Nat
  boundary : Nat
  stream : Nat
  notAfter : Nat
  drain : Bool
  phase : Nat := 0
  verifyFailed : Bool := false
  untouched : Bool := false
  deriving DecidableEq, Repr

/-- A FENCE that waits (R98): the fetch numbers it waits for. -/
structure FenceWait where
  qp : Nat
  d : List Byte
  ids : List Nat
  count : Nat
  deriving DecidableEq, Repr

/-- One interrupt vector's moderation (R101). -/
structure Vec where
  count : Nat := 0
  since : Option Nat := none
  deriving DecidableEq, Repr

/-- The endpoint's PCIe configuration space (Table 4.1): what the table fixes (IDs, class code, link, BAR sizes, payload, read request and tag limits, MSI-X vectors), and what can change: Command, Device Control (bit 4 enables Relaxed Ordering, bits 7:5 the maximum payload
size, bits 14:12 the maximum read request size), BAR0 and BAR2, MSI-X Message Control (bit 15 Enable, bit 14 Function Mask), Link Control (ASPM in bits 1:0), the power state
of the PCI power management capability (0 D0, 3 D3hot) and the AER uncorrectable error status. -/
structure PcieCfg where
  vendor : Nat := 0x4B57
  device : Nat := 0x5316
  classCode : Nat := 0x120000
  genMax : Nat := 4
  widthMax : Nat := 4
  bar0Size : Nat := 0x100000
  bar2Size : Nat := 0x40000
  payloadMax : Nat := 512
  readMax : Nat := 4096
  readsMax : Nat := 256
  vectors : Nat := 72
  command : Nat := 0
  devCtl : Nat := 0x2810
  bar0 : Nat := 0
  bar2 : Nat := 0
  msixCtl : Nat := 0
  linkCtl : Nat := 0
  dState : Nat := 0
  aerStatus : Nat := 0
  deriving DecidableEq, Repr

/-- The host interface (chapter 4). `lastRead` is the host address of the last descriptor read (R85). `sent` lists the MSI-X vectors sent, newest first; `hostRead` is what the last register
read returned on PCIe. -/
structure Hif where
  linkUp : Bool := false
  linkGen : Nat := 0
  linkWidth : Nat := 0
  perst : Bool := false
  fetchSeq : Nat := 1
  roundStart : Nat := 63
  round : List (Nat × Nat) := []
  linkCap3 : Bool := false
  fetchStopped : Bool := false
  fences : List FenceWait := []
  vecs : Tbl Vec := []
  pending : Tbl Bool := []
  sent : List Nat := []
  hostWrites : List HostWrite := []
  hostRead : Nat := 0
  sets : Tbl StageSet := []
  commits : List Commit := []
  epoch : Nat := 0
  pcie : PcieCfg := {}
  lastRead : Nat := 0
  deriving DecidableEq, Repr

/-! ### Faults and safety lines -/

/-- A fault record (Table 18.3). -/
structure FaultRec where
  time : Nat
  cls : Nat
  block : Nat
  cause : Nat
  origCls : Nat
  quality : Nat
  escalated : Bool
  journalled : Bool
  safeCause : Bool
  epoch : Nat
  timeEpoch : Nat
  level : Nat
  kind : Nat
  region : Nat
  count : Nat
  seq : Nat
  detail : Nat
  deriving DecidableEq, Repr

/-- A contained or unit record in handling (R444). -/
structure Handling where
  kind : Nat
  region : Nat
  block : Nat
  cause : Nat
  cls : Nat
  deriving DecidableEq, Repr

/-- What a record has still to do to the rest of the module within the same command: a unit action (Table 18.4) or a
module-class action (R446). -/
inductive Action where
  | unit (kind region code : Nat)
  | module (code : Nat)
  deriving DecidableEq, Repr

/-- The Brake controller: the record queue, handling, regions out of service and the safety lines (chapter 18).
`true` means energised or running; `testPulse` is the WARN line under an off-pulse and the end of the pulse (R453); `opAt` is when the module last became operational or woke from Doze, `emitted` when
each stream context last emitted a sample (R451), `tests` when each self-test by its bit, and each WARN line (16 to 18), was last tested (R435, R453). -/
structure Brake where
  queue : List FaultRec := []
  handling : List Handling := []
  actions : List Action := []
  outRegions : List (Nat × Nat) := []
  warnA : Bool := false
  warnB : Bool := false
  warnAvail : Bool := false
  safeOkA : Bool := false
  safeOkB : Bool := false
  shownTLast : Option Nat := none
  shownAt : Nat := 0
  firstDecision : Bool := false
  restartPending : Bool := false
  wdogOn : Bool := false
  wdogSince : Nat := 0
  wdogLevel : Bool := false
  testPulse : Option (Nat × Nat) := none
  lost : List Nat := []
  conds : Bool := false
  safeSup : Bool := false
  opAt : Nat := 0
  emitted : Tbl Nat := []
  tests : List (Nat × Nat) := []
  deriving DecidableEq, Repr
/-! ### Time base (chapter 16) -/

/-- States of Table 16.2, codes 0 to 4. -/
inductive TbState where
  | unsynced | acquiring | slewing | tracking | holdover
  deriving DecidableEq, Repr

/-- A PTP message that the ordinary clock sent: 0 Sync with its Follow_Up, 1 Announce, 2 Pdelay_Req, 3 Delay_Resp, 4 Pdelay_Resp; with its time, and for an Announce its priority1, priority2, clockClass,
clockAccuracy and timeSource (R381). -/
structure PtpSent where
  kind : Nat
  at' : Nat
  fields : List Nat := []
  deriving DecidableEq, Repr

/-- The time base: quality, time epoch, state, reference in use (1 PTP, 2 PPS), what ST10 started, the ordinary clock's portState, whether PTP is qualified, PPS edges accepted in
a row, the last one, when an edge was last rejected, when the last complete Sync came, offsets measured for the next decision, whether a forward step is pending, the TIME_STEP_BACKs that wait, the start of the
holdover timer, when a running PPS_OUT pulse ends, peer delays by port, and PTP messages sent (newest first). -/
structure TimeBase where
  quality : Nat := 2
  timeEpoch : Nat := 0
  st : TbState := .unsynced
  source : Nat := 0
  ptpOn : Bool := false
  ppsOn : Bool := false
  running : Bool := false
  portState : Nat := 0
  ptpOk : Bool := false
  ppsCount : Nat := 0
  ppsLast : Option Nat := none
  ppsRejected : Option Nat := none
  syncLast : Option Nat := none
  ds : List Int := []
  due : Bool := false
  fwd : Bool := false
  back : List (Nat × List Byte) := []
  holdStart : Option Nat := none
  ppsHigh : Option Nat := none
  ppsEdges : List Nat := []
  pdelay : Tbl Nat := []
  sent : List PtpSent := []
  deriving DecidableEq, Repr
/-! ### Camera links, image pipeline and tensor intake (chapters 5 and 6) -/

/-- The states of a stream context (Table 5.2). -/
inductive CtxState where
  | free | waiting | running | suspended
  deriving DecidableEq, Repr

/-- A recorded frame format (R123, R128); the height of a line-scan source is 0. -/
structure Format where
  width : Nat
  height : Nat
  kind : PixKind
  deriving DecidableEq, Repr

/-- An intake program (Table 4.15): its descriptor, its quantisation table (R160), its program number (R151), and the crop shift of the
camera pose as asked for and as applied (R348). -/
structure Program where
  d : List Byte
  table : List (Nat × Nat)
  number : Nat := 0
  want : Int × Int := (0, 0)
  shift : Int × Int := (0, 0)
  deriving DecidableEq, Repr

/-- A frame or tile on its way through the pipeline and the intake: what it was captured under, its raw rows (`none` is a
missing line, R161), and what its headers will say (Tables 5.10, 5.11 and 6.3). `unit` and `slot` are the converter unit and the
pool slot it holds; `lost` marks a sample dropped under R168, `discard` one discarded under R152 or R165. `before` and `after` are
the lines around a tile that demosaic reads. -/
structure Sample where
  unit : Option Nat := none
  slot : Option Nat := none
  lost : Bool := false
  discard : Bool := false
  prog : Option Program := none
  params : IspSet := {}
  kind : PixKind := .raw 8 none
  width : Nat := 0
  height : Nat := 0
  rows : List (Option (List Nat)) := []
  before : Option (List Nat) := none
  after : Option (List Nat) := none
  needAfter : Bool := false
  tileIndex : Nat := 0
  firstLine : Nat := 0
  tFirst : Nat := 0
  tLast : Nat := 0
  posStart : Int := 0
  posEnd : Int := 0
  epoch : Nat := 0
  sensorEpoch : Nat := 0
  srcFrame : Nat := 0
  quality : Nat := 0
  tracked : Bool := false
  sensorPending : Bool := false
  sensorLate : Bool := false
  sensorUnknown : Bool := false
  sensorValues : Nat := 0
  overlapReset : Bool := false
  posAtArrival : Bool := false
  posCoarse : Bool := false
  short : Bool := false
  truncated : Bool := false
  reversal : Bool := false
  windowEnd : Bool := false
  falling : Option Bool := none
  bad : Bool := false
  badType : Bool := false
  deriving DecidableEq, Repr

/-- Tiling of a line-scan context since its last restart (R161 to R163): the next line slot, the tiles in progress (oldest first),
the last line's position and samples, and what the next first tile carries. -/
structure Tiling where
  nextSlot : Nat := 0
  tiles : List Sample := []
  lastPos : Option Int := none
  lastLine : Option (List Nat) := none
  reset : Bool := true
  reversal : Bool := false
  outside : Bool := false
  deriving DecidableEq, Repr

/-- What a pool slot or a line-buffer region holds: sample ID (0 for none) and the 128 header bytes. -/
structure Held where
  id : Nat := 0
  hdr : List Byte := []
  deriving DecidableEq, Repr

/-- A stream context and its tensor intake (5.1, 6.1). `ready` holds the samples that wait for emission, oldest first; `nextSeq` is
the next sequence number; `closing` is a STREAM_CLOSE that waits for the frame in progress; `gone` tells that the frame whose end is to come has been
dropped already; `fsAt` is when the time without a frame start began (R130), `fsGap` the time between the last two frame starts (0: none), and `front` holds the old words of the
source's set-up registers that a commit of another stream has changed since the last boundary (R142). -/
structure Ctx where
  state : CtxState := .free
  path : Nat := 0
  port : Nat := 0
  channel : Nat := 0
  profile : Nat := 0
  format : Option Format := none
  prog : Option Program := none
  invalid : Bool := false
  pend : Option (Nat × List Byte × Program) := none
  progNo : Nat := 0
  nextSeq : Nat := 1
  nextSlot : Nat := 0
  slots : Tbl Held := []
  tiling : Tiling := {}
  frame : Option Sample := none
  ready : List Sample := []
  closing : Option (Nat × List Byte) := none
  gone : Bool := false
  fsAt : Nat := 0
  fsGap : Nat := 0
  front : Tbl Word := []
  deriving DecidableEq, Repr

/-- An entry of a camera's trigger queue (R121): position, time, coarse flag (R44). -/
structure Trig where
  pos : Int
  time : Nat
  coarse : Bool
  deriving DecidableEq, Repr

/-- A CoaXPress camera: its trigger queue, the format it was last noticed to differ in, lines dropped for want of a bound
context, event packets, and the trigger packets sent to it, oldest first. -/
structure CxpCam where
  queue : List Trig := []
  noticed : Option (Nat × Nat) := none
  dropped : Nat := 0
  events : Nat := 0
  packets : List Trig := []
  deriving DecidableEq, Repr

/-- A set of sensor writes (R145): the epoch of its commit, its slot registers, the slots still to be written, F, and once it has
ended the first frame under it. -/
structure SensorSet where
  epoch : Nat
  words : List Nat
  mask : Nat
  left : List Nat
  retried : Bool := false
  f : Nat
  failed : Bool := false
  late : Bool := false
  effective : Option Nat := none
  deriving DecidableEq, Repr

/-- A sensor write put on the control channel (R145): I2C address, register address, value, value bytes, whether at 1 MHz, and when it began. -/
structure I2cWrite where
  addr : Nat
  reg : Nat
  value : Nat
  bytes : Nat
  fast : Bool
  time : Nat
  deriving DecidableEq, Repr

/-- An A-PHY sensor: its FS count, the delay queue (oldest first), the settings in effect and those last committed (R145 to
R147), and the writes begun, oldest first. -/
structure Sensor where
  frames : Nat := 0
  queue : List SensorSet := []
  curEpoch : Nat := 0
  curWords : List Nat := []
  curMask : Nat := 0
  late : Bool := false
  unknown : Bool := false
  seenWords : List Nat := []
  seenMask : Nat := 0
  sent : List I2cWrite := []
  deriving DecidableEq, Repr

/-- An RTP packet that the depacketiser holds (R133): sequence number, timestamp, marker bit, payload, arrival. -/
structure RtpPacket where
  seq : Nat
  stamp : Nat
  marker : Bool
  payload : List Byte
  time : Nat
  deriving DecidableEq, Repr

/-- A complete access unit that waits to be decoded: its timestamp, the arrival of its last packet, whether it is an IDR or IRAP picture, its NAL units. -/
structure AccessUnit where
  stamp : Nat
  last : Nat
  key : Bool
  nals : List (List Byte)
  deriving DecidableEq, Repr

/-- A decoder context: waiting for an IDR or IRAP picture, silence noticed, when a packet was last classified, packets dropped (R131 to R136); the depacketiser: the next sequence
number in order (none: the first packet gives it), packets held beyond a gap by rising distance, the packets of the access unit in progress, whether its begin is missing, and the
access units that wait to be decoded, oldest first (R133). -/
structure Decoder where
  waitKey : Bool := true
  silent : Bool := false
  heard : Nat := 0
  dropped : Nat := 0
  next : Option Nat := none
  window : List RtpPacket := []
  part : List RtpPacket := []
  broken : Bool := false
  units : List AccessUnit := []
  deriving DecidableEq, Repr

/-- The camera block: contexts, cameras, sensors, decoders; the control mailbox transaction, as (write, camera) (R125); the live
pipeline tables by their source register (R141); whether ST18 ran its alternate, which caps the links (R120, R127); retransmissions counted by A-PHY port (Table 5.14). -/
structure Cams where
  ctxs : Tbl Ctx := []
  cxp : Tbl CxpCam := []
  sensors : Tbl Sensor := []
  decs : Tbl Decoder := []
  mbox : Option (Bool × Nat) := none
  tables : Tbl (List Byte) := []
  alt : Bool := false
  retrans : Tbl Nat := []
  deriving DecidableEq, Repr

/-! ### Compute-in-memory arrays (chapter 7) -/

/-- States of a logical array (Table 7.4), codes 0 to 4. -/
inductive ArrState where
  | blank | loaded | bound | programming | unusable
  deriving DecidableEq, Repr

/-- States of physical A16 (R193). -/
inductive SpareState where
  | free | standingIn (m : Nat) | failed
  deriving DecidableEq, Repr

/-- A group residual passed to the Truing engine (R187): observed minus expected sum, the step exponent, the rows driven, the group, and the die temperature in 0.1 °C as last
reported (DESIGN CHOICE, log entry 171). -/
structure Resid where
  value : Int
  k : Nat
  d : Nat
  group : Nat
  temp : Nat
  deriving DecidableEq, Repr

/-- A physical array: its cells (Table 7.1; an empty list is all zero), the stored sums (R182): 512 row sums, 8 group sums for each row, and the CRC-32C stored with them; its
program count, its column trims (two bytes a column: gain, offset; empty is all zero) and whether TRIM_LIMIT was raised. -/
structure Phys where
  cells : List Byte := []
  rows : List Int := []
  sums : List (List Int) := []
  sumsCrc : Nat := 0
  cycles : Nat := 0
  trims : List Byte := []
  trimLimit : Bool := false
  deriving DecidableEq, Repr

/-- A logical array: state, whether A16 backs it, flags, the CELL_CRC of the image it holds, the time of the last mismatch and whether it was
the second within 24 h (R187), MVMs run, the last 4,096 group residuals passed on (R187, R351), and the accumulators of its columns after the
last MVM (R178). -/
structure LArr where
  state : ArrState := .blank
  onSpare : Bool := false
  suspect : Bool := false
  pendRetire : Bool := false
  crc : Nat := 0
  lastMismatch : Option Nat := none
  second : Bool := false
  mvms : Nat := 0
  resid : List Resid := []
  acc : List Int := []
  deriving DecidableEq, Repr

/-- What asked for an array to be programmed: a PROGRAM_ARRAYS with MODE 0 or 1, a staging set, an ARRAY_RETIRE with MODE 1, or a drain. -/
inductive ProgFor where
  | program (qp : Nat) (d : List Byte)
  | verify (qp : Nat) (d : List Byte)
  | staging (set : Nat) (qp : Nat) (d : List Byte)
  | drain (set : Nat)
  | retire (desc : Option (Nat × List Byte))
  deriving DecidableEq, Repr

/-- One array waiting to be programmed or verified, the front one being under way: array and image. -/
structure ProgItem where
  what : ProgFor
  arr : Nat
  image : List Byte
  deriving DecidableEq, Repr

/-- A retirement whose A16 is programmed and whose backing move waits for its boundary (R196): the ARRAY_RETIRE, the logical array, and the CELL_CRC of the image that was copied (none:
no copy). -/
structure Move where
  desc : Option (Nat × List Byte)
  arr : Nat
  crc : Option Nat
  deriving DecidableEq, Repr

/-- An engine: physical arrays 0 to 16, logical arrays 0 to 15 and at 16 the flags of A16 itself, the spare, the programming queue, a retirement whose backing move
waits for its boundary, whether it is clock-gated (R50), the group residuals counted, and the column results last
released to the epilogue (none while the last MVM's were withheld; R174, R185). -/
structure Engine where
  phys : Tbl Phys := []
  arrs : Tbl LArr := []
  spare : SpareState := .free
  prog : List ProgItem := []
  move : Option Move := none
  gated : Bool := true
  residCount : Nat := 0
  product : Option (List Int) := none
  deriving DecidableEq, Repr

/-- What a PROGRAM_ARRAYS has achieved so far: the arrays that passed, and the fault its completion will carry. -/
structure ProgAcc where
  qp : Nat
  d : List Byte
  passed : Nat
  fault : Nat
  deriving DecidableEq, Repr

/-! ### Chainring, memory, cache (chapter 10) -/

/-- A directory entry (R269): the L1s that share a line, or the one that owns it. -/
structure DirEntry where
  shared : Nat := 0
  owner : Option Nat := none
  deriving DecidableEq, Repr

/-- An arrival region's units (R240): the units whose flags are set, when each was set (unit, time), and the byte ranges (start, end) written so far in the others. -/
structure Arrival where
  flags : List Nat := []
  times : List (Nat × Nat) := []
  parts : List (Nat × Nat) := []
  deriving DecidableEq, Repr

/-- A message that waits at its stop for a carriage (R250): its stops, its place among the stop's requesters, and for how many cycles it has waited. -/
structure Waiting where
  msg : RingMsg
  src : Nat
  dst : Nat
  who : Nat
  waited : Nat := 0
  deriving DecidableEq, Repr

/-- A message aboard: its ring (0 CW, 1 CCW; with the Stem folded the loop of its half), its carriage, and the cycles until its delivery; for the last two of them it is off the carriage (R244). -/
structure Aboard where
  msg : RingMsg
  src : Nat
  dst : Nat
  ring : Nat
  car : Nat
  left : Nat
  deriving DecidableEq, Repr

/-- A claim in force (R251): the stop, and the carriage claimed, as ring and number; none while the claim looks for the next one. -/
structure Claim where
  stop : Nat
  car : Option (Nat × Nat) := none
  deriving DecidableEq, Repr

/-- A line in the last-level cache (R267, R268): its slice and set as slice × 2048 + set, its way, and the masks of its valid and its modified bytes. -/
structure CacheLine where
  line : Nat
  home : Nat
  way : Nat
  valid : Nat
  dirty : Nat := 0
  deriving DecidableEq, Repr

/-- A scrub of a channel (R265): when its pass began, and whether SCRUB_LATE was raised in it. -/
structure Scrub where
  since : Nat := 0
  late : Bool := false
  deriving DecidableEq, Repr

/-- Chainring, module DRAM and the last-level cache: bytes by offset as every agent reads them (an unlisted byte reads as zero, log
entry 5), poisoned lines, lines corrected in the running scrub period, the directory by line, the layout in effect (R256), stops with a claim in
force (R251), the folded Stem (R253), the plan and tables in use (R249, R262), the frames counted when the plan was last changed and when that
was, the arrival regions: those of the Fixed-gear image at their index, those of the Freewheel image at 65536 + index; the last-level cache's lines and the tree of each set that holds any
(R268); and the Chainring: messages that wait at stops, messages aboard, the requester that each stop served last, the last cycle that ran, counted from `frameAt`, and the cycle at which boarding stops
for a change of plan (R249); and the controllers: by channel the last unreserved block slot that serves accesses, counted from `frameAt`, and how many (R261), the lines read from DRAM as (line, end of the
block slot), and the scrub of each channel. -/
structure Mem where
  dram : Tbl Byte := []
  poison : List Nat := []
  corrected : List Nat := []
  dir : Tbl DirEntry := []
  layout : List Byte := []
  claims : List Claim := []
  folded : Bool := false
  plan : Nat := 0
  slotTable : List Byte := []
  memTable : List Byte := []
  frameBase : Nat := 0
  frameAt : Nat := 0
  arrivals : Tbl Arrival := []
  llc : List CacheLine := []
  plru : Tbl Nat := []
  waiting : List Waiting := []
  aboard : List Aboard := []
  turns : Tbl Nat := []
  ringAt : Nat := 0
  boardStop : Option Nat := none
  blocks : Tbl (Nat × Nat) := []
  reads : List (Nat × Nat) := []
  scrubs : Tbl Scrub := []
  deriving DecidableEq, Repr
/-! ### The Fixed-gear partition and the Cadence monitor (chapters 11 and 12) -/

/-- An intake region: the sample it holds, its tensor bytes, its arrival flag, and whether an iteration has started on it. -/
structure Region where
  held : Held := {}
  tensor : List Byte := []
  flag : Bool := false
  setAt : Nat := 0
  started : Bool := false
  deriving DecidableEq, Repr

/-- A compare entry that a chain of an engine queued for a list (R233), with its position, the output row of its detection, and the chain record's GROUP and LAYER. -/
structure Posting where
  engine : Nat
  list : Nat
  bytes : List Byte
  pos : Int := 0
  row : Nat := 0
  group : Nat := 0
  layer : Nat := 0
  deriving DecidableEq, Repr

/-- A running iteration: its region, variant, start, the results withheld so far as (job, half) with half 0 North and 1 South, the
checkpoints passed, for a test iteration the signatures and whether all compared equal, and whether POST_LIMIT was raised for its sample (R233). -/
structure Iter where
  region : Nat
  sample : Nat
  tLast : Nat
  hdr : List Byte
  start : Nat
  variant : List Byte
  paced : Bool
  withheld : List (Nat × Nat) := []
  next : Nat := 0
  test : Bool := false
  sigs : List Byte := []
  testOk : Bool := true
  posts : List Posting := []
  limited : Bool := false
  deriving DecidableEq, Repr

/-- The deadlines of one sample that the Cadence monitor watches: jobs still open with their deadlines, jobs that missed, jobs whose decision was handed over (R312 to R316). -/
structure CadSample where
  sample : Nat
  tLast : Nat
  opened : List (Nat × Nat)
  missed : List Nat := []
  handed : List Nat := []
  deriving DecidableEq, Repr

/-- The Fixed-gear partition: the accepted image (empty: none), the variant in use, its mode, halts, regions, the running
iteration, the test RUNs that wait or run, a change of variant or plan that waits for its frame boundary, and a plan change whose resumption is
awaited, the level for which the variant was last chosen, and an image whose commit took effect while an iteration of the old one runs (R106, R249, R279 to R289). -/
structure Fxg where
  image : List Byte := []
  variant : Option (List Byte) := none
  paced : Bool := false
  halted : Bool := false
  regions : Tbl Region := []
  iter : Option Iter := none
  tests : List (Nat × List Byte) := []
  testTurn : Bool := false
  changePending : Bool := false
  resuming : Bool := false
  lastLevel : Nat := 0xF
  cadence : List CadSample := []
  nextImage : Option (List Byte) := none
  deriving DecidableEq, Repr

/-! ### Freewheel (chapters 12 and 13) -/

/-- Where a task of a run stands (Table 12.4). -/
inductive TaskSt where
  | idle
  | running (engine : Nat) (since : Nat)
  | saving (engine frame : Nat)
  | saved (engine frame : Nat)
  | restoring (engine frame : Nat)
  | ended
  deriving DecidableEq, Repr

/-- Run states (Table 12.4); an ENDED run leaves the list. -/
inductive RunSt where
  | queued | waiting | active
  deriving DecidableEq, Repr

/-- One admitted run. `origin` is the RUN that asked for it, none for a bound run; `posts` are the compare entries queued by its chains; `released` tells that its start barrier released it; `sent` the phases whose pieces were sent; `image` is the
Freewheel image it runs under; `limited` tells that POST_LIMIT was raised for its sample (R233). -/
structure Run where
  id : Nat
  job : Nat
  ctx : Nat
  prio : Nat
  sample : Nat
  origin : Option (Nat × List Byte)
  deadline : Nat
  continues : Bool
  state : RunSt := .queued
  admitted : Nat
  epoch : Nat
  tasks : List TaskSt
  missed : Bool := false
  posts : List Posting := []
  written : Nat := 0
  report : Bool := false
  number : Nat := 0
  joinedAt : Option Nat := none
  released : Bool := false
  sent : List Nat := []
  image : List Byte := []
  limited : Bool := false
  deriving DecidableEq, Repr

/-- A teardown in progress (R309, R310): tasks stopped, the engines they occupied, and the CONTEXT_KILLs that complete with it. -/
structure Teardown where
  stopped : Nat
  engines : List Nat
  kills : List (Nat × List Byte)
  deriving DecidableEq, Repr

/-- A save or a restore that has been decided (R306): engine, frame, run, task and when it was decided. -/
structure Xfer where
  restore : Bool
  engine : Nat
  frame : Nat
  run : Nat
  task : Nat
  since : Nat
  deriving DecidableEq, Repr

/-- A barrier generation at its coordinator (R330). -/
structure BarrierGen where
  id : Nat
  gen : Nat
  count : Nat
  joined : List Nat
  released : Bool
  deriving DecidableEq, Repr

/-- A host barrier that this module has joined and that waits for its release (R330). -/
structure HostBarrier where
  qp : Nat
  d : List Byte
  id : Nat
  gen : Nat
  coordinator : Nat
  joinedAt : Nat
  deriving DecidableEq, Repr

/-- Freewheel: the accepted image (empty: none), whether ST16 was skipped, the runs in admission order, teardowns by context, saves and restores in the order they were
decided, save frames held, bound completions held while the CQ is full (with their pair), run numbers by job, barrier generations at this coordinator, host barriers joined
by ID, the host barriers that wait, the runs and phases for which MAP_MISMATCH was raised (job, run number, phase), and whether a task has ended within the
present command (R303), and the jobs that a drain does not admit (R105). -/
structure Fwh where
  image : List Byte := []
  skipped : Bool := false
  runs : List Run := []
  nextId : Nat := 1
  tear : Tbl (Option Teardown) := []
  xfers : List Xfer := []
  frames : List Nat := []
  cplHeld : List (Nat × Cpl) := []
  numbers : Tbl Nat := []
  gens : List BarrierGen := []
  hostGens : Tbl Nat := []
  hostWaits : List HostBarrier := []
  mapNoted : List (Nat × Nat × Nat) := []
  taskEnded : Bool := false
  held : List Nat := []
  deriving DecidableEq, Repr

/-! ### The Truing engine (chapter 14) -/

/-- A solve that waits or runs: its SOLVE, the observation records, and once it runs its start, the problem's record (empty for KIND 0), the parameters it starts from (R341), and for KIND 0 the backing
and program count of its array as noted at the start. -/
structure Solve where
  qp : Nat
  d : List Byte
  obs : List Byte
  start : Option Nat := none
  problem : List Byte := []
  x0 : List (BitVec 32) := []
  backing : Nat := 0
  cycles : Nat := 0
  deriving DecidableEq, Repr

/-- One copy of the Truing store in boot flash (R349): trims by physical array (32 × engine + array), poses by stream context, counts per metre by encoder channel. -/
structure TruCopy where
  valid : Bool := true
  generation : Nat := 0
  trims : Tbl (List Byte) := []
  poses : Tbl (List Byte) := []
  wheels : Tbl Nat := []
  deriving DecidableEq, Repr

/-- The Truing engine: solves in the order of their fetch (the front one runs), poses in effect by context (Table 14.7), the two store copies, where the values in effect came from (TRU_STORE.SOURCE) and the generation in effect, and whether values in
effect are not in the store yet. -/
structure Tru where
  queue : List Solve := []
  poses : Tbl (List Byte) := []
  copyA : TruCopy := {}
  copyB : TruCopy := {}
  source : Nat := 0
  generation : Nat := 0
  dirty : Bool := false
  deriving DecidableEq, Repr

/-! ### The Spoke unit (chapter 15) -/

/-- A pending compare entry: its 32 bytes (Table 15.5), base position B (R363), travel so far, EXPIRY in effect (`none`: never), and whether it was
put off to the next update (R368). -/
structure CmpEntry where
  bytes : List Byte
  base : Int
  travel : Nat := 0
  expiry : Option Nat
  imprecise : Bool := false
  deriving DecidableEq, Repr

/-- Speed states (Table 15.4), codes 0 to 2. -/
inductive SpeedState where
  | standstill | settling | moving
  deriving DecidableEq, Repr

/-- An encoder channel: position and the 8 bits below the count, quality, FAULT, direction, speed and the references of Table 15.4 (`nearP`, `nearT` is
the last sample within one count of the reference), the positions of the window (newest first), when FAULT began, the learned phase, the compare list in acceptance order, and
the entries fired at the present update. -/
structure Chan where
  pos : Int := 0
  frac : Nat := 0
  coarse : Bool := true
  fault : Bool := false
  rising : Bool := true
  st : SpeedState := .standstill
  speed : Int := 0
  at' : Nat := 0
  pRef : Int := 0
  pA : Int := 0
  tA : Nat := 0
  pExt : Int := 0
  exitP : Int := 0
  exitT : Nat := 0
  nearP : Int := 0
  nearT : Nat := 0
  hist : List Int := []
  faultAt : Nat := 0
  phase : Option Nat := none
  entries : List CmpEntry := []
  fires : Nat := 0
  deriving DecidableEq, Repr

/-- A running pulse (R369): one with a time width ends at a time in steps of 250 ps, one with a count width at a position of its channel. -/
inductive Pulse where
  | time (until' : Nat)
  | count (ch : Nat) (stop : Int) (rising : Bool)
  deriving DecidableEq, Repr

/-- An output, ACT0 to ACT7 as 0 to 7 and TRG0 to TRG3 as 8 to 11: latch, running pulses, since when it is on (250 ps), the hold after an overload and its trips,
whether it stays off until the next start, and the last test pulse (R369, R372). -/
structure Out where
  latch : Bool := false
  pulses : List Pulse := []
  onSince : Nat := 0
  hold : Bool := false
  trips : List Nat := []
  latched : Bool := false
  testing : Option Nat := none
  tested : Nat := 0
  deriving DecidableEq, Repr

/-- A line-trigger generator (R371): running, A, S, twice the position up to which points are done (odd values lie just beyond a point), the last point fired, and when
GEN_OVERRUN was last raised. -/
structure Gen where
  running : Bool := false
  a : Int := 0
  s : Nat := 65536
  ref2 : Int := 0
  last : Option Int := none
  overAt : Option Nat := none
  deriving DecidableEq, Repr

/-- The Spoke unit: channels, outputs, generators; the edges placed, as (output, on, time in steps of 250 ps), newest first; the position store (R356) as (position,
rising, phase) by channel; and whether the actuator supply is lost. -/
structure Spk where
  chans : Tbl Chan := []
  outs : Tbl Out := []
  gens : Tbl Gen := []
  edges : List (Nat × Bool × Nat) := []
  store : List (Int × Bool × Option Nat) := []
  storeOk : Bool := true
  actLost : Bool := false
  deriving DecidableEq, Repr

/-! ### The switch, Ihlex and the serial ports (chapter 17) -/

/-- A gate list in effect (R403): enabled, BASE, CYCLE_NS and its entries (GATES, INTERVAL). -/
structure GateList where
  on : Bool := false
  base : Nat := 0
  cycle : Nat := 1000000
  entries : List (Nat × Nat) := []
  deriving DecidableEq, Repr

/-- A frame in an egress queue (R402): traffic class, arrival, bytes without FCS, and for a PTP event message that the transparent clock corrects the offset of its correctionField
and what is subtracted from its egress time stamp (R392). -/
structure Egress where
  cls : Nat
  at' : Nat
  bytes : List Byte
  tc : Option (Nat × Int) := none
  deriving DecidableEq, Repr

/-- An entry of a launch queue (R394): its TIMED_SEND, the frame and its launch time. -/
structure LaunchEntry where
  qp : Nat
  d : List Byte
  frame : List Byte
  launch : Nat
  deriving DecidableEq, Repr

/-- An external port: its egress queue in arrival order, when it is next free, the gate list in effect and the one that follows it at a time, the launch queue in
order of launch, and when SW_QUEUE_DROP was last raised. -/
structure SwPort where
  queue : List Egress := []
  freeAt : Nat := 0
  gates : GateList := {}
  nextGates : Option (Nat × GateList) := none
  launches : List LaunchEntry := []
  dropAt : Option Nat := none
  deriving DecidableEq, Repr

/-- A learned forwarding entry (R400): MAC, VID, port, and when it was last used. -/
structure FdbEntry where
  mac : Nat
  vid : Nat
  port : Nat
  used : Nat
  deriving DecidableEq, Repr

/-- The switch: ports, the forwarding table, and the frames that have left, as (port, time, bytes), newest first. -/
structure Sw where
  ports : Tbl SwPort := []
  fdb : List FdbEntry := []
  sent : List (Nat × Nat × List Byte) := []
  deriving DecidableEq, Repr

/-- Where a TILE or DOORBELL comes from: an IHLEX_PUSH, or a piece of a run's phase in one of its rounds (R327). -/
inductive TxFrom where
  | push (qp : Nat) (d : List Byte)
  | piece (run phase round : Nat)
  deriving DecidableEq, Repr

/-- A TILE (type 1) or DOORBELL (type 3) queued or unacknowledged (Table 17.4); `seq` 0 until it is sent. -/
structure TxFrame where
  type : Nat
  src : TxFrom
  addr : Nat
  job : Nat := 0xFFFF
  phase : Nat := 0
  run : Nat := 0
  image : Nat := 0
  value : Nat := 0
  payload : List Byte := []
  seq : Nat := 0
  tries : Nat := 0
  sentAt : Nat := 0
  deriving DecidableEq, Repr

/-- A peer of the Ihlex engine (R413 to R417): slot, next SEQ, frames waiting and unacknowledged, last transmission and reception, when nothing was left
unacknowledged; as a sender to this module, the lowest SEQ not received, the SEQs above it that were, frames since the last ACK, whether one is due, and the refused SEQs
whose ACK is due. -/
structure Peer where
  slot : Bool := false
  nextSeq : Nat := 1
  wait : List TxFrame := []
  unacked : List TxFrame := []
  lastTx : Nat := 0
  lastRx : Nat := 0
  idleSince : Nat := 0
  rxNext : Nat := 1
  rxAbove : List Nat := []
  rxCount : Nat := 0
  ackDue : Bool := false
  rxAt : Nat := 0
  rejects : List Nat := []
  deriving DecidableEq, Repr

/-- An IHLEX_PUSH under way: bytes to be acknowledged, acknowledged, and retransmissions. -/
structure Push where
  qp : Nat
  d : List Byte
  dest : Nat
  left : Nat
  acked : Nat := 0
  retrans : Nat := 0
  deriving DecidableEq, Repr

/-- The Ihlex engine: peers by module ID, peers that wait for a slot in order, pushes, and when IHX_WINDOW_FULL, IHX_BAD_FRAME and IHX_ID_CONFLICT were last raised. -/
structure Ihx where
  peers : Tbl Peer := []
  slotWait : List Nat := []
  pushes : List Push := []
  fullAt : Option Nat := none
  badAt : Option Nat := none
  idAt : Option Nat := none
  deriving DecidableEq, Repr

/-- The frame that a serial port is receiving: characters, start and end, FRAMING. -/
structure SerFrame where
  chars : List Byte := []
  tStart : Nat := 0
  tEnd : Nat := 0
  framing : Bool := false
  deriving DecidableEq, Repr

/-- A serial port: the frame in progress, whether it waits for an idle gap or for a clean character after a step, whether a character of the frame to come has been
discarded, the transmit queue as (TAG, characters), frames received, when SER_COLLISION was last raised, what has been sent, as (TAG, characters), newest first, and when the last received character and the last frame sent ended on the line. -/
structure SerPort where
  frame : Option SerFrame := none
  skip : Bool := false
  resync : Bool := false
  framing : Bool := false
  queue : List (Nat × List Byte) := []
  seq : Nat := 0
  collisionAt : Option Nat := none
  sent : List (Nat × List Byte) := []
  rxEnd : Nat := 0
  txEnd : Nat := 0
  deriving DecidableEq, Repr

/-! ### The journal -/

/-- What the register snapshot holds of the registers and the queue pairs (R70). -/
structure Snapshot where
  crcOk : Bool := false
  regs : Tbl Word := []
  qps : Tbl Qp := []
  epoch : Nat := 0
  timeEpoch : Nat := 0
  ctxs : Tbl Ctx := []
  deriving DecidableEq, Repr

/-- The journal (chapter 3): header and history copies, ST01's retention area (R67), the snapshot area, the ring (oldest
record first, at most 3,392). -/
structure Journal where
  headerA : JrnHeader := {}
  headerB : JrnHeader := {}
  hist0 : HistCopy := {}
  hist1 : HistCopy := {}
  st01 : StepHist := {}
  nextSeq : Nat := 1
  retOk : Bool := true
  snapshot : Snapshot := {}
  ring : List JrnRec := []
  wrapped : Bool := false
  reformatted : Bool := false
  failed : Bool := false
  deriving DecidableEq, Repr

/-! ### The whole machine -/

/-- The state of the module. `regs` holds every BAR0 register word that is not a view of another field, `latches` and
`holding` the 64-bit access latches and holding words of R6, `stWords` the ST words written before operation that wait for a commit boundary (Table 0.2); `now` is module time in ns; `freeCount` counts the free
values used; `progs` the PROGRAM_ARRAYS descriptors under way; `flash` the schedule slots that PERSIST has written (0 and 1 Fixed-gear, 2 and 3
Freewheel); `pending` is the queue of commands that wait. -/
structure State where
  regs : Tbl Word := []
  latches : Tbl Word := []
  holding : Tbl Word := []
  stWords : Tbl Word := []
  now : Nat := 0
  freeCount : Nat := 0
  sup : Supply := {}
  jrn : Journal := {}
  start : Start := {}
  hif : Hif := {}
  qps : Tbl Qp := []
  brk : Brake := {}
  tb : TimeBase := {}
  cams : Cams := {}
  engs : Tbl Engine := []
  progs : List ProgAcc := []
  mem : Mem := {}
  fxg : Fxg := {}
  fwh : Fwh := {}
  tru : Tru := {}
  spk : Spk := {}
  sw : Sw := {}
  ihx : Ihx := {}
  ser : Tbl SerPort := []
  flash : Tbl (List Byte) := []
  pending : List Instr := []
  deriving DecidableEq, Repr

/-- The module right after reset: supply absent, nothing in the journal, every register at its reset value. -/
def State.reset : State := {}

/-- There is no fault: every event and every access has an outcome that the spec describes. -/
inductive Fault where
  /-- Raised by no meaning: the spec gives every command of the table an effect. Safe. -/
  | noneRaised
  deriving DecidableEq, Repr

/-- Why a command has no meaning here. -/
inductive Refusal where
  /-- The command is not modelled yet; raised by exec's arm alone. Safe. -/
  | notModelled (mnemonic : String)
  /-- The command is not a well-formed term (WellFormed.lean): a descriptor command whose descriptor is not 64 bytes or
  whose opcode byte is another opcode's. Raised by the descriptor gate. Safe. -/
  | illFormed (why : String)
  deriving DecidableEq, Repr

end Sys2Proof.Machine
end

