-- ==== Sys2Proof/Machine/Ops.lean ====
section
/-! DEFINITION. The shared operations: register words and fields, free values, time quality, the journal ring, interrupts,
completions, and raising a fault record (chapters 3, 4 and 18). -/
namespace Sys2Proof.Machine

/-! ### Register words and fields -/

/-- What an unwritten register word holds: its reset value; the factory value for TB_Pp_LAT (Table 16.7) and SW_MAC (Table 17.8). -/
def regDefault (off : Nat) : Word :=
  if 0x29040 ≤ off ∧ off < 0x29058 then Config.factoryLatency ((off - 0x29040) / 4)
  else if off = 0x2A008 then Config.factoryMac.truncate 32
  else if off = 0x2A00C then (Config.factoryMac >>> 32).truncate 32
  else resetWord off

/-- The stored word of the register at `off`. -/
def State.word (s : State) (off : Nat) : Nat := (s.regs.get regDefault off).toNat

/-- Store a register word. -/
def State.setWord (s : State) (off v : Nat) : State :=
  { s with regs := s.regs.put regDefault off (BitVec.ofNat 32 v) }

/-- The stored 64-bit register at `off` (R6: low word at the lower offset). -/
def State.word64 (s : State) (off : Nat) : Nat := s.word off + 2 ^ 32 * s.word (off + 4)

/-- Store a 64-bit register. -/
def State.setWord64 (s : State) (off v : Nat) : State :=
  (s.setWord off (v % 2 ^ 32)).setWord (off + 4) (v / 2 ^ 32)

/-- The value of a register field. -/
def State.fget (s : State) (f : Fld) : Nat := bits (s.word f.off) f.hi f.lo

/-- Set a register field. -/
def State.fset (s : State) (f : Fld) (v : Nat) : State := s.setWord f.off (setBits (s.word f.off) f.hi f.lo v)

/-- Add to a counter field, saturating at its width. -/
def State.bump (s : State) (f : Fld) (k : Nat := 1) : State := s.fset f (satAdd (f.hi + 1 - f.lo) (s.fget f) k)

/-- Add to a 64-bit counter. -/
def State.bump64 (s : State) (off : Nat) (k : Nat := 1) : State := s.setWord64 off ((s.word64 off + k) % 2 ^ 64)

/-! ### Free values -/

/-- The next free value, as `w` bits (DESIGN CHOICE, log entry 2). -/
def State.free (s : State) (w : Nat) : Nat := (Config.freeValue s.freeCount).toNat % 2 ^ w

/-- The open value that the register at an offset reads as now, as `w` bits (DESIGN CHOICE, log entry 2); a read advances the counter. -/
def State.freeReg (s : State) (off w : Nat) : Nat := (Config.freeRegister off s.freeCount).toNat % 2 ^ w

/-- Advance past the free values used. -/
def State.useFree (s : State) (k : Nat := 1) : State := { s with freeCount := s.freeCount + k }

/-! ### Phase, level and time -/

/-- The module is operational (R69): phase 2, Ready or Active. -/
def State.operational (s : State) : Bool :=
  decide (s.start.phase = .operational) && (decide (s.sup.power = .ready) || decide (s.sup.power = .active))

/-- The effective level that records report: 0xF when not operational (Table 18.3). -/
def State.levelCode (s : State) : Nat := if s.operational then s.sup.level else 0xF

/-- The config epoch that records carry: 0x0000 before operation (Table 3.6); Doze and safe state follow operation. -/
def State.jrnEpoch (s : State) : Nat :=
  if s.start.phase = .operational ∨ s.start.phase = .safe then s.hif.epoch else 0

/-- The start step that runs, 0 for none (Table 3.6). -/
def State.stepNow (s : State) : Nat := if s.start.stepOpen then s.start.step else 0

/-- Module time moves up to `t` (never back): an event that carries its time (DEDUCED, log entry 3). -/
def State.passUntil (s : State) (t : Nat) : State := { s with now := max s.now t }

/-! ### The journal ring (R67, R76) -/

/-- The bytes of a ring record but its CRC: envelope bytes 0 to 27 and the payload. -/
def JrnRec.body (r : JrnRec) : List Byte × List Byte :=
  (leBytes 8 r.seq ++ leBytes 8 r.time ++ leBytes 1 r.type ++ leBytes 1 r.quality ++ leBytes 2 r.epoch ++
    leBytes 4 r.start ++ leBytes 1 r.level ++ leBytes 1 r.step ++ leBytes 2 0, slice r.payload 0 32)

/-- The 64 bytes of a ring record (Tables 3.6 and 3.7). -/
def JrnRec.bytes (r : JrnRec) : List Byte :=
  r.body.1 ++ leBytes 4 (crc32c (r.body.1 ++ r.body.2)) ++ r.body.2

/-- START_COUNT of the header in use: the valid copy with the higher generation (R74). -/
def Journal.header (j : Journal) : JrnHeader :=
  if j.headerB.valid && (!j.headerA.valid || decide (j.headerA.generation < j.headerB.generation)) then j.headerB
  else j.headerA

/-- Is header copy B the one in use? (JRN_STATUS.HEADER) -/
def Journal.usesB (j : Journal) : Bool :=
  j.headerB.valid && (!j.headerA.valid || decide (j.headerA.generation < j.headerB.generation))

/-- Write the header: the copy with the lower generation, one above the other copy's (R74). -/
def Journal.setHeader (j : Journal) (f : JrnHeader → JrnHeader) : Journal :=
  let h := f j.header
  if j.usesB then { j with headerA := { h with valid := true, generation := j.headerB.generation + 1 } }
  else { j with headerB := { h with valid := true, generation := j.headerA.generation + 1 } }

/-- The number of records the ring holds (Table 3.3). -/
def ringSize : Nat := 3392

/-- Append a record to the ring; the oldest is overwritten when the ring is full (R76). Nothing is written while the
journal is unusable (R61). -/
def State.jrnWrite (s : State) (type : Nat) (payload : List Byte) : State :=
  if s.jrn.failed then s else
    let r : JrnRec := ⟨s.jrn.nextSeq, s.now, type, s.tb.quality, s.jrnEpoch, s.jrn.header.startCount % 2 ^ 32, s.levelCode,
      s.stepNow, slice payload 0 32, true⟩
    let full := decide (ringSize ≤ s.jrn.ring.length)
    { s with jrn := { s.jrn with
        ring := (if full then s.jrn.ring.drop 1 else s.jrn.ring) ++ [r]
        wrapped := s.jrn.wrapped || full
        nextSeq := s.jrn.nextSeq + 1
        retOk := true } }

/-- Is history copy 1 the one in use? -/
def Journal.uses1 (j : Journal) : Bool :=
  j.hist1.valid && (!j.hist0.valid || decide (j.hist0.generation < j.hist1.generation))

/-- The history copy in use: the valid copy with the higher generation (R74). -/
def Journal.history (j : Journal) : HistCopy := if j.uses1 then j.hist1 else j.hist0

/-- The history entry of step `n`; ST01's is in the retention area (R67). -/
def Journal.entry (j : Journal) (n : Nat) : StepHist :=
  if n = 1 then (if j.retOk then j.st01 else {}) else j.history.entries.get (fun _ => {}) n

/-! ### Interrupts (R100, R101) -/

/-- Is vector `v` masked in the MSI-X table? -/
def State.masked (s : State) (v : Nat) : Bool := s.fget (Fld.MSIX_CTRL_MASK v) == 1

/-- Is Relaxed Ordering enabled in the Device Control register? (R82) -/
def PcieCfg.relaxed (p : PcieCfg) : Bool := bitOn p.devCtl 4

/-- The module writes into host memory, if the link is up (R83). Only output data carries the Relaxed Ordering attribute, and only when the host has enabled it (R82). -/
def State.hostPut (s : State) (kind : HostKind) (addr : Nat) (b : List Byte) : State :=
  if s.hif.linkUp then
    { s with hif := { s.hif with hostWrites := ⟨addr, b, kind, decide (kind = .data) && s.hif.pcie.relaxed⟩ :: s.hif.hostWrites } }
  else s

/-- The MSI-X message of vector `v`: the data of its table entry is written to the entry's address (R82). -/
def State.message (s : State) (v : Nat) : State :=
  (({ s with hif := { s.hif with sent := v :: s.hif.sent } } : State)).hostPut .message
    (s.word (Reg.MSIX_ADDR_LO v) + 2 ^ 32 * s.word (Reg.MSIX_ADDR_HI v)) (leBytes 4 (s.word (Reg.MSIX_DATA v)))

/-- A message of vector `v` falls due: it is sent, or its pending bit is set while the vector is masked or the link is
down (R101). -/
def State.msix (s : State) (v : Nat) : State :=
  if s.masked v || !s.hif.linkUp then { s with hif := { s.hif with pending := s.hif.pending.put (fun _ => false) v true } }
  else s.message v

/-- Send the pending messages whose vector is unmasked, while the link is up (R101). -/
def State.sendPending (s : State) : State :=
  if s.hif.linkUp then
    (List.range 72).foldl (fun s v =>
      if s.hif.pending.get (fun _ => false) v && !s.masked v then
        ({ s with hif := { s.hif with pending := s.hif.pending.put (fun _ => false) v false } }).message v
      else s) s
  else s

/-- The moderation state of a vector. -/
def State.vec (s : State) (v : Nat) : Vec := s.hif.vecs.get (fun _ => {}) v

/-- Set the moderation state of a vector. -/
def State.setVec (s : State) (v : Nat) (x : Vec) : State :=
  { s with hif := { s.hif with vecs := s.hif.vecs.put (fun _ => {}) v x } }

/-- A vector fires: the count and the timer are reset (R101). -/
def State.fireVec (s : State) (v : Nat) : State := (s.setVec v {}).msix v

/-- A completion counts toward its vector (R101). -/
def State.countCpl (s : State) (v : Nat) : State :=
  let x := s.vec v
  if s.fget (Fld.HIF_VEC_n_MOD_COUNT v) ≤ x.count + 1 then s.fireVec v
  else s.setVec v { count := x.count + 1, since := x.since.or (some s.now) }

/-! ### Queue pairs and completions (R84, R86, R92, R94) -/

/-- Queue pair `n`. -/
def State.qp (s : State) (n : Nat) : Qp := s.qps.get (fun _ => {}) n

/-- Set queue pair `n`. -/
def State.setQp (s : State) (n : Nat) (q : Qp) : State := { s with qps := s.qps.put (fun _ => {}) n q }

/-- Entries of the CQ of pair `n`. -/
def State.cqSize (s : State) (n : Nat) : Nat := 2 ^ s.fget (Fld.HIF_QP_n_CFG_CQ_LOG2 n)

/-- Entries of the SQ of pair `n`. -/
def State.sqSize (s : State) (n : Nat) : Nat := 2 ^ s.fget (Fld.HIF_QP_n_CFG_SQ_LOG2 n)

/-- The CQ is full when tail + 1 equals head, modulo the size (R92). -/
def State.cqFull (s : State) (n : Nat) : Bool :=
  decide (((s.qp n).cqTail + 1) % s.cqSize n = (s.qp n).cqHead)

/-- The 32 bytes of a completion entry (Table 4.6). -/
def Cpl.bytes (c : Cpl) : List Byte :=
  leBytes 4 c.tag ++ leBytes 2 c.status ++ leBytes 2 c.fault ++ leBytes 8 c.time ++ leBytes 2 c.epoch ++ leBytes 2 c.sqHead ++
    leBytes 1 (c.phase + 2 * c.quality) ++ leBytes 1 c.timeEpoch ++ leBytes 2 c.qspec ++ leBytes 8 c.result

/-- The host address of the CQ slot of pair `n` at index `i`, and of its SQ slot (R85). -/
def State.cqSlot (s : State) (n i : Nat) : Nat := s.word64 (Reg.HIF_QP_n_CQ_BASE n) + 32 * i
/-- The host address of an SQ slot (R85). -/
def State.sqSlot (s : State) (n i : Nat) : Nat := s.word64 (Reg.HIF_QP_n_SQ_BASE n) + 64 * i

/-- Write one completion entry into the slot at the CQ tail and advance the tail (R85, R92). -/
def State.writeCpl (s : State) (n : Nat) (c : Cpl) : State :=
  let q := s.qp n
  let t := (q.cqTail + 1) % s.cqSize n
  let e := { c with phase := q.phase }
  let s := (s.hostPut .completion (s.cqSlot n q.cqTail) e.bytes).setQp n { q with
    written := e :: q.written
    cqTail := t
    phase := if t = 0 then 1 - q.phase else q.phase }
  if c.noIrq then s else s.countCpl (s.fget (Fld.HIF_QP_n_IRQ_VECTOR n))

/-- Write the waiting completions, oldest first, while the CQ has room (R92). -/
def State.flushCpls (s : State) (n : Nat) : List Cpl → State
  | [] => s
  | c :: t => if s.cqFull n then s.setQp n { s.qp n with waiting := c :: t }
    else ((s.writeCpl n c).setQp n { (s.writeCpl n c).qp n with waiting := t }).flushCpls n t

/-- A completion of pair `n`: written, held while the CQ is full, or dropped when the pair is not ACTIVE (R86, R92). -/
def State.postCpl (s : State) (n : Nat) (c : Cpl) : State :=
  let q := s.qp n
  if q.state = .active then
    if s.cqFull n || !q.waiting.isEmpty then s.setQp n { q with waiting := q.waiting ++ [c] } else s.writeCpl n c
  else s

/-- The contained records of a region leave handling (R444). -/
def State.endHandling (s : State) (kind region : Nat) : State :=
  { s with brk := { s.brk with handling := s.brk.handling.filter fun h =>
      !(h.kind == kind && h.region == region && h.cls == 2) } }

/-- The last fetched descriptor of a DRAINING pair has ended: the pair is DISABLED (Table 4.3). -/
def Qp.drained (q : Qp) : Qp := if q.state = .draining ∧ q.inflight = [] then { q with state := .disabled } else q

/-- A descriptor as the units carry it: its 64 bytes and its fetch number, by which two descriptors of the same bytes differ (R90, R93). -/
def tagged (d : List Byte) (id : Nat) : List Byte := slice d 0 64 ++ leBytes 8 id

/-- The fetch number of a carried descriptor. -/
def descNo (d : List Byte) : Nat := rd d 64 8

/-- The fetch number of a descriptor that no fetch of this module brought; it counts as later than every fetch (DESIGN CHOICE, log entry 161). -/
def unfetched : Nat := 2 ^ 64 - 1

/-- Is the in-flight entry the carried descriptor? -/
def Inflight.is (f : Inflight) (d : List Byte) : Bool := f.id == descNo d

/-- The carried descriptor has ended already: nothing more may come of it. -/
def State.descGone (s : State) (n : Nat) (d : List Byte) : Bool :=
  descNo d != unfetched && !((s.qp n).inflight.any fun f => f.is d)

/-- A fetched descriptor ends: it leaves the descriptors in flight (R86). -/
def State.endDesc (s : State) (n : Nat) (d : List Byte) : State :=
  let q := s.qp n
  s.setQp n ({ q with inflight := dropFirst (fun f => f.is d) q.inflight }).drained

/-- Complete descriptor `d` of pair `n` under config epoch `epoch` (R94, R95); a descriptor ends once. -/
def State.completeE (s : State) (n : Nat) (d : List Byte) (epoch status fault result : Nat) : State :=
  if s.descGone n d then s else
  let q := s.qp n
  let head := match q.inflight.find? (fun f => f.is d) with
    | some f => f.sqHead
    | none => q.sqHead
  let c : Cpl := {
    tag := rd d 4 4, status, fault, time := s.now, epoch, sqHead := head % 2 ^ 16, phase := 0
    quality := s.tb.quality, timeEpoch := s.tb.timeEpoch, qspec := rd d 2 2, result
    noIrq := bitOn (rd d 1 1) 1 }
  let dead := (q.inflight.find? (fun f => f.is d)).any (·.dead)
  ((if dead then s else s.postCpl n c).endDesc n d).endHandling 1 n

/-- Complete a descriptor under the config epoch in force. -/
def State.complete (s : State) (n : Nat) (d : List Byte) (status : Nat) (fault result : Nat := 0) : State :=
  s.completeE n d s.hif.epoch status fault result

/-! ### Fault records (R437 to R446) -/

/-- The 32 bytes of a fault record (Table 18.3). -/
def FaultRec.bytes (r : FaultRec) : List Byte :=
  leBytes 8 r.time ++ leBytes 2 (r.cls * 4096 + r.block * 64 + r.cause) ++
  leBytes 1 (r.quality + (if r.escalated then 4 else 0) + (if r.journalled then 8 else 0) + (if r.safeCause then 16 else 0)) ++
  leBytes 1 r.origCls ++ leBytes 2 r.epoch ++ leBytes 1 r.timeEpoch ++ leBytes 1 r.level ++ leBytes 2 r.region ++
  leBytes 1 r.kind ++ leBytes 1 r.count ++ leBytes 4 r.seq ++ leBytes 8 r.detail

/-- Are records of class `cls` written to the journal? (R443) -/
def State.journals (s : State) (cls : Nat) : Bool :=
  if cls = 3 ∨ cls = 4 then true
  else if cls = 5 then s.fget Fld.BRK_CONFIG_JOURNAL_DEADLINE == 1
  else bitOn (s.fget Fld.BRK_CONFIG_JOURNAL_LOW) cls

/-- Does a queued record coalesce a new one of this block, cause, class at raise and region? (R440) -/
def FaultRec.matches (r : FaultRec) (block cause cls kind region : Nat) : Bool :=
  r.block == block && r.cause == cause && r.origCls == cls && r.kind == kind && r.region == region

/-- Count one more occurrence in the first queued record that matches (R440); the record as it then stands. -/
def coalesce (block cause cls kind region : Nat) : List FaultRec → List FaultRec × Option FaultRec
  | [] => ([], none)
  | r :: t =>
    if r.matches block cause cls kind region then
      let r' := { r with count := min 255 (r.count + 1) }
      (r' :: t, some r')
    else let (t', o) := coalesce block cause cls kind region t; (r :: t', o)

/-- The queue without its oldest notice (R441). -/
def dropOldestNotice (q : List FaultRec) : List FaultRec := dropFirst (fun r => r.cls == 0) q

/-- The record queue's capacity (R440). -/
def queueSize : Nat := 64

/-- A new record of the present moment; it takes the next SEQ (Table 18.3). -/
def State.newRec (s : State) (code cls kind region detail : Nat) (esc : Bool) : FaultRec :=
  { time := s.now, cls, block := bits code 11 6, cause := bits code 5 0, origCls := code / 4096, quality := s.tb.quality
    escalated := esc, journalled := s.journals cls && !s.jrn.failed, safeCause := decide (cls = 4) && s.operational
    epoch := s.jrnEpoch, timeEpoch := s.tb.timeEpoch, level := s.levelCode, kind, region, count := 1
    seq := s.fget Fld.BRK_NEXT_SEQ_SEQ, detail }

/-- Write a fault record to the journal, if it is journalled (R443). -/
def State.jrnFault (s : State) (r : FaultRec) : State := if r.journalled then s.jrnWrite 5 r.bytes else s

/-- Put a new record into the queue, by R440 and R441. -/
def State.enqueue (s : State) (r : FaultRec) : State :=
  let q := s.brk.queue
  if q.length < queueSize then
    let s := { s with brk := { s.brk with queue := q ++ [r] } }
    if q.isEmpty then s.msix 64 else s
  else
    let s := s.bump Fld.BRK_COUNTS_DROPPED
    if q.any (fun x => x.cls == 0) then { s with brk := { s.brk with queue := dropOldestNotice q ++ [r] } }
    else if r.cls = 0 then s
    else
      -- R441: QUEUE_OVERFLOW is raised and journalled together with the new record; the queue keeps its content
      let s := if r.journalled then s else s.jrnWrite 5 r.bytes
      let o := s.newRec Cause.QUEUE_OVERFLOW 4 14 23 0 false
      let s := (s.bump Fld.BRK_NEXT_SEQ_SEQ).jrnFault o
      { s with brk := { s.brk with actions := s.brk.actions ++ [.module Cause.QUEUE_OVERFLOW] } }

/-- Is a record of this block, cause and region a repeat? (R444) -/
def State.isRepeat (s : State) (block cause kind region : Nat) : Bool :=
  s.brk.handling.any fun h => h.kind == kind && h.region == region && h.block == block && h.cause == cause

/-- Has the region a record in handling? (R445) -/
def State.inHandling (s : State) (kind region : Nat) : Bool :=
  s.brk.handling.any fun h => h.kind == kind && h.region == region

/-- Does handling of a record of effective class `cls` in a region of this kind last beyond its raise? (Table 18.4) A unit
record's lasts until the next start; a contained one's ends at once for kinds 12 and 14 (the cache access and the block
rule end with the raise) and for every output fault but an overload. -/
def handlingLasts (cls kind code : Nat) : Bool :=
  if cls = 3 then true
  else if kind = 14 ∨ kind = 12 then false
  else if kind = 9 then bits code 11 0 == bits Cause.ACT_OVERLOAD 11 0
  else true

/-- Raise a fault record of `code` in region (`kind`, `region`) with DETAIL `detail` (R436 to R446). -/
def State.raiseIn (s : State) (code kind region : Nat) (detail : Nat := 0) : State :=
  let cls := code / 4096
  let block := bits code 11 6
  let cause := bits code 5 0
  let acting := decide (cls = 2 ∨ cls = 3)
  let rep := acting && s.isRepeat block cause kind region
  let esc := acting && !rep && s.inHandling kind region
  let ecls := if esc then cls + 1 else cls
  let s := if esc then s.bump Fld.BRK_COUNTS_ESCALATIONS else s
  let (q, hit) := if ecls = 4 then (s.brk.queue, none) else coalesce block cause cls kind region s.brk.queue
  let s := match hit with
    | some r => ({ s with brk := { s.brk with queue := q } }).jrnFault { r with journalled := r.journalled && !s.jrn.failed }
    | none =>
      let r := s.newRec code ecls kind region detail esc
      ((s.bump Fld.BRK_NEXT_SEQ_SEQ).jrnFault r).enqueue r
  let s := if acting && !rep && decide (ecls ≠ 4) && handlingLasts ecls kind code then
      { s with brk := { s.brk with handling := s.brk.handling ++ [⟨kind, region, block, cause, ecls⟩] } }
    else s
  if ecls = 4 then { s with brk := { s.brk with actions := s.brk.actions ++ [.module (4 * 4096 + code % 4096)] } }
  else if ecls = 3 && !rep then
    { s with brk := { s.brk with actions := s.brk.actions ++ [.unit kind region (3 * 4096 + code % 4096)] } }
  else s

/-- Raise a record whose rule names no region: kind 14, the raising block (R438). -/
def State.raise (s : State) (code : Nat) (detail : Nat := 0) : State := s.raiseIn code 14 (bits code 11 6) detail

/-- BAD_CONFIG of the block at a BAR0 offset (R479 and the blocks' cause tables); PWR's also serves SPR (Table 2.5). -/
def badConfigCode (off : Nat) : Option Nat :=
  let b := off / 4096
  if b = 1 ∨ b = 2 then some Cause.PWR_BAD_CONFIG
  else if 4 ≤ b ∧ b < 8 then some Cause.HIF_BAD_CONFIG
  else if b = 8 then some Cause.CXP_BAD_CONFIG
  else if b = 9 then some Cause.APY_BAD_CONFIG
  else if b = 10 then some Cause.DEC_BAD_CONFIG
  else if b = 11 then some Cause.ISP_BAD_CONFIG
  else if 12 ≤ b ∧ b < 16 then some Cause.TIN_BAD_CONFIG
  else if 16 ≤ b ∧ b < 32 then some Cause.ENG_BAD_CONFIG
  else if b = 32 then some Cause.CRG_BAD_CONFIG
  else if b = 33 then some Cause.MEM_BAD_CONFIG
  else if b = 34 then some Cause.LLC_BAD_CONFIG
  else if b = 35 then some Cause.FXG_BAD_CONFIG
  else if b = 36 then some Cause.FWH_BAD_CONFIG
  else if b = 37 then some Cause.CAD_BAD_CONFIG
  else if b = 38 then some Cause.IHX_BAD_CONFIG
  else if b = 39 then some Cause.TRU_BAD_CONFIG
  else if b = 40 then some Cause.SPK_BAD_CONFIG
  else if b = 41 then some Cause.TB_BAD_CONFIG
  else if b = 42 then some Cause.SW_BAD_CONFIG
  else if b = 43 then some Cause.SER_BAD_CONFIG
  else if b = 44 then some Cause.BRK_BAD_CONFIG
  else none

/-- Raise the BAD_CONFIG of the block at `off`. -/
def State.badConfig (s : State) (off : Nat) : State :=
  match badConfigCode off with
  | some c => s.raise c
  | none => s

/-! ### Descriptor outcomes (R95, R110) -/

/-- Status codes of Table 4.7. -/
abbrev St.OK : Nat := 0x0
abbrev St.BAD_OPCODE : Nat := 0x1
abbrev St.MALFORMED : Nat := 0x2
abbrev St.NOT_AVAILABLE : Nat := 0x3
abbrev St.REFUSED : Nat := 0x4
abbrev St.NEEDS_DRAIN : Nat := 0x5
abbrev St.POWER_STOP : Nat := 0x6
abbrev St.KILLED : Nat := 0x7
abbrev St.DMA_ERROR : Nat := 0x8
abbrev St.FAULTED : Nat := 0x9
abbrev St.DEADLINE_MISSED : Nat := 0xA
abbrev St.LATE : Nat := 0xB
abbrev St.STALE_EPOCH : Nat := 0xC
abbrev St.SET_BUSY : Nat := 0xD
abbrev St.FULL : Nat := 0xE
abbrev St.TIMEOUT : Nat := 0xF
abbrev St.ABORTED : Nat := 0x10

/-- Complete MALFORMED at the byte offset of the first offending field; BAD_FIELD is raised (R95, R110). -/
def State.malformed (s : State) (n : Nat) (d : List Byte) (off : Nat) : State :=
  (s.complete n d St.MALFORMED Cause.BAD_FIELD off).raise Cause.BAD_FIELD

/-- Complete REFUSED with a REASON in result byte 4 (Table 4.7). -/
def State.refuse (s : State) (n : Nat) (d : List Byte) (reason : Nat) : State :=
  s.complete n d St.REFUSED 0 (reason * 2 ^ 32)

/-- Is `a` a host address the module accepts in operands: bit 63 clear and 64-byte aligned? (R96) -/
def hostAddr (a : Nat) : Bool := decide (a < 2 ^ 63) && decide (a % 64 = 0)

/-- Usable module DRAM: 30 GiB (R96). -/
def dramBytes : Nat := 30 * 2 ^ 30

/-- Is `a` a module address: bit 63 set, bits [62:41] zero, 64-byte aligned, below 30 GiB? (R96) -/
def moduleAddr (a : Nat) : Bool :=
  bitOn a 63 && decide (bits a 62 41 = 0) && decide (a % 64 = 0) && decide (bits a 40 0 < dramBytes)

/-- Is `a` an address in a field "host or module"? (R96) -/
def anyAddr (a : Nat) : Bool := hostAddr a || moduleAddr a

/-- The module writes output data into host memory. -/
def State.hostWrite (s : State) (addr : Nat) (b : List Byte) : State := s.hostPut .data addr b

/-- The carried form of a descriptor that a row names by its bytes: the first of them fetched whose work has not begun; a descriptor that no fetch brought runs as such;
none when every fetched one has begun. -/
def State.nextDesc (s : State) (n : Nat) (d : List Byte) : Option (List Byte) :=
  match (s.qp n).inflight.find? fun f => !f.started && f.bytes == slice d 0 64 with
  | some f => some (tagged d f.id)
  | none => if (s.qp n).inflight.any fun f => f.bytes == slice d 0 64 then none else some (tagged d unfetched)

/-- The carried form of a descriptor whose work has begun. -/
def State.begunDesc (s : State) (n : Nat) (d : List Byte) : List Byte :=
  match (s.qp n).inflight.find? fun f => f.started && f.bytes == slice d 0 64 with
  | some f => tagged d f.id
  | none => (s.nextDesc n d).getD (tagged d unfetched)

/-- The work of a carried descriptor begins. -/
def State.starts (s : State) (n : Nat) (d : List Byte) : State :=
  s.setQp n { s.qp n with inflight := (s.qp n).inflight.map fun f => if f.is d then { f with started := true } else f }

/-- The module reads operand data of a descriptor, in host memory when `host`: with the link down the read fails and the descriptor ends there, without completion or
record (R83). -/
def State.reads (s : State) (n : Nat) (d : List Byte) (host : Bool) (f : State → State) : State :=
  if host && !s.hif.linkUp then s.endDesc n d else f s

end Sys2Proof.Machine
end

