-- ==== Sys2Proof/Machine/Switch.lean ====
section
/-! DEFINITION. The Ethernet switch: egress queues, gate lists, the guard of launches, forwarding (sections 16.6, 17.1 and 17.2). -/
namespace Sys2Proof.Machine

/-! ### Access -/

/-- External port p. -/
def State.swPort (s : State) (p : Nat) : SwPort := s.sw.ports.get (fun _ => {}) p
/-- Set external port p. -/
def State.setSwPort (s : State) (p : Nat) (x : SwPort) : State :=
  { s with sw := { s.sw with ports := s.sw.ports.put (fun _ => {}) p x } }
/-- Is the link of port p up, and the port enabled? -/
def State.swUp (s : State) (p : Nat) : Bool := bitOn (s.fget Fld.SW_STATUS_LINK_UP) p && s.fget (Fld.SW_Pp_CFG_ENABLE p) == 1
/-- The switch forwards: while its fast domain has power (Table 17.3). -/
def State.swOn (s : State) : Bool := decide (s.sup.power = .starting) || decide (s.sup.power = .ready) || decide (s.sup.power = .active)
/-- Forwarding-only: PL4, Maintenance state and safe state (Table 17.3, R456). -/
def State.fwdOnly (s : State) : Bool :=
  decide (s.start.phase = .maintenance) || decide (s.start.phase = .safe) || decide (4 ≤ s.sup.level)
/-- The functions of the internal port beyond PTP and ARP work: in operation at PL0 to PL3 (Table 17.3). -/
def State.innerOn (s : State) : Bool := s.operational && decide (s.sup.level ≤ 3)

/-- The time in ns that a frame takes with FCS, preamble and gap: 1 Gb/s on ports 0 to 3, 10 Gb/s on ports 4 and 5. -/
def wireNs (p len : Nat) : Nat := if p < 4 then 8 * (len + 24) else (4 * (len + 24) + 4) / 5

/-! ### Gate lists (R403, R404) -/

/-- The gate list that the registers of list q give. -/
def State.gateRegs (s : State) (q : Nat) : GateList := {
  on := s.fget (Fld.SW_GATEq_CTRL_ENABLE q) == 1
  base := s.word64 (Reg.SW_GATEq_BASE q)
  cycle := s.fget (Fld.SW_GATEq_CYCLE_CYCLE_NS q)
  entries := (List.range (s.fget (Fld.SW_GATEq_CTRL_LENGTH q))).map fun e =>
    let w := s.word (0x2A800 + 0x400 * q + 4 * e)
    (bits w 31 24, bits w 23 0) }

/-- The start of the first cycle of a list that begins after `t`. -/
def GateList.nextCycle (g : GateList) (t : Nat) : Nat :=
  (t : Int) + g.cycle - ((t : Int) - g.base) % (g.cycle : Int) |>.toNat

/-- The segments of a cycle from offset `o`: start, end, GATES. Entries that begin at or after the cycle's end are ignored; the last one holds to it. -/
def gateSegs (cycle : Nat) : Nat → List (Nat × Nat) → List (Nat × Nat × Nat)
  | _, [] => []
  | o, [(g, _)] => if o < cycle then [(o, cycle, g)] else []
  | o, (g, i) :: t => if o < cycle then (o, min cycle (o + i), g) :: gateSegs cycle (o + i) t else []

/-- The segments of two cycles, from which every window that opens within a cycle can be read. -/
def GateList.twice (g : GateList) : List (Nat × Nat × Nat) :=
  let a := gateSegs g.cycle 0 g.entries
  a ++ a.map (fun (s, e, m) => (s + g.cycle, e + g.cycle, m)) ++ a.map fun (s, e, m) => (s + 2 * g.cycle, e + 2 * g.cycle, m)

/-- Is the gate of a class open at an offset? -/
def gateOpen (segs : List (Nat × Nat × Nat)) (cls o : Nat) : Bool := segs.any fun (s, e, m) => decide (s ≤ o) && decide (o < e) && bitOn m cls

/-- When the gate of a class, open at an offset, next closes. -/
def gateCloses (segs : List (Nat × Nat × Nat)) (cls o : Nat) : Option Nat :=
  (segs.find? fun (s, e, m) => decide (o < s) && decide (s < e) && !bitOn m cls).map (·.1)

/-- Does a frame of duration `d` fit at an offset? -/
def gateFits (segs : List (Nat × Nat × Nat)) (cls d o : Nat) : Bool :=
  gateOpen segs cls o && (match gateCloses segs cls o with | some c => decide (o + d ≤ c) | none => true)

/-- The earliest time from `t` at which a frame of a class and duration may start; none when it fits no window. -/
def GateList.earliest (g : GateList) (cls d t : Nat) : Option Nat :=
  if !g.on || g.entries.isEmpty || decide (g.cycle = 0) then some t
  else
    let o := (((t : Int) - g.base) % (g.cycle : Int)).toNat
    let segs := g.twice
    let starts := o :: (segs.map (·.1)).filter fun x => decide (o < x) && decide (x ≤ o + g.cycle)
    (starts.find? (gateFits segs cls d)).map fun x => t + (x - o)

/-- The gate list of a port at time `t`: a committed one takes effect at its cycle start. -/
def SwPort.gatesAt (x : SwPort) (t : Nat) : SwPort :=
  match x.nextGates with
  | some (u, g) => if u ≤ t then { x with gates := g, nextGates := none } else x
  | none => x

/-- The gate registers of list q have changed by a commit (R404). -/
def State.gatesCommitted (s : State) (q : Nat) : State :=
  let g := s.gateRegs q
  let x := s.swPort (4 + q)
  if g = x.gates ∧ x.nextGates = none then s else s.setSwPort (4 + q) { x with nextGates := some (g.nextCycle s.now, g) }

/-! ### Egress (R402, R395) -/

/-- May a frame of duration `d` start at `t` beside the launches of its port? (R395) -/
def SwPort.guard (x : SwPort) (t d : Nat) : Bool :=
  match x.launches.head? with
  | some e => decide (t + d ≤ e.launch)
  | none => true

/-- The head of each class's queue, with the earliest time at which it may start; `none` marks a frame that fits no window. -/
def SwPort.heads (x : SwPort) (p : Nat) : List (Egress × Option Nat) :=
  (List.range 8).reverse.filterMap fun k =>
    (x.queue.find? fun e => e.cls == k).map fun e => (e, x.gates.earliest k (wireNs p e.bytes.length) (max x.freeAt e.at'))

/-- The next frame to start: the earliest, and of those that may start together the highest class. -/
def firstHead : List (Egress × Option Nat) → Option (Egress × Nat)
  | [] => none
  | (_, none) :: t => firstHead t
  | (e, some u) :: t =>
    match firstHead t with
    | some (f, v) => if v < u then some (f, v) else some (e, u)
    | none => some (e, u)

/-- The transparent clock's correction, at the egress time stamp `t` (R392). -/
def Egress.sentAs (e : Egress) (t : Nat) : List Byte :=
  match e.tc with
  | none => e.bytes
  | some (off, c) => putBytes e.bytes off (beBytes 8 (ofSigned 64 (toSigned 64 (rdBe e.bytes off 8) + ((t : Int) - c) * 65536)))

/-- A frame leaves a port at a time. -/
def State.sentFrame (s : State) (p t : Nat) (b : List Byte) : State :=
  let x := s.swPort p
  let s := s.setSwPort p { x with freeAt := t + wireNs p b.length }
  { s with sw := { s.sw with sent := (p, t, b) :: s.sw.sent } }

/-- The frames of a port that start by now (R402, R403); one that fits no window of its class is dropped. `fuel` covers the queue. -/
def State.drainPort (s : State) (p : Nat) : Nat → State
  | 0 => s
  | fuel + 1 =>
    let x := (s.swPort p).gatesAt s.now
    let s := if (s.swPort p).nextGates.isSome then s.setSwPort p x else s
    if !s.swUp p || !s.swOn then s
    else
      match (x.heads p).find? fun h => h.2.isNone with
      | some (e, _) =>
        (((s.setSwPort p { x with queue := dropFirst (· == e) x.queue }).bump (Fld.SW_Pp_DROPS_COUNT p))).drainPort p fuel
      | none =>
        match firstHead (x.heads p) with
        | some (e, t) =>
          if t ≤ s.now && x.guard t (wireNs p e.bytes.length) then
            let s := s.setSwPort p { x with queue := dropFirst (· == e) x.queue }
            (s.sentFrame p t (e.sentAs (t + s.fget (Fld.TB_Pp_LAT_TX_NS p)))).drainPort p fuel
          else s
        | none => s

/-- Every external port sends what it can by now. -/
def State.drainAll (s : State) : State := (List.range 6).foldl (fun s p => s.drainPort p ((s.swPort p).queue.length + 1)) s

/-- A frame dropped at an egress port, raised at most once per second (R402). -/
def State.queueDrop (s : State) (p : Nat) : State :=
  let s := s.bump (Fld.SW_Pp_DROPS_COUNT p)
  let x := s.swPort p
  match x.dropAt with
  | some t => if s.now < t + 1000000000 then s else (s.setSwPort p { x with dropAt := some s.now }).raise Cause.SW_QUEUE_DROP
  | none => (s.setSwPort p { x with dropAt := some s.now }).raise Cause.SW_QUEUE_DROP

/-- A frame joins the egress queue of a port (R402). -/
def State.enqueueFrame (s : State) (p : Nat) (e : Egress) : State :=
  let s := s.drainPort p ((s.swPort p).queue.length + 1)
  let x := s.swPort p
  let held := (x.queue.map fun f => f.bytes.length).sum
  if 524288 < held + e.bytes.length then s.queueDrop p
  else (s.setSwPort p { x with queue := x.queue ++ [e] }).drainPort p (x.queue.length + 2)

/-- The traffic class of a PCP. -/
def State.classOf (s : State) (pcp : Nat) : Nat := s.word Reg.SW_PCP_MAP / 8 ^ pcp % 8

/-! ### Forwarding (R401) -/

/-- A frame with its VLAN: destination and source MAC, VID, PCP, and what follows the tag. -/
structure VFrame where
  dst : Nat
  src : Nat
  vid : Nat
  pcp : Nat
  rest : List Byte
  deriving DecidableEq, Repr

/-- The VLAN table entry of a VID: the word of SW_VLAN0 or SW_VLANv. -/
def State.vlan (s : State) (vid : Nat) : Option Nat :=
  ((List.range 64).map fun v => s.word (Reg.SW_VLAN0 + 4 * v)).find? fun w => bitOn w 31 && bits w 11 0 == vid

/-- Is a port a member of a VID? -/
def State.member (s : State) (vid p : Nat) : Bool :=
  match s.vlan vid with
  | some w => bitOn (bits w 30 24) p
  | none => false

/-- The bytes of a frame, tagged or not. -/
def VFrame.bytes (f : VFrame) (tagged : Bool) : List Byte :=
  beBytes 6 f.dst ++ beBytes 6 f.src ++ (if tagged then beBytes 2 0x8100 ++ beBytes 2 (f.pcp * 8192 + f.vid) else []) ++ f.rest

/-- Send a frame on a port, tagged as its VLAN entry says. `tc` counts its correctionField from the start of `rest`. -/
def State.sendOn (s : State) (p : Nat) (f : VFrame) (tc : Option (Nat × Int) := none) : State :=
  if !s.swUp p then s
  else
    let untag := match s.vlan f.vid with
      | some w => bitOn (bits w 22 16) p
      | none => true
    s.enqueueFrame p { cls := s.classOf f.pcp, at' := s.now, bytes := f.bytes !untag
                       tc := tc.map fun (o, c) => (o + (if untag then 12 else 16), c) }

/-- The learned port of a MAC in a VLAN. -/
def State.learned (s : State) (mac vid : Nat) : Option Nat := (s.sw.fdb.find? fun e => e.mac == mac && e.vid == vid).map (·.port)

/-- Learn a source MAC (R400): 4,096 entries at most. -/
def State.learn (s : State) (mac vid p : Nat) : State :=
  let rest := s.sw.fdb.filter fun e => !(e.mac == mac && e.vid == vid)
  if bitOn (mac / 2 ^ 40) 0 || decide (4096 ≤ rest.length) then s else { s with sw := { s.sw with fdb := rest ++ [⟨mac, vid, p, s.now⟩] } }

/-- An entry has been used. -/
def State.fdbUsed (s : State) (mac vid : Nat) : State :=
  { s with sw := { s.sw with fdb := s.sw.fdb.map fun e => if e.mac == mac && e.vid == vid then { e with used := s.now } else e } }

/-- The external ports a frame from port `p` is sent to (R401, step 7): 6 is the internal port. -/
def State.egressPorts (s : State) (p : Nat) (f : VFrame) : List Nat :=
  let mask := if p = 6 then 0x7F else s.fget (Fld.SW_Pp_CFG_FWD_MASK p)
  let all := match (if bitOn (f.dst / 2 ^ 40) 0 then none else s.learned f.dst f.vid) with
    | some q => [q]
    | none => List.range 6
  all.filter fun q => q != p && decide (q < 6) && bitOn mask q && s.member f.vid q

/-- Bridge a frame (R401, step 7). -/
def State.bridge (s : State) (p : Nat) (f : VFrame) (tc : Option (Nat × Int) := none) : State :=
  let out := s.egressPorts p f
  let s := if p < 6 then s.learn f.src f.vid p else s
  out.foldl (fun s q => s.sendOn q f tc) (s.fdbUsed f.dst f.vid)

end Sys2Proof.Machine
end

