-- ==== Sys2Proof/Machine/Fp.lean ====
section
/-! DEFINITION. Floating-point arithmetic, exact up to one rounding to nearest even (R159, R214, R227, R228): FP32, BF16 and FP16
values as their bits. -/
namespace Sys2Proof.Machine

/-- A binary format: exponent bits and fraction bits. -/
structure FpFmt where
  eb : Nat
  mb : Nat
  deriving DecidableEq, Repr

/-- FP32. -/
def fp32 : FpFmt := ⟨8, 23⟩
/-- BF16. -/
def bf16 : FpFmt := ⟨8, 7⟩
/-- FP16. -/
def fp16 : FpFmt := ⟨5, 10⟩

/-- A float read exactly: `fin neg m e` is (−1)^neg × m × 2^e. -/
inductive Fv where
  | nan
  | inf (neg : Bool)
  | fin (neg : Bool) (m : Nat) (e : Int)
  deriving DecidableEq, Repr

/-- Exponent bias of a format. -/
def FpFmt.bias (f : FpFmt) : Nat := 2 ^ (f.eb - 1) - 1

/-- The exponent of the lowest fraction bit of the subnormals. -/
def FpFmt.emin (f : FpFmt) : Int := 1 - (f.bias : Int) - (f.mb : Int)

/-- Read the bits of a float. -/
def FpFmt.read (f : FpFmt) (b : Nat) : Fv :=
  let neg := bitOn b (f.eb + f.mb)
  let ex := b / 2 ^ f.mb % 2 ^ f.eb
  let fr := b % 2 ^ f.mb
  if ex = 2 ^ f.eb - 1 then (if fr = 0 then .inf neg else .nan)
  else if ex = 0 then .fin neg fr f.emin
  else .fin neg (fr + 2 ^ f.mb) (f.emin + (ex - 1 : Nat))

/-- The sign bit of a format at its place. -/
def FpFmt.sign (f : FpFmt) (neg : Bool) : Nat := if neg then 2 ^ (f.eb + f.mb) else 0

/-- Infinity. -/
def FpFmt.infBits (f : FpFmt) (neg : Bool) : Nat := f.sign neg + (2 ^ f.eb - 1) * 2 ^ f.mb

/-- The quiet NaN (R228: 0x7FC0 for BF16, 0x7E00 for FP16). -/
def FpFmt.nanBits (f : FpFmt) : Nat := (2 ^ f.eb - 1) * 2 ^ f.mb + 2 ^ (f.mb - 1)

/-- The largest finite value. -/
def FpFmt.maxBits (f : FpFmt) (neg : Bool) : Nat := f.sign neg + (2 ^ f.eb - 1) * 2 ^ f.mb - 1

/-- Round q × 2^e, plus a part below that if `sticky`, to nearest even. -/
def FpFmt.pack (f : FpFmt) (neg : Bool) (q : Nat) (e : Int) (sticky : Bool) : Nat :=
  if q = 0 then f.sign neg
  else
    let t := max ((Nat.log2 q : Int) + e - (f.mb : Int)) f.emin
    let m :=
      if t ≤ e then q * 2 ^ (e - t).toNat
      else
        let sh := (t - e).toNat
        let m := q / 2 ^ sh
        let r := q % 2 ^ sh
        let half := 2 ^ (sh - 1)
        if half < r ∨ (r = half ∧ (sticky ∨ m % 2 = 1)) then m + 1 else m
    let b := m + (t - f.emin).toNat * 2 ^ f.mb
    f.sign neg + min b ((2 ^ f.eb - 1) * 2 ^ f.mb)

/-- The value n/d × 2^e with sign, rounded to nearest even. -/
def FpFmt.packQuot (f : FpFmt) (neg : Bool) (n d : Nat) (e : Int) : Nat :=
  let k := f.mb + 4 + Nat.log2 d
  f.pack neg (n * 2 ^ k / d) (e - (k : Int)) (decide (n * 2 ^ k % d ≠ 0))

/-- A signed integer times 2^e. -/
def FpFmt.packInt (f : FpFmt) (i : Int) (e : Int) : Nat := f.pack (decide (i < 0)) i.natAbs e false

/-- Signed mantissa. -/
def signedM (neg : Bool) (m : Nat) : Int := if neg then -(m : Int) else (m : Int)

/-- The exact sum of two finite values, as an integer times a power of two. -/
def addExact (n1 : Bool) (m1 : Nat) (e1 : Int) (n2 : Bool) (m2 : Nat) (e2 : Int) : Int × Int :=
  let e := min e1 e2
  (signedM n1 m1 * 2 ^ (e1 - e).toNat + signedM n2 m2 * 2 ^ (e2 - e).toNat, e)

/-- The sum of two values, rounded once into `f`. -/
def FpFmt.sum (f : FpFmt) (a b : Fv) : Nat :=
  match a, b with
  | .nan, _ => f.nanBits
  | _, .nan => f.nanBits
  | .inf x, .inf y => if x = y then f.infBits x else f.nanBits
  | .inf x, _ => f.infBits x
  | _, .inf y => f.infBits y
  | .fin n1 m1 e1, .fin n2 m2 e2 =>
    let (i, e) := addExact n1 m1 e1 n2 m2 e2
    if i = 0 then f.sign (n1 && n2) else f.packInt i e

/-- The exact product of two values. -/
def Fv.mul (a b : Fv) : Fv :=
  match a, b with
  | .nan, _ => .nan
  | _, .nan => .nan
  | .inf x, .inf y => .inf (x != y)
  | .inf x, .fin n m _ => if m = 0 then .nan else .inf (x != n)
  | .fin n m _, .inf y => if m = 0 then .nan else .inf (n != y)
  | .fin n1 m1 e1, .fin n2 m2 e2 => .fin (n1 != n2) (m1 * m2) (e1 + e2)

/-- The value rounded into `f`. -/
def FpFmt.round (f : FpFmt) (a : Fv) : Nat :=
  match a with
  | .nan => f.nanBits
  | .inf n => f.infBits n
  | .fin n m e => f.pack n m e false

/-- FP32 addition. -/
def fadd (a b : Nat) : Nat := fp32.sum (fp32.read a) (fp32.read b)

/-- FP32 negation. -/
def fneg (a : Nat) : Nat := if bitOn a 31 then a - 2 ^ 31 else a + 2 ^ 31

/-- FP32 subtraction. -/
def fsub (a b : Nat) : Nat := fadd a (fneg b)

/-- FP32 multiplication. -/
def fmul (a b : Nat) : Nat := fp32.round ((fp32.read a).mul (fp32.read b))

/-- FP32 fused multiply-add a × b + c, rounded once. -/
def ffma (a b c : Nat) : Nat := fp32.sum ((fp32.read a).mul (fp32.read b)) (fp32.read c)

/-- FP32 division. -/
def fdiv (a b : Nat) : Nat :=
  match fp32.read a, fp32.read b with
  | .nan, _ => fp32.nanBits
  | _, .nan => fp32.nanBits
  | .inf _, .inf _ => fp32.nanBits
  | .inf x, .fin n _ _ => fp32.infBits (x != n)
  | .fin n _ _, .inf y => fp32.sign (n != y)
  | .fin n1 m1 e1, .fin n2 m2 e2 =>
    if m2 = 0 then (if m1 = 0 then fp32.nanBits else fp32.infBits (n1 != n2))
    else fp32.packQuot (n1 != n2) m1 m2 (e1 - e2)

/-- An integer as FP32: exact, or rounded once (R228). -/
def fofInt (i : Int) : Nat := fp32.packInt i 0

/-- Is an FP32 value infinite or NaN? -/
def fnonFinite (a : Nat) : Bool := decide (bits a 30 23 = 255)

/-- BF16 widened to FP32. -/
def bfWiden (b : Nat) : Nat := b * 65536

/-- FP32 rounded to another format. -/
def FpFmt.ofF32 (f : FpFmt) (a : Nat) : Nat := f.round (fp32.read a)

/-- FP16 widened to FP32. -/
def hWiden (b : Nat) : Nat := fp32.round (fp16.read b)

/-- n / 2^s to the nearest integer; ties to even, or away from zero: R(n, s) of R227. -/
def rndShift (n : Int) (s : Nat) (away : Bool) : Int :=
  if s = 0 then n
  else
    let p : Int := 2 ^ s
    let q := n / p
    let r := n % p
    let half : Int := 2 ^ (s - 1)
    if half < r ∨ (r = half ∧ ((away = true ∧ 0 < n) ∨ (away = false ∧ q % 2 = 1))) then q + 1 else q

/-- n / d to the nearest integer for d > 0, with the same ties. -/
def rndDiv (n : Int) (d : Nat) (away : Bool) : Int :=
  let q := n / (d : Int)
  let r := 2 * (n % (d : Int))
  if (d : Int) < r ∨ (r = (d : Int) ∧ ((away = true ∧ 0 < n) ∨ (away = false ∧ q % 2 = 1))) then q + 1 else q

/-- An FP32 value to the nearest integer, clamped to lo … hi; NaN gives 0 (R227, R228). -/
def ftoInt (a : Nat) (away : Bool) (lo hi : Int) : Int :=
  match fp32.read a with
  | .nan => max lo (min hi 0)
  | .inf n => if n then lo else hi
  | .fin n m e =>
    let v := if 0 ≤ e then signedM n m * 2 ^ e.toNat else rndShift (signedM n m) (-e).toNat away
    max lo (min hi v)

/-- FP32 less-than; false where a value is NaN. -/
def flt (a b : Nat) : Bool :=
  match fp32.read a, fp32.read b with
  | .nan, _ => false
  | _, .nan => false
  | .inf x, .inf y => x && !y
  | .inf x, .fin _ _ _ => x
  | .fin _ _ _, .inf y => !y
  | .fin n1 m1 e1, .fin n2 m2 e2 =>
    let (i, _) := addExact n1 m1 e1 (!n2) m2 e2
    decide (i < 0)

/-- FP32 maximum and minimum as the comparison chooses. -/
def fmax (a b : Nat) : Nat := if flt a b then b else a
/-- FP32 minimum. -/
def fmin (a b : Nat) : Nat := if flt b a then b else a

end Sys2Proof.Machine
end

