-- ==== Sys2Proof/Machine/Frc.lean ====
section
/-! DEFINITION. Fixed-rate compression: blocks of 8 × 8 × 8 elements, groups of 16, encoded and decoded to the bit (R211 to R216).
A tensor is a list of rows, a row a list of columns, a column the list of its channels; BF16 elements are their bits. -/
namespace Sys2Proof.Machine

/-- A tensor H × W × C. -/
abbrev Ten := List (List (List Int))

namespace Frc

/-- M of Table 8.4: INT8 7 or 1, BF16 63 or 3, for ratio 1 (2:1) or 2 (4:1). -/
def levels (bf : Bool) (ratio : Nat) : Nat := if bf then (if ratio = 1 then 63 else 3) else (if ratio = 1 then 7 else 1)

/-- Code bits of Table 8.4. -/
def codeBits (bf : Bool) (ratio : Nat) : Nat := if bf then (if ratio = 1 then 6 else 2) else (if ratio = 1 then 3 else 1)

/-- Group bytes of Table 8.4. -/
def groupBytes (bf : Bool) (ratio : Nat) : Nat := (if bf then 4 else 2) + 2 * codeBits bf ratio

/-- Block bytes of Table 8.4. -/
def blockBytes (bf : Bool) (ratio : Nat) : Nat := 32 * groupBytes bf ratio

/-- Sort key of a finite BF16 value: −0 lies below +0 (R214). -/
def key (b : Nat) : Int := if b < 32768 then (b : Int) else -((b : Int) - 32768) - 1

/-- Replacement of a non-finite BF16 element (R214). -/
def finite (b : Nat) : Nat :=
  match bf16.read b with
  | .nan => 0
  | .inf n => bf16.maxBits n
  | .fin _ _ _ => b

/-- Is a BF16 value not finite? -/
def nonFinite (b : Nat) : Bool := decide (bits b 14 7 = 255)

/-- Code of an INT8 element (R213). -/
def code8 (v lo hi : Int) (m : Nat) : Nat :=
  let d := hi - lo
  if d = 0 then 0 else ((2 * (m : Int) * (v - lo) + d) / (2 * d)).toNat

/-- Decoded INT8 element (R213). -/
def value8 (q : Nat) (lo hi : Int) (m : Nat) : Int :=
  max (-128) (min 127 (lo + (2 * (q : Int) * (hi - lo) + (m : Int)) / (2 * (m : Int))))

/-- Code of a BF16 element (R214). -/
def code16 (v lo hi m : Nat) : Nat :=
  let d := fsub (bfWiden hi) (bfWiden lo)
  if d % 2 ^ 31 = 0 then 0
  else (ftoInt (fdiv (fmul (fofInt m) (fsub (bfWiden v) (bfWiden lo))) d) false 0 m).toNat

/-- Decoded BF16 element (R214). -/
def value16 (q lo hi m : Nat) : Nat :=
  let d := fsub (bfWiden hi) (bfWiden lo)
  bf16.ofF32 (fadd (bfWiden lo) (fdiv (fmul (fofInt q) d) (fofInt m)))

/-- Codes packed n bits each, least significant bit first (R212). -/
def packCodes (n : Nat) (qs : List Nat) : List Byte :=
  leBytes (2 * n) ((qs.zipIdx.map fun (q, i) => q * 2 ^ (n * i)).sum)

/-- The elements that lie inside the tensor. -/
def present (es : List (Option Int)) : List Int := es.filterMap id

/-- One encoded group of 16 elements; `none` is padding (R212 to R215). -/
def encGroup (bf : Bool) (ratio : Nat) (es : List (Option Int)) : List Byte :=
  let m := levels bf ratio
  if bf then
    let vs := (present es).map fun v => finite v.toNat
    let lo := vs.foldl (fun a v => if key v < key a then v else a) (vs.headD 0)
    let hi := vs.foldl (fun a v => if key a < key v then v else a) (vs.headD 0)
    leBytes 2 lo ++ leBytes 2 hi ++ packCodes (codeBits bf ratio)
      (es.map fun e => match e with | none => 0 | some v => code16 (finite v.toNat) lo hi m)
  else
    let vs := present es
    let lo := vs.foldl min (vs.headD 0)
    let hi := vs.foldl max (vs.headD 0)
    leBytes 1 (ofSigned 8 lo) ++ leBytes 1 (ofSigned 8 hi) ++ packCodes (codeBits bf ratio)
      (es.map fun e => match e with | none => 0 | some v => code8 v lo hi m)

/-- Is a group's header invalid? (R216) -/
def badGroup (bf : Bool) (b : List Byte) : Bool :=
  if bf then nonFinite (rd b 0 2) || nonFinite (rd b 2 2) || decide (key (rd b 2 2) < key (rd b 0 2))
  else decide (rdInt b 1 1 < rdInt b 0 1)

/-- The 16 decoded elements of a group (R213, R214, R216). -/
def decGroup (bf : Bool) (ratio : Nat) (b : List Byte) : List Int :=
  let m := levels bf ratio
  let n := codeBits bf ratio
  let h := if bf then 4 else 2
  let cs := rd b h (2 * n)
  (List.range 16).map fun i =>
    let q := cs / 2 ^ (n * i) % 2 ^ n
    if bf then
      (if badGroup bf b then (if nonFinite (rd b 0 2) then 0 else (rd b 0 2 : Int)) else (value16 q (rd b 0 2) (rd b 2 2) m : Int))
    else if badGroup bf b then rdInt b 0 1
    else value8 q (rdInt b 0 1) (rdInt b 1 1) m

/-- The element at (y, x, c), `none` beyond the tensor edge. -/
def elem? (t : Ten) (y x c : Nat) : Option Int := do
  let r ← t[y]?
  let p ← r[x]?
  p[c]?

/-- Elements of group g of the block at (bh, bw, bc) (R211). -/
def groupElems (t : Ten) (bh bw bc g : Nat) : List (Option Int) :=
  (List.range 16).map fun i =>
    elem? t (8 * bh + 4 * (g / 2 % 2) + i / 4) (8 * bw + 4 * (g % 2) + i % 4) (8 * bc + g / 4)

/-- One encoded block. -/
def encBlock (bf : Bool) (ratio : Nat) (t : Ten) (bh bw bc : Nat) : List Byte :=
  (List.range 32).flatMap fun g => encGroup bf ratio (groupElems t bh bw bc g)

/-- Blocks along an axis. -/
def blocks (n : Nat) : Nat := (n + 7) / 8

/-- The stored bytes of a tensor of w columns and c channels: block (bh, bw, bc) in rising order (R215). -/
def encode (bf : Bool) (ratio : Nat) (t : Ten) (w c : Nat) : List Byte :=
  (List.range (blocks t.length)).flatMap fun bh => (List.range (blocks w)).flatMap fun bw =>
    (List.range (blocks c)).flatMap fun bc => encBlock bf ratio t bh bw bc

/-- Blocks of a tensor. -/
def blockCount (h w c : Nat) : Nat := blocks h * blocks w * blocks c

/-- The decoded tensor of size h × w × c (R215). -/
def decode (bf : Bool) (ratio : Nat) (b : List Byte) (h w c : Nat) : Ten :=
  let gb := groupBytes bf ratio
  (List.range h).map fun y => (List.range w).map fun x => (List.range c).map fun z =>
    let blk := ((y / 8) * blocks w + x / 8) * blocks c + z / 8
    let g := 4 * (z % 8) + 2 * (y / 4 % 2) + x / 4 % 2
    (decGroup bf ratio ((b.drop (blk * blockBytes bf ratio + g * gb)).take gb)).getD (4 * (y % 4) + x % 4) 0

/-- Groups of the stored bytes whose header is not valid (R216). -/
def badGroups (bf : Bool) (ratio : Nat) (b : List Byte) : Nat :=
  let gb := groupBytes bf ratio
  ((List.range (b.length / gb)).filter fun i => badGroup bf ((b.drop (i * gb)).take gb)).length

/-- Elements of a BF16 tensor that are not finite (R214). -/
def nonFinites (t : Ten) : Nat :=
  (t.map fun r => (r.map fun p => (p.filter fun v => nonFinite v.toNat).length).sum).sum

end Frc

end Sys2Proof.Machine
end

