-- ==== Sys2Proof/Machine/ChainMath.lean ====
section
/-! DEFINITION. Fused chains: stage arithmetic with its two rounding placements, pooling, signatures and detections (R222 to R235). An
element in an integer format is its value; in a float format it is the bits of that format. -/
namespace Sys2Proof.Machine

/-- Numeric formats by code (4.4, R224): 0 INT4, 1 INT8, 2 INT32, 3 BF16, 4 FP16, 5 FP32, 6 INT16. -/
def fmtIsInt (f : Nat) : Bool := f == 0 || f == 1 || f == 2 || f == 6

/-- Range of an integer format. -/
def fmtRange (f : Nat) : Int × Int :=
  if f = 0 then (-8, 7) else if f = 1 then (-128, 127) else if f = 6 then (-32768, 32767)
  else (-2147483648, 2147483647)

/-- Bits of an element of a format. -/
def fmtBits (f : Nat) : Nat := if f = 0 then 4 else if f = 1 then 8 else if f = 2 ∨ f = 5 then 32 else 16

/-! ### A tensor in memory as rows of cells: its elements, or its FRC blocks (R15, R215) -/

/-- Elements along a cell's edge: an element, or a block of 8 × 8 × 8. -/
def Cells.edge (ratio : Nat) : Nat := if ratio = 0 then 1 else 8
/-- Cells along an axis of n elements. -/
def Cells.count (ratio n : Nat) : Nat := (n + Cells.edge ratio - 1) / Cells.edge ratio
/-- Bytes of a cell. -/
def Cells.size (f ratio : Nat) : Nat := if ratio = 0 then fmtBits f / 8 else Frc.blockBytes (f == 3) ratio
/-- Bytes of a row of cells of w × c elements, on a 64-byte boundary. -/
def Cells.row (f ratio w c : Nat) : Nat := (Cells.count ratio w * Cells.count ratio c * Cells.size f ratio + 63) / 64 * 64
/-- Bytes of a tensor. -/
def Cells.bytes (f ratio h w c : Nat) : Nat := Cells.count ratio h * Cells.row f ratio w c
/-- The cell at a row, column and channel of cells in a tensor of w × c elements. -/
def Cells.at_ (f ratio w c : Nat) (b : List Byte) (r x z : Nat) : List Byte :=
  slice b (r * Cells.row f ratio w c + (x * Cells.count ratio c + z) * Cells.size f ratio) (Cells.size f ratio)
/-- The rows of cells that `cell` gives, for h × w × c elements; row padding is `pad` (R15). -/
def Cells.build (f ratio h w c : Nat) (cell : Nat → Nat → Nat → List Byte) (pad : Nat → Byte) : List Byte :=
  let n := Cells.count ratio w * Cells.count ratio c * Cells.size f ratio
  (List.range (Cells.count ratio h)).flatMap fun r =>
    ((List.range (Cells.count ratio w)).flatMap fun x => (List.range (Cells.count ratio c)).flatMap fun z => cell r x z) ++
      (List.range (Cells.row f ratio w c - n)).map fun i => pad (r * Cells.row f ratio w c + n + i)

namespace Chain

/-- One stage entry (Table 9.2). -/
structure Stage where
  op : Nat
  fmt : Nat
  a : Nat
  b : Nat
  c : Nat
  table : Nat
  deriving DecidableEq, Repr

/-- One chain record (Table 9.1) with its stages. -/
structure Rec where
  group : Nat
  layer : Nat
  pro : Nat
  epi : Nat
  mode : Nat
  acc : Nat
  store : Nat
  splitFmt : Nat
  cOut : Nat
  region : Nat
  eb : Nat
  rows : Nat
  reserved : Nat
  stages : List Stage
  deriving DecidableEq, Repr

/-- Read a stage entry. -/
def readStage (b : List Byte) : Stage := ⟨rd b 0 1, rd b 1 1, rd b 2 2, rd b 4 4, rd b 8 4, rd b 12 4⟩

/-- Read a chain record at the head of `b`. -/
def read (b : List Byte) : Rec :=
  let n := rd b 3 1
  { group := rd b 0 2, layer := rd b 2 1, pro := n % 16, epi := n / 16, mode := rd b 4 1, acc := rd b 5 1
    store := rd b 6 1, splitFmt := rd b 7 1, cOut := rd b 8 2, region := rd b 10 2, eb := rd b 12 4, rows := rd b 16 4
    reserved := rd b 20 12
    stages := (List.range (n % 16 + n / 16)).map fun i => readStage (b.drop (32 + 16 * i)) }

/-- Bytes of a chain record. -/
def Rec.size (r : Rec) : Nat := 32 + 16 * (r.pro + r.epi)
/-- MODE bits: store-round, ties away, arrival, part, split. -/
def Rec.storeRound (r : Rec) : Bool := bitOn r.mode 0
/-- TIES_AWAY. -/
def Rec.away (r : Rec) : Bool := bitOn r.mode 1
/-- ARRIVAL. -/
def Rec.arrival (r : Rec) : Bool := bitOn r.mode 2
/-- PART. -/
def Rec.part (r : Rec) : Bool := bitOn r.mode 3
/-- SPLIT. -/
def Rec.split (r : Rec) : Bool := bitOn r.mode 4
/-- The zero point of the QUANT stage, 0 when there is none. -/
def Rec.zp (r : Rec) : Int :=
  match r.stages.find? (fun s => s.op == 0x15) with
  | some s => toSigned 8 s.a
  | none => 0

/-! ### Formats -/

/-- An element as FP32 bits: exact if it fits in 24 bits, otherwise rounded once (R228). -/
def toF32 (f : Nat) (v : Int) : Nat :=
  if fmtIsInt f then fofInt v else if f = 3 then bfWiden v.toNat else if f = 4 then hWiden v.toNat else v.toNat

/-- Clamp an integer, counting the clamp (R228). -/
def clampI (lo hi v : Int) : Int × Nat := if v < lo then (lo, 1) else if hi < v then (hi, 1) else (v, 0)

/-- Narrow an FP32 value to a float format: saturating, NaN quiet (R228). -/
def narrowF (f : Nat) (a : Nat) : Int × Nat :=
  let g := if f = 3 then bf16 else if f = 4 then fp16 else fp32
  match fp32.read a with
  | .nan => ((g.nanBits : Int), 0)
  | .inf n => ((g.maxBits n : Int), 1)
  | .fin n m e =>
    let b := g.pack n m e false
    if b % 2 ^ (g.eb + g.mb) = (2 ^ g.eb - 1) * 2 ^ g.mb then ((g.maxBits n : Int), 1) else ((b : Int), 0)

/-- A stage's result before narrowing: an integer, or FP32 bits. -/
inductive Res where
  | int (v : Int)
  | flt (b : Nat)
  deriving DecidableEq, Repr

/-- Narrow a result to a format, integers to lo … hi (R227, R228). -/
def narrowTo (f : Nat) (lo hi : Int) (away : Bool) : Res → Int × Nat
  | .int v => if fmtIsInt f then clampI lo hi v else narrowF f (fofInt v)
  | .flt b => if fmtIsInt f then clampI lo hi (ftoInt b away (-(2 ^ 200 : Nat)) (2 ^ 200 : Nat)) else narrowF f b

/-- The format that a stage's result is narrowed to, and the integer range (R229). `opType` is the operand type of the layer, for
prologue stages. -/
def target (r : Rec) (opType : Nat) (s : Stage) : Nat × Int × Int :=
  if s.op < 0x10 then (opType, fmtRange opType)
  else if s.op = 0x15 then (r.store, fmtRange r.store)
  else if r.storeRound then
    if s.op = 0x10 then (r.acc, fmtRange r.acc)
    else (r.store, (fmtRange r.store).1 - r.zp, (fmtRange r.store).2 - r.zp)
  else (s.fmt, fmtRange s.fmt)

/-! ### Stage arithmetic (Table 9.5) -/

/-- A signed table value of n bytes. -/
def tab (img : List Byte) (off n : Nat) : Int := rdInt img off n

/-- One element through a stage other than POOL, COMPRESS, POST and SIGN. `f` is the format of `v`, `ch` its channel, `res` the residual
element and its format. -/
def elem (img : List Byte) (r : Rec) (s : Stage) (f ch : Nat) (res : Int × Nat) (v : Int) : Res :=
  let isI := fmtIsInt f
  let x := toF32 f v
  let away := r.away
  if s.op = 0x01 then (if isI then .int (max v 0) else .flt (fmax x 0))
  else if s.op = 0x02 then
    if isI then .int (min (max v (toSigned 8 s.b)) (toSigned 8 s.c)) else .flt (fmin (fmax x s.b) s.c)
  else if s.op = 0x03 then
    if isI then .int (rndShift (v * tab img (s.table + 8 * ch) 2 + tab img (s.table + 8 * ch + 4) 4) s.a away)
    else .flt (ffma x (rd img (s.table + 8 * ch) 4) (rd img (s.table + 8 * ch + 4) 4))
  else if s.op = 0x04 then .int (tab img (s.table + (v + 128).toNat) 1)
  else if s.op = 0x10 then
    if isI then .int (v + tab img (s.table + 4 * ch) 4) else .flt (fadd x (rd img (s.table + 4 * ch) 4))
  else if s.op = 0x11 then
    let toInt := fmtIsInt (if r.storeRound then r.store else s.fmt)
    if toInt then
      (if isI then .int (rndShift (v * tab img (s.table + 4 * ch) 4) s.a away)
       else .int (Config.scaleFloatToInt (BitVec.ofNat 32 x) (BitVec.ofNat 32 (rd img (s.table + 4 * ch) 4)) s.a))
    else .flt (ffma x (rd img (s.table + 4 * ch) 4) 0)
  else if s.op = 0x12 then
    if s.a = 0 then (if isI then .int (max v 0) else .flt (fmax x 0))
    else if s.a = 1 then
      (if isI then .int (min (max v (toSigned 32 s.b)) (toSigned 32 s.c)) else .flt (fmin (fmax x s.b) s.c))
    else if s.a = 2 then
      (if isI then (if v < 0 then .int (rndShift (v * toSigned 16 s.b) 15 away) else .int v)
       else if flt x 0 then .flt (ffma x s.b 0) else .flt x)
    else .int (tab img (s.table + (v + 128).toNat) 1)
  else if s.op = 0x13 then
    if isI then
      let q := if fmtIsInt res.2 then res.1 else ftoInt (toF32 res.2 res.1) away (-(2 ^ 40 : Nat)) (2 ^ 40 : Nat)
      .int (v + rndShift ((q - toSigned 8 (s.a / 256)) * toSigned 32 s.c) (s.a % 64) away)
    else .flt (ffma (toF32 res.2 res.1) s.c x)
  else if s.op = 0x15 then
    if fmtIsInt r.store then
      (if isI then .int (v + r.zp)
       else .int (ftoInt x away (-(2 ^ 200 : Nat)) (2 ^ 200 : Nat) + r.zp))
    else (if isI then .flt (fofInt v) else .flt x)
  else (if isI then .int v else .flt x)

/-- The elements of a pooling window, in row, then column order. -/
def window (t : Ten) (k st y x ch : Nat) : List Int :=
  (List.range k).flatMap fun i => (List.range k).map fun j => (Frc.elem? t (y * st + i) (x * st + j) ch).getD 0

/-- One pooled element (Table 9.5). -/
def poolElem (r : Rec) (s : Stage) (f : Nat) (w : List Int) : Res :=
  let k := s.a / 4 % 4
  if s.a % 4 = 0 then
    if fmtIsInt f then .int (w.foldl max (w.headD 0))
    else .flt ((w.map (toF32 f)).foldl fmax ((w.map (toF32 f)).headD 0))
  else if fmtIsInt f then
    (if k = 2 then .int (rndShift w.sum 2 r.away) else .int (rndDiv w.sum 9 r.away))
  else .flt (fdiv ((w.drop 1).foldl (fun a v => fadd a (toF32 f v)) (toF32 f (w.headD 0))) (fofInt (k * k : Nat)))

/-- A split chain as the one chain that it stands for (R238): part 0 and then the stages of part 1. -/
def Rec.joined (r q : Rec) : Rec := { r with epi := r.epi + q.epi, stages := r.stages ++ q.stages }

/-- Map every element, counting clamps. -/
def mapT (t : Ten) (g : Nat → Nat → Nat → Int → Int × Nat) : Ten × Nat :=
  let u : List (List (List (Int × Nat))) :=
    t.zipIdx.map fun (row, y) => row.zipIdx.map fun (p, x) => p.zipIdx.map fun (v, c) => g y x c v
  (u.map (·.map (·.map (·.1))), (u.map fun r => (r.map fun p => (p.map (·.2)).sum).sum).sum)

/-- A band of a tensor, with its format, the clamps counted so far and its first column. A row that was not computed (R241) is empty. -/
structure Run where
  t : Ten
  fmt : Nat
  sat : Nat
  x0 : Nat := 0
  deriving DecidableEq, Repr

/-- Columns of a tensor. -/
def widthOf (t : Ten) : Nat := (t.map List.length).foldl max 0

/-- Channels of a tensor. -/
def depthOf (t : Ten) : Nat := (t.map fun r => (r.map List.length).foldl max 0).foldl max 0

/-- One stage on a band (R230). `res` and `resFmt` are the whole residual tensor and its storage type. -/
def stage (img : List Byte) (r : Rec) (opType : Nat) (res : Ten) (resFmt : Nat) (u : Run) (s : Stage) : Run :=
  let (f, lo, hi) := target r opType s
  if s.op = 0x16 ∨ s.op = 0x17 ∨ s.op = 0x18 then u
  else if s.op = 0x14 then
    let k := s.a / 4 % 4
    let st := s.a / 16 % 4
    let h := (u.t.length - k) / st + 1
    let w := (widthOf u.t - k) / st + 1
    let p : Ten := (List.range h).map fun y =>
      if (List.range k).any fun i => (u.t.getD (y * st + i) []).isEmpty then [] else List.replicate w (List.replicate (depthOf u.t) 0)
    let (t, n) := mapT p fun y x ch _ => narrowTo f lo hi r.away (poolElem r s u.fmt (window u.t k st y x ch))
    ⟨t, f, u.sat + n, u.x0 / st⟩
  else
    let (t, n) := mapT u.t fun y x ch v =>
      narrowTo f lo hi r.away (elem img r s u.fmt ch ((Frc.elem? res y (u.x0 + x) ch).getD 0, resFmt) v)
    ⟨t, f, u.sat + n, u.x0⟩

/-- The epilogue of a record on a band of accumulators, or of values that part 0 passed on. -/
def epilogue (img : List Byte) (r : Rec) (res : Ten) (resFmt : Nat) (u : Run) : Run :=
  (r.stages.drop r.pro).foldl (stage img r r.store res resFmt) u

/-- The prologue of a record on operands of the layer's type (R223). -/
def prologue (img : List Byte) (r : Rec) (opType x0 : Nat) (t : Ten) : Run :=
  (r.stages.take r.pro).foldl (stage img r opType [] 1) ⟨t, opType, 0, x0⟩

/-! ### Stored bytes and signatures (R15, R235) -/

/-- The bytes of a run of elements in a storage type; an odd INT4 run ends in a zero nibble. -/
def packElems (f : Nat) : List Int → List Byte
  | [] => []
  | [v] => if f = 0 then leBytes 1 (ofSigned 4 v) else leBytes (fmtBits f / 8) (ofSigned (fmtBits f) v)
  | v :: w :: t =>
    if f = 0 then leBytes 1 (ofSigned 4 v + 16 * ofSigned 4 w) ++ packElems f t
    else leBytes (fmtBits f / 8) (ofSigned (fmtBits f) v) ++ packElems f (w :: t)

/-- The column bands of a tensor, each given by its first column and its width. -/
def bands (cols : List (Nat × Nat)) (t : Ten) : List Ten :=
  cols.map fun (x, n) => t.map fun row => (row.drop x).take n

/-- The COMPRESS ratio of a chain, 0 when it has none. -/
def Rec.ratio (r : Rec) : Nat :=
  match r.stages.find? (fun s => s.op == 0x16) with
  | some s => s.a
  | none => 0

/-- Bytes of a row of `n` elements of a type, from one 64-byte boundary to the next (R15). -/
def rowBytes (f n : Nat) : Nat := ((n * fmtBits f + 7) / 8 + 63) / 64 * 64

/-- The rows of a tensor, 8 at a time, in which every row was computed: an encoder begins a block once it holds them (R219). -/
def blockRows (t : Ten) : List (Nat × Ten) :=
  ((List.range (Frc.blocks t.length)).map fun bh => (bh, (t.drop (8 * bh)).take 8)).filter fun b => b.2.all fun row => !row.isEmpty

/-- The bytes that a chain stores, in the order it writes them (R235): the bands of its stripes are `cols`. -/
def written (r : Rec) (cols : List (Nat × Nat)) (t : Ten) : List Byte :=
  if r.ratio = 0 then (bands cols t).flatMap fun b => b.flatMap fun row => packElems r.store row.flatten
  else (bands cols t).flatMap fun b => (blockRows b).flatMap fun (_, q) => Frc.encode (r.store == 3) r.ratio q (widthOf b) r.cOut

/-- The elements of a row's columns from x0 as bytes: an INT4 nibble beside them, which belongs to another stripe, keeps what `old` gives. The first byte's offset in the row comes with
them. -/
def packAt (f x0 c : Nat) (old : Nat → Byte) (es : List Int) : Nat × List Byte :=
  let n := x0 * c
  if f = 0 then
    let k := n / 2
    let es := if n % 2 = 1 then toSigned 4 ((old k).toNat % 16) :: es else es
    let e := k + es.length / 2
    (k, packElems 0 (if es.length % 2 = 1 then es ++ [toSigned 4 ((old e).toNat / 16)] else es))
  else (n * (fmtBits f / 8), packElems f es)

/-- Where the bytes of a group's output go, as offsets from its place with the bytes: for each stripe, FRC blocks (R215), or the columns of each row; the last column's stripe
writes the padding bytes up to 64, where `pad i` is the i-th of them (R15). `w` is the tensor's width, `old` what its place holds. -/
def pieces (r : Rec) (cols : List (Nat × Nat)) (t : Ten) (w : Nat) (old pad : Nat → Byte) : List (Nat × List Byte) :=
  cols.flatMap fun (x0, n) =>
    if r.ratio = 0 then
      let rb := rowBytes r.store (w * r.cOut)
      t.zipIdx.filterMap fun (row, y) =>
        if row.isEmpty then none
        else
          let (k, b) := packAt r.store x0 r.cOut (fun i => if x0 + n = w ∧ 2 * i + 1 = w * r.cOut then pad (rb * y + i) else old (rb * y + i)) (((row.drop x0).take n).flatten)
          some (rb * y + k, b ++ if x0 + n = w then (List.range (rb - k - b.length)).map fun i => pad (rb * y + i) else [])
    else
      let bb := Frc.blockBytes (r.store == 3) r.ratio
      (blockRows (t.map fun row => (row.drop x0).take n)).map fun (bh, q) =>
        (((bh * Frc.blocks w + x0 / 8) * Frc.blocks r.cOut) * bb, Frc.encode (r.store == 3) r.ratio q n r.cOut)

/-! ### Detections (R231 to R233) -/

/-- What POST reads of the sample's headers (R148, R170). -/
structure TileInfo where
  posStart : Int
  tileIndex : Nat
  overlapReset : Bool
  truncated : Bool
  validLines : Nat
  dirValid : Bool
  falling : Bool
  sampleId : Nat
  deriving DecidableEq, Repr

/-- The neighbours of (y, x) within the band of `n` columns from `x0`: element, and whether it precedes in raster order. -/
def neighbours (t : Ten) (x0 n y x c : Nat) : List (Int × Bool) :=
  [((0 : Nat), (0 : Nat)), (0, 1), (0, 2), (1, 0), (1, 2), (2, 0), (2, 1), (2, 2)].filterMap fun (dy, dx) =>
    if y + dy = 0 ∨ x + dx < x0 + 1 ∨ x0 + n < x + dx then none
    else (Frc.elem? t (y + dy - 1) (x + dx - 1) c).map fun v => (v, decide (dy = 0 ∨ (dy = 1 ∧ dx = 0)))

/-- The tile line of output row y, 16.16 (R232). -/
def lineFx (post : List Byte) (y : Nat) : Nat := rd post 4 4 + y * rd post 8 4

/-- Is the stored element a detection in the band of `n` columns from `x0`? (R232) -/
def detects (post : List Byte) (ti : TileInfo) (t : Ten) (x0 n y x c : Nat) (v : Int) : Bool :=
  let l := lineFx post y / 65536
  let lo := if ti.tileIndex = 0 ∨ ti.overlapReset then 0 else rd post 24 2
  let hi := if ti.truncated then ti.validLines else rd post 26 2
  decide (c < 16) && bitOn (rd post 2 2) c && decide (rdInt post (32 + c) 1 < v) &&
    (!bitOn (rd post 1 1) 0 || (neighbours t x0 n y x c).all fun (w, before) =>
      if before then decide (w < v) else decide (w ≤ v)) &&
    decide (lo ≤ l) && decide (l < hi)

/-- The position of a detection at output row y (R233). -/
def postPos (post : List Byte) (ti : TileInfo) (y : Nat) : Int :=
  let d : Int := ((lineFx post y * rd post 12 4 + 2 ^ 31) / 2 ^ 32 : Nat)
  let o := d + rdInt post 16 8
  if ti.falling then ti.posStart - o else ti.posStart + o

/-- What a POST stage made of one sample: positions queued with their rows, detections dropped beyond MAX_POSTS and detections not formed for their direction (R233). -/
structure Posts where
  queued : List (Int × Nat)
  limit : Nat
  direction : Nat
  deriving DecidableEq, Repr

/-- One detection. -/
def postOne (post : List Byte) (ti : TileInfo) (p : Posts) (y : Nat) : Posts :=
  if !ti.dirValid || (ti.falling != bitOn (rd post 1 1) 1) then { p with direction := p.direction + 1 }
  else
    let pos := postPos post ti y
    if p.queued.any fun q => q.1 == pos then p
    else if rd post 28 1 ≤ p.queued.length then { p with limit := p.limit + 1 }
    else { p with queued := p.queued ++ [(pos, y)] }

/-- The POST stage on the stored tensor (R232, R233), whose stripes' bands are `cols`: a column that two bands share is detected once. `before` is what the sample has queued already. -/
def posts (post : List Byte) (ti : TileInfo) (cols : List (Nat × Nat)) (t : Ten) (before : List (Int × Nat)) : Posts :=
  t.zipIdx.foldl (fun p (row, y) => row.zipIdx.foldl (fun p (px, x) => px.zipIdx.foldl (fun p (v, c) =>
    if cols.any (fun (x0, n) => decide (x0 ≤ x) && decide (x < x0 + n) && detects post ti t x0 n y x c v) then postOne post ti p y else p) p) p)
    ⟨before, 0, 0⟩

end Chain

end Sys2Proof.Machine
end

