-- ==== Sys2Proof/Machine/Images.lean ====
section
/-! DEFINITION. Schedule images and weight images: their records and accessors (R173, R208, R224, R239, R256, R277, R296,
R320, R321). An image is its bytes. -/
namespace Sys2Proof.Machine
namespace Image

abbrev Bytes := List Byte

/-- A weight image's size (Table 7.1). -/
def weightSize : Nat := 131136

/-- No cell holds the reserved code 0x8. -/
def noReserved : Bytes → Bool
  | [] => true
  | b :: t => b.toNat % 16 != 8 && b.toNat / 16 != 8 && noReserved t

/-- MAGIC, FORMAT, CELL_CRC and the absence of the code 0x8 (R189, step 2). -/
def weightOk (b : Bytes) : Bool :=
  decide (rd b 0 4 = 0x57494D47) && decide (rd b 4 2 = 1) &&
    decide (rd b 8 4 = crc32c ((b.drop 64).take 131072)) && noReserved ((b.drop 64).take 131072)

/-! ### Header (Table 11.1) -/

def partition (b : Bytes) : Nat := rd b 6 1
def pair (b : Bytes) : Bool := bitOn (rd b 7 1) 0
def length (b : Bytes) : Nat := rd b 8 4
def mask (b : Bytes) : Nat := rd b 20 2
def variants (b : Bytes) : Nat := rd b 22 1
def imageId (b : Bytes) : Nat := rd b 24 8
def layoutOff (b : Bytes) : Nat := rd b 32 4
def jobOff (b : Bytes) : Nat := rd b 36 4
def jobCount (b : Bytes) : Nat := rd b 40 2
def regionCount (b : Bytes) : Nat := rd b 42 2
def regionOff (b : Bytes) : Nat := rd b 44 4
def groupOff (b : Bytes) : Nat := rd b 48 4
def groupCount (b : Bytes) : Nat := rd b 52 2
def chainCount (b : Bytes) : Nat := rd b 54 2
def chainOff (b : Bytes) : Nat := rd b 56 4
def arrivalOff (b : Bytes) : Nat := rd b 60 4
def arrivalCount (b : Bytes) : Nat := rd b 64 2
def placeCount (b : Bytes) : Nat := rd b 66 2
def placeOff (b : Bytes) : Nat := rd b 68 4
def testRegion (b : Bytes) : Nat := rd b 72 1
def testSig (b : Bytes) : Nat := rd b 76 4
def taskOff (b : Bytes) : Nat := rd b 80 4
def taskCount (b : Bytes) : Nat := rd b 84 2
def phaseCount (b : Bytes) : Nat := rd b 86 2
def phaseOff (b : Bytes) : Nat := rd b 88 4

/-- The records of size `n` of a table. -/
def recs (b : Bytes) (off count n : Nat) : List Bytes := (List.range count).map fun i => slice b (off + n * i) n

/-! ### Variants (Table 11.2) -/

def variantRecs (b : Bytes) : List Bytes := recs b 96 (variants b) 64
def vLevel (v : Bytes) : Nat := rd v 0 1
def vPlan (v : Bytes) : Nat := rd v 1 1
def vMaxArrays (v : Bytes) : Nat := rd v 2 1
def vRegions (v : Bytes) : Nat := rd v 4 2
def vCheckCount (v : Bytes) : Nat := rd v 6 2
def vCheckOff (v : Bytes) : Nat := rd v 8 4
def vCrgOff (v : Bytes) : Nat := rd v 12 4
def vMemOff (v : Bytes) : Nat := rd v 16 4
def vCycles (v : Bytes) : Nat := rd v 28 4
def vPatrolOff (v : Bytes) : Nat := rd v 32 4
def vPatrolCount (v : Bytes) : Nat := rd v 36 2

/-- The variant compiled for a level. -/
def variantFor (b : Bytes) (level : Nat) : Option Bytes := (variantRecs b).find? fun v => vLevel v == level

/-! ### Jobs, regions, checkpoints, placements, tasks (Tables 11.3, 11.4, 12.1, 12.2) -/

def jobs (b : Bytes) : List Bytes := recs b (jobOff b) (jobCount b) 16
def jJob (j : Bytes) : Nat := rd j 0 2
def jFallback (j : Bytes) : Nat := rd j 2 2
def jBind (j : Bytes) : Nat := rd j 4 1
def jPriority (j : Bytes) : Nat := rd j 5 1
def jContext (j : Bytes) : Nat := rd j 6 1
def jContinue (j : Bytes) : Bool := bitOn (rd j 7 1) 0
def jSilentOk (j : Bytes) : Bool := bitOn (rd j 7 1) 1
def jDeadline (j : Bytes) : Nat := rd j 8 8
def regions (b : Bytes) : List Bytes := recs b (regionOff b) (regionCount b) 16
def rRegion (r : Bytes) : Nat := rd r 0 1
def rContext (r : Bytes) : Nat := rd r 1 1
def rEngine (r : Bytes) : Nat := rd r 2 1
def rLbOffset (r : Bytes) : Nat := rd r 4 4
def rBytes (r : Bytes) : Nat := rd r 8 4
def checkpoints (b v : Bytes) : List Bytes := recs b (vCheckOff v) (vCheckCount v) 16
def cJob (c : Bytes) : Nat := rd c 0 2
def cEngine (c : Bytes) : Nat := rd c 2 1
def cSlot (c : Bytes) : Nat := rd c 3 1
def cDecision (c : Bytes) : Bool := rd c 4 1 == 1
def cCycle (c : Bytes) : Nat := rd c 8 4
def placements (b : Bytes) : List Bytes := recs b (placeOff b) (placeCount b) 16
def pEngine (p : Bytes) : Nat := rd p 0 1
def pArray (p : Bytes) : Nat := rd p 1 1
def pCrc (p : Bytes) : Nat := rd p 4 4
def pOff (p : Bytes) : Nat := rd p 8 4
def tasks (b : Bytes) : List Bytes := recs b (taskOff b) (taskCount b) 16
def tJob (t : Bytes) : Nat := rd t 0 2
def tIndex (t : Bytes) : Nat := rd t 2 1
def tEngine (t : Bytes) : Nat := rd t 3 1
def tWave (t : Bytes) : Nat := rd t 4 1
def tGroup (t : Bytes) : Nat := rd t 6 2

/-- The job entry of a job. -/
def job? (b : Bytes) (j : Nat) : Option Bytes := (jobs b).find? fun e => jJob e == j
/-- The region of an index. -/
def region? (b : Bytes) (r : Nat) : Option Bytes := (regions b).find? fun e => rRegion e == r
/-- The region that the image declares for a stream context. -/
def regionOf (b : Bytes) (ctx : Nat) : Option Bytes := (regions b).find? fun e => rContext e == ctx
/-- The weight image of a placement. -/
def weightAt (b p : Bytes) : Bytes := slice b (pOff p) weightSize
/-- The placement on an array. -/
def placement? (b : Bytes) (e m : Nat) : Option Bytes := (placements b).find? fun p => pEngine p == e && pArray p == m
/-- The tasks of a job. -/
def jobTasks (b : Bytes) (j : Nat) : List Bytes := (tasks b).filter fun t => tJob t == j
/-- Waves of a job. -/
def waveCount (b : Bytes) (j : Nat) : Nat := ((jobTasks b j).map fun t => tWave t + 1).foldl max 0

/-! ### Phases and member tables (Tables 13.1, 13.2) -/

def phases (b : Bytes) : List Bytes := recs b (phaseOff b) (phaseCount b) 32
def jobPhases (b : Bytes) (j : Nat) : List Bytes := (phases b).filter fun p => rd p 0 2 == j
def phNum (p : Bytes) : Nat := rd p 2 1
def phExchange (p : Bytes) : Bool := bitOn (rd p 3 1) 0
def phMembers (p : Bytes) : Nat := rd p 16 2
def phMemberOff (p : Bytes) : Nat := rd p 12 4
def phBarrier (p : Bytes) : Nat := rd p 28 2
def phFirst (p : Bytes) : Nat := rd p 10 1
def phLast (p : Bytes) : Nat := rd p 11 1
def phRegion (p : Bytes) : Nat := rd p 26 2
/-- Module IDs of a member table, in member order. -/
def members (b : Bytes) (off : Nat) : List Nat := (List.range (rd b (off + 2) 2)).map fun i => rd b (off + 8 + 2 * i) 2
/-- The members of a job; none when it is a single phase on a single module. -/
def jobMembers (b : Bytes) (j : Nat) : List Nat :=
  match (jobPhases b j).head? with
  | none => []
  | some p => members b (phMemberOff p)

/-! ### Arrival regions (R239) -/

def arrivals (b : Bytes) : List Bytes := recs b (arrivalOff b) (arrivalCount b) 16
def aRegion (a : Bytes) : Nat := rd a 0 2
def aUnits (a : Bytes) : Nat := rd a 2 2
def aUnitBytes (a : Bytes) : Nat := rd a 4 2
def aEngine (a : Bytes) : Nat := rd a 6 1
def aSource (a : Bytes) : Nat := rd a 7 1
def aBase (a : Bytes) : Nat := rd a 8 8
def arrival? (b : Bytes) (r : Nat) : Option Bytes := (arrivals b).find? fun a => aRegion a == r

/-! ### Stripe groups (Tables 8.2, 8.3) and chains, whose records have varying size -/

/-- Size of a stripe group record. -/
def groupSize (g : Bytes) : Nat := 16 + 16 * rd g 2 1

/-- The group records, each cut to its size. -/
def groupsFrom (b : Bytes) : Nat → List Bytes
  | 0 => []
  | n + 1 => b.take (groupSize b) :: groupsFrom (b.drop (groupSize b)) n

/-- The stripe group records of an image. -/
def groups (b : Bytes) : List Bytes := groupsFrom (b.drop (groupOff b)) (groupCount b)

/-- The chain records at the head of `b`. -/
def chainsFrom (b : Bytes) : Nat → List Chain.Rec
  | 0 => []
  | n + 1 => let r := Chain.read b; r :: chainsFrom (b.drop r.size) n

/-- The chain records of an image. -/
def chains (b : Bytes) : List Chain.Rec := chainsFrom (b.drop (chainOff b)) (chainCount b)

/-- Layers of a group record. -/
def gLayers (g : Bytes) : List Bytes := recs g 16 (rd g 2 1) 16
def gGroup (g : Bytes) : Nat := rd g 0 2
def gStripeW (g : Bytes) : Nat := rd g 6 2
def gStripes (g : Bytes) : Nat := rd g 4 2
def gLb (g : Bytes) : Nat := rd g 8 4
def gInW (g : Bytes) : Nat := rd g 12 2
def gInH (g : Bytes) : Nat := rd g 14 2

/-- The runs of a list in which `up` holds between neighbours. -/
def runsOf {α : Type} (up : α → α → Bool) : List α → List (List α)
  | [] => []
  | a :: t =>
    match runsOf up t with
    | (b :: r) :: rs => if up a b then (a :: b :: r) :: rs else [a] :: (b :: r) :: rs
    | rs => [a] :: rs

/-- The stripe group and chain records of one job: GROUP is an index within the job (Table 8.2), so a record whose index does not rise begins the next job's (DEDUCED, log entry 177). -/
structure Part where
  groups : List Bytes := []
  chains : List Chain.Rec := []
  deriving DecidableEq, Repr

/-- The group records by job. -/
def groupRuns (b : Bytes) : List (List Bytes) := runsOf (fun g h => decide (gGroup g < gGroup h)) (groups b)

/-- The order of chain records. -/
def chainKey (r : Chain.Rec) : Nat := r.group * 1024 + r.layer * 2 + r.part.toNat

/-- The records by job. -/
def parts (b : Bytes) : List Part :=
  let gs := groupRuns b
  let cs := runsOf (fun r q => decide (chainKey r < chainKey q)) (chains b)
  (List.range (max gs.length cs.length)).map fun i => ⟨gs.getD i [], cs.getD i []⟩

/-- The run that holds element k of the list that was cut. -/
def runIndex {α : Type} : Nat → List (List α) → Nat
  | _, [] => 0
  | k, r :: rs => if k < r.length then 0 else 1 + runIndex (k - r.length) rs

/-- The jobs that have records, in their order: in a Freewheel image those with a task that names a group. -/
def groupJobs (b : Bytes) : List Nat :=
  ((jobs b).map jJob).filter fun j => partition b == 1 || (jobTasks b j).any fun t => tGroup t != 0xFFFF

/-- Part i, or the last one where there are fewer. -/
def partAt (b : Bytes) (i : Nat) : Part := let ps := parts b; ps.getD (min i (ps.length - 1)) {}

/-- The records of a job. -/
def partOf (b : Bytes) (job : Nat) : Part := partAt b ((groupJobs b).idxOf job)

/-- The records among which group record k stands. -/
def partAround (b : Bytes) (k : Nat) : Part := partAt b (runIndex k (groupRuns b))

/-- The job of group record k. -/
def jobOfGroup (b : Bytes) (k : Nat) : Nat := (groupJobs b).getD (runIndex k (groupRuns b)) ((groupJobs b).getLastD 0)

/-- The group record of an index. -/
def Part.group? (p : Part) (k : Nat) : Option Bytes := p.groups.find? fun g => gGroup g == k

/-- A job's first group: of a Freewheel job the one that the lowest task of its first wave with a group runs (R210). -/
def firstGroup? (b : Bytes) (job : Nat) : Option Bytes :=
  let p := partOf b job
  if partition b = 1 then p.groups.head?
  else
    let ts := (jobTasks b job).filter fun t => tGroup t != 0xFFFF
    let w := (ts.map tWave).foldl min 64
    (ts.find? fun t => tWave t == w).bind fun t => p.group? (tGroup t)

/-- Layer fields. -/
def lKh (l : Bytes) : Nat := rd l 0 1
def lKw (l : Bytes) : Nat := rd l 1 1
def lSh (l : Bytes) : Nat := rd l 2 1
def lSw (l : Bytes) : Nat := rd l 3 1
def lCin (l : Bytes) : Nat := rd l 8 2
def lCout (l : Bytes) : Nat := rd l 10 2
def lType (l : Bytes) : Nat := rd l 12 1
/-- Kernel extents E of R200. -/
def lEh (l : Bytes) : Nat := (rd l 0 1 - 1) * rd l 4 1 + 1
def lEw (l : Bytes) : Nat := (rd l 1 1 - 1) * rd l 5 1 + 1

/-- Does a sample's intake block match the group record? (R210) -/
def shapeMatches (h g : Bytes) : Bool :=
  let l := (gLayers g).headD []
  decide (rd h 68 2 = gInW g) && decide (rd h 70 2 = gInH g) && decide (rd h 67 1 = lCin l) && decide (rd h 66 1 = lType l)

/-! ### The memory layout (R256 to R258) -/

/-- The 128-byte layout table of an image. -/
def layout (b : Bytes) : Bytes := slice b (layoutOff b) 128
/-- Window entry w of a layout table. -/
def window (t : Bytes) (w : Nat) : Bytes := slice t (8 * w) 8
def wBase (e : Bytes) : Nat := rd e 0 2
def wSize (e : Bytes) : Nat := rd e 2 2
def wMode (e : Bytes) : Nat := rd e 4 1
def wHalf (e : Bytes) : Nat := rd e 5 1
def wNoAlloc (e : Bytes) : Bool := bitOn (rd e 6 1) 0

/-- Footprint of a window on channel c, in MiB (R257). -/
def footprint (e : Bytes) (c : Nat) : Nat :=
  if wMode e = 1 then 8 * wSize e
  else if wMode e = 2 ∨ wMode e = 3 then (if c / 4 = wHalf e then 16 * wSize e else 0)
  else 0

/-- The window that holds a DRAM offset (R259). -/
def windowAt (t : Bytes) (off : Nat) : Option Nat :=
  (List.range 16).find? fun w =>
    let e := window t w
    wMode e != 0 && decide (wBase e * 2 ^ 26 ≤ off) && decide (off < (wBase e + wSize e) * 2 ^ 26)

/-- XOR of n fields of k bits of i (Table 10.4). -/
def xorFields (i k n : Nat) : Nat := (List.range n).foldl (fun s j => s ^^^ (i / 2 ^ (k * j) % 2 ^ k)) 0

/-- Local base LB(w, c) in lines (R258). -/
def localBase (t : Bytes) (w c : Nat) : Nat := ((List.range w).map fun v => footprint (window t v) c * 16384).sum

/-- Slice (none for FIXED), channel and channel-local line of a DRAM offset (Table 10.4). -/
def placeLine (t : Bytes) (off : Nat) : Option (Option Nat × Nat × Nat) := do
  let w ← windowAt t off
  let e := window t w
  let i := (off - wBase e * 2 ^ 26) / 64
  if wMode e = 1 then
    let s := xorFields i 4 8
    pure (some s, s / 2, localBase t w (s / 2) + i / 16 * 2 + s % 2)
  else if wMode e = 2 then
    let s := xorFields i 3 10
    let c := 4 * wHalf e + s / 2
    pure (some (8 * wHalf e + s), c, localBase t w c + i / 8 * 2 + s % 2)
  else
    let b := i / 16
    let c := 4 * wHalf e + b % 4
    pure (none, c, localBase t w c + b / 4 * 16 + i % 16)

end Image
end Sys2Proof.Machine
end

