-- ==== Sys2Proof/Machine/ImageChecks.lean ====
section
/-! DEFINITION. The checks of schedule images: layouts, slot tables, stripe groups, chains, arrival regions, and the rows of Tables
11.5, 12.3 and 13.3 (R209, R225, R236 to R239, R248, R257, R262, R278, R297, R322). -/
namespace Sys2Proof.Machine
namespace Image

/-! ### Layouts and slot tables -/

/-- Does a window entry hold a reserved value or break its own rules? (R257) -/
def badWindow (e : Bytes) : Bool :=
  decide ((wSize e = 0) ≠ (wMode e = 0)) || decide (480 < wBase e + wSize e) ||
    (wMode e == 1 && wHalf e != 0) || (wMode e == 3 && wNoAlloc e) ||
    decide (3 < wMode e) || decide (1 < wHalf e) || decide (1 < rd e 6 1) || decide (rd e 7 1 ≠ 0) ||
    (wMode e == 0 && rd e 0 8 != 0)

/-- Do two used windows overlap? -/
def windowsOverlap (d e : Bytes) : Bool :=
  wSize d != 0 && wSize e != 0 && decide (wBase d < wBase e + wSize e) && decide (wBase e < wBase d + wSize d)

/-- A layout is rejected (R257). -/
def badLayout (t : Bytes) : Bool :=
  let es := (List.range 16).map (window t)
  es.any badWindow ||
    ((List.range 16).any fun i => (List.range i).any fun j => windowsOverlap (window t i) (window t j)) ||
    (List.range 8).any fun c => decide (3840 < (es.map fun e => footprint e c).sum)

/-- The stop of a memory controller, of the intake, or of an engine in the mask (Table 10.1, R248). -/
def slotStop (mask stop : Nat) : Bool :=
  [3, 6, 9, 12, 17, 20, 23, 26, 8].contains stop ||
    match [1, 2, 4, 5, 10, 11, 13, 14, 15, 16, 18, 19, 24, 25, 27, 28].idxOf? stop with
    | some n => bitOn mask n
    | none => false

/-- A slot table entry is rejected (R248). `ccw` tells the ring; its reserved bits are row 1's. -/
def badSlot (mask : Nat) (ccw : Bool) (v : Nat) : Bool :=
  let src := bits v 14 10
  let dst := bits v 9 5
  if bitOn v 15 then
    decide (29 < src) || decide (29 < dst) || src == dst ||
      (if ccw then !(decide (dst < src) && dst != 0 || (src == 0 && dst != 0)) else decide (dst ≤ src)) ||
      !slotStop mask src || !slotStop mask dst
  else src != 0 || dst != 0

/-- A carriage slot table is rejected (R247, R248). -/
def badSlotTable (mask : Nat) (t : Bytes) : Bool :=
  let cw := (List.range 256).map fun i => rd t (2 * i) 2
  let ccw := (List.range 256).map fun i => rd t (512 + 2 * i) 2
  cw.any (badSlot mask false) || ccw.any (badSlot mask true) ||
    decide (192 < (cw.filter (bitOn · 15)).length) || decide (192 < (ccw.filter (bitOn · 15)).length)

/-- Block slots of a memory frame (Table 10.5). -/
def blockSlots (plan : Nat) : Nat := if plan = 0 then 4 else if plan = 1 then 5 else 3

/-- The half of channel c holds a FIXED window. -/
def halfHasFixed (layout : Bytes) (c : Nat) : Bool :=
  (List.range 16).any fun w => wMode (window layout w) == 3 && wHalf (window layout w) == c / 4

/-- A memory slot table is rejected (R262). -/
def badMemTable (layout : Bytes) (plan : Nat) (t : Bytes) : Bool :=
  (List.range 8).any fun c =>
    let v := rd t (2 * c) 2
    decide (2 ^ blockSlots plan ≤ v) || (v != 0 && !halfHasFixed layout c)

/-! ### Stripe groups (R199 to R209, R226) -/

/-- A layer's chain part 0 (or its only chain). -/
def chainOf? (cs : List Chain.Rec) (g l : Nat) : Option Chain.Rec :=
  cs.find? fun r => r.group == g && r.layer == l && !r.part

/-- The stages of a layer's chain, both parts. -/
def layerStages (cs : List Chain.Rec) (g l : Nat) : List Chain.Stage :=
  (cs.filter fun r => r.group == g && r.layer == l).flatMap fun r => r.stages

/-- Pooling of a layer's chain: window and stride, 1 and 1 without (R226). -/
def poolOf (cs : List Chain.Rec) (g l : Nat) : Nat × Nat :=
  match (layerStages cs g l).find? (fun s => s.op == 0x14) with
  | some s => (s.a / 4 % 4, s.a / 16 % 4)
  | none => (1, 1)

/-- Output size on one axis; 0 when R200 allows none. -/
def outSize (n before after e stride : Nat) : Nat := if n + before + after < e then 0 else (n + before + after - e) / stride + 1

/-- Size after pooling (R226); 0 when none fits. -/
def pooled (n : Nat) (p : Nat × Nat) : Nat := if n < p.1 then 0 else (n - p.1) / p.2 + 1

/-- Layer fields break R199 to R201 or hold a reserved value. -/
def badLayer (l : Bytes) : Bool :=
  let op := rd l 15 1
  let unit := rd l 13 1
  let ty := lType l
  let eh := lEh l
  let ew := lEw l
  let in1 := fun (v lo hi : Nat) => decide (lo ≤ v) && decide (v ≤ hi)
  !(in1 (lKh l) 1 15 && in1 (lKw l) 1 15 && in1 (lSh l) 1 8 && in1 (lSw l) 1 8 && in1 (rd l 4 1) 1 8 && in1 (rd l 5 1) 1 8 &&
    decide (eh ≤ 31) && decide (ew ≤ 31) &&
    decide (rd l 6 1 % 16 < eh) && decide (rd l 6 1 / 16 < eh) && decide (rd l 7 1 % 16 < ew) && decide (rd l 7 1 / 16 < ew) &&
    in1 (lCin l) 1 4096 && in1 (lCout l) 1 4096 &&
    (if op = 0 then (unit == 0 && (ty == 0 || ty == 1)) || (unit == 1 && (ty == 1 || ty == 3))
     else if op ≤ 3 then unit == 2 && (ty == 1 || ty == 3) && lCin l == lCout l
     else op == 4 && unit == 1 && (ty == 1 || ty == 3)) &&
    (ty != 0 || in1 (rd l 14 1) 0 7 || in1 (rd l 14 1) 0xF8 0xFF))

/-- Sizes of a layer's output after its pooling, from its input. -/
def layerOut (cs : List Chain.Rec) (g i : Nat) (l : Bytes) (w h : Nat) : Nat × Nat :=
  let p := poolOf cs g i
  (pooled (outSize w (rd l 7 1 % 16) (rd l 7 1 / 16) (lEw l) (lSw l)) p,
   pooled (outSize h (rd l 6 1 % 16) (rd l 6 1 / 16) (lEh l) (lSh l)) p)

/-- Output sizes of the layers from layer i on. -/
def layerOuts (cs : List Chain.Rec) (g : Nat) : Nat → Nat → Nat → List Bytes → List (Nat × Nat)
  | _, _, _, [] => []
  | i, w, h, l :: t =>
    let o := layerOut cs g i l w h
    o :: layerOuts cs g (i + 1) o.1 o.2 t

/-- Bytes of `n` elements of a type. -/
def elemBytes (ty n : Nat) : Nat := (n * fmtBits ty + 7) / 8

/-- The bands of the layers, last first: the band each produces (before pooling), and its input band (R203, R207). -/
def bandsBack (cs : List Chain.Rec) (g : Nat) : Nat → List Bytes → List (Nat × Nat × Nat)
  | _, [] => []
  | sw, l :: t =>
    let i := t.length
    let p := poolOf cs g i
    let wp := (sw - 1) * p.2 + p.1
    let wb := (wp - 1) * lSw l + lEw l
    (sw, wp, wb) :: bandsBack cs g wb t

/-- The bands of the layers in order: output band, band before pooling, input band. -/
def bandsOf (cs : List Chain.Rec) (g : Bytes) : List (Nat × Nat × Nat) :=
  (bandsBack cs (gGroup g) (gStripeW g) (gLayers g).reverse).reverse

/-- The columns of a stripe's band one layer back: what a layer reads to produce its columns `c.1` to `c.2`, within the `w` columns of
the layer before it (R203, R204, R226). -/
def colsBack (l : Bytes) (p : Nat × Nat) (w : Nat) (c : Nat × Nat) : Nat × Nat :=
  (c.1 * p.2 * lSw l - rd l 7 1 % 16, min ((c.2 * p.2 + p.1 - 1) * lSw l + lEw l - 1 - rd l 7 1 % 16) (w - 1))

/-- The bands that layer `k` of a group produces, stripe by stripe: first column and width. `width` is the layer's output width. -/
def stripeCols (cs : List Chain.Rec) (g : Bytes) (k width : Nat) : List (Nat × Nat) :=
  let ls := gLayers g
  let sw := gStripeW g
  let outs := layerOuts cs (gGroup g) 0 (gInW g) (gInH g) ls
  let last := if k + 1 < ls.length then (outs.getLastD (0, 0)).1 else width
  (List.range ((last + sw - 1) / sw)).map fun j =>
    let c := ((List.range ls.length).reverse.takeWhile fun i => decide (k < i)).foldl
      (fun c i => colsBack (ls.getD i []) (poolOf cs (gGroup g) i) ((outs.getD (i - 1) (0, 0)).1) c) (j * sw, min ((j + 1) * sw) last - 1)
    (c.1, c.2 + 1 - c.1)

/-- LB of R207. -/
def lbOf (cs : List Chain.Rec) (g : Bytes) : Nat :=
  let frcIn := rd g 3 1 % 4
  (((gLayers g).zip (bandsOf cs g)).zipIdx.map fun ((l, _, _, wb), i) =>
    let fr := i == 0 && frcIn != 0
    let rows := if fr then lEh l + 8 else lEh l + lSh l
    let w := if fr then wb + 14 else wb
    (elemBytes (lType l) (w * lCin l) + 63) / 64 * 64 * rows).sum

/-- The storage type of a layer's output. -/
def storeType (cs : List Chain.Rec) (g l : Nat) : Nat := ((chainOf? cs g l).map (·.store)).getD 0

/-- The group's output size. -/
def groupOut (cs : List Chain.Rec) (g : Bytes) : Nat × Nat :=
  (layerOuts cs (gGroup g) 0 (gInW g) (gInH g) (gLayers g)).getLastD (0, 0)

/-- The ratio of a group's output: the one that its record declares, or its last chain's COMPRESS. -/
def outRatio (cs : List Chain.Rec) (g : Bytes) : Nat :=
  if rd g 3 1 / 4 % 4 != 0 then rd g 3 1 / 4 % 4
  else match (layerStages cs (gGroup g) (rd g 2 1 - 1)).find? fun s => s.op == 0x16 with
    | some s => s.a
    | none => 0

/-- A stripe group record is rejected (R209). `limit` is the line buffer left on the engines it runs on; `first` tells that its input is a sample or the tensor at IN_ADDR, `out` that its
output goes to OUT_ADDR: neither may be FRC, nor may a tensor that stays in the group (R217). -/
def badGroup (cs : List Chain.Rec) (limit : Nat) (first out : Bool) (g : Bytes) : Bool :=
  let n := rd g 2 1
  let ls := gLayers g
  let fi := rd g 3 1 % 4
  let fo := rd g 3 1 / 4 % 4
  let sw := gStripeW g
  let outs := layerOuts cs (gGroup g) 0 (gInW g) (gInH g) ls
  decide (n = 0) || decide (8 < n) || decide (15 < rd g 3 1) || fi == 3 || fo == 3 ||
    decide (gStripes g = 0) || decide (4096 < gStripes g) || decide (sw = 0) || ls.any badLayer ||
    outs.any (fun o => o.1 == 0 || o.2 == 0) ||
    decide (gStripes g ≠ ((groupOut cs g).1 + sw - 1) / sw) || decide (gLb g ≠ lbOf cs g) || decide (limit < lbOf cs g) ||
    (fi != 0 && !([1, 3].contains (lType (ls.headD [])))) ||
    (fi != 0 && first) || (outRatio cs g != 0 && (out || (sw % 8 != 0 && gStripes g != 1))) ||
    (fo != 0 && !([1, 3].contains (storeType cs (gGroup g) (n - 1)))) ||
    (List.range (n - 1)).any fun i => (layerStages cs (gGroup g) i).any (·.op == 0x16)

/-! ### Chains (R225, R236 to R238) -/

/-- Table bytes of a stage (Table 9.3). -/
def stageTable (r : Chain.Rec) (cin : Nat) (s : Chain.Stage) : Nat :=
  if s.op = 0x03 then 8 * cin
  else if s.op = 0x04 ∨ (s.op = 0x12 ∧ s.a = 3) then 256
  else if s.op = 0x10 ∨ s.op = 0x11 then 4 * r.cOut
  else if s.op = 0x17 then 96
  else 0

/-- A POST block is rejected (Table 9.4). -/
def badPost (p : Bytes) : Bool :=
  decide (3 < rd p 0 1) || decide (3 < rd p 1 1) || rd p 2 2 == 0 || rd p 8 4 == 0 || rd p 12 4 == 0 ||
    decide (rd p 26 2 ≤ rd p 24 2) || rd p 28 1 == 0 || decide (64 < rd p 28 1) || rd p 29 3 != 0 ||
    (slice p 48 16).any (fun b => b != 0)

/-- A stage's own fields are rejected. `ty` is the operand type of the layer. -/
def badStage (img : Bytes) (r : Chain.Rec) (ty cin : Nat) (s : Chain.Stage) : Bool :=
  let needsFmt := !r.storeRound && !([0x15, 0x16, 0x17, 0x18].contains s.op)
  let tb := stageTable r cin s
  !([1, 2, 3, 4, 0x10, 0x11, 0x12, 0x13, 0x14, 0x15, 0x16, 0x17, 0x18].contains s.op) || (needsFmt && decide (6 < s.fmt)) ||
    (if tb = 0 then s.table != 0 else s.table == 0 || decide (img.length < s.table + tb)) ||
    (if s.op = 0x03 then decide (31 < s.a) || (ty == 3 && s.a != 0)
     else if s.op = 0x04 then ty != 1
     else if s.op = 0x11 then decide (62 < s.a)
     else if s.op = 0x12 then decide (3 < s.a)
     else if s.op = 0x13 then bits s.a 7 6 != 0
     else if s.op = 0x14 then decide (1 < s.a % 4) || !([2, 3].contains (s.a / 4 % 4)) || s.a / 16 % 4 == 0 || decide (63 < s.a)
     else if s.op = 0x15 then decide (255 < s.a) || (!fmtIsInt r.store && s.a != 0)
     else if s.op = 0x16 then !([1, 2].contains s.a) || !([1, 3].contains r.store)
     else if s.op = 0x17 then r.store != 1 || badPost (slice img s.table 96)
     else if s.op = 0x18 then decide (15 < s.a)
     else false)

/-- Order class of an epilogue operation: 0 BIAS, 1 SCALE, 2 ACT, RESADD and POOL, 3 QUANT, 4 POST, 5 COMPRESS, 6 SIGN. -/
def opOrder (op : Nat) : Nat :=
  if op = 0x10 then 0 else if op = 0x11 then 1 else if op = 0x12 ∨ op = 0x13 ∨ op = 0x14 then 2
  else if op = 0x15 then 3 else if op = 0x17 then 4 else if op = 0x16 then 5 else 6

/-- Never falling. -/
def ascending : List Nat → Bool
  | a :: b :: t => decide (a ≤ b) && ascending (b :: t)
  | _ => true

/-- The epilogue sequence of R225 is broken. -/
def badOrder (ops : List Nat) : Bool :=
  let n := fun op => (ops.filter (· == op)).length
  !ascending (ops.map opOrder) || decide (1 < n 0x10) || decide (1 < n 0x11) || decide (2 < n 0x12) || decide (1 < n 0x13) ||
    decide (1 < n 0x14) || n 0x15 != 1 || decide (1 < n 0x16) || decide (1 < n 0x17) || decide (1 < n 0x18)

/-- The formats that enter the epilogue stages (R229): `f` enters the first. -/
def inFmts (r : Chain.Rec) : Nat → List Chain.Stage → List Nat
  | _, [] => []
  | f, s :: t => f :: inFmts r (if [0x16, 0x17, 0x18].contains s.op then f else (Chain.target r r.store s).1) t

/-- A LUT8 stage receives another format than INT8. -/
def badLut (r : Chain.Rec) (f : Nat) : Bool :=
  let ss := r.stages.drop r.pro
  (ss.zip (inFmts r f ss)).any fun (s, g) => s.op == 0x12 && s.a == 3 && g != 1

/-- EB_BYTES of R236. -/
def ebOf (r : Chain.Rec) (cin : Nat) : Nat :=
  4096 + (r.stages.map (stageTable r cin)).sum + (if r.stages.any (·.op == 0x17) then 2048 else 0) +
    (if r.split then elemBytes r.splitFmt (2 * r.cOut) else 0)

/-- ROW_BYTES of R237: `wo` the widest output band, `wp` the band before pooling. -/
def rowBytesOf (r : Chain.Rec) (f wo wp : Nat) : Nat :=
  let ss := r.stages.drop r.pro
  ((ss.zip (inFmts r f ss)).map fun (s, g) =>
    if s.op = 0x14 then elemBytes g (s.a / 4 % 4 * wp * r.cOut)
    else if s.op = 0x17 then
      3 * wo * r.cOut
    else if s.op = 0x16 then elemBytes r.store (8 * wo * r.cOut)
    else 0).sum

/-- As R237 has it: only a POST with PEAK keeps rows. -/
def rowNeed (img : Bytes) (r : Chain.Rec) (f wo wp : Nat) : Nat :=
  rowBytesOf { r with stages := r.stages.filter fun s => s.op != 0x17 || bitOn (rd img (s.table + 1) 1) 0 } f wo wp

/-- One chain record is rejected, on the layer it names (R225). -/
def badChain (img : Bytes) (part : Part) (r : Chain.Rec) : Bool :=
  let cs := part.chains
  match part.group? r.group with
  | none => true
  | some g =>
    if rd g 2 1 ≤ r.layer then true
    else
      let l := (gLayers g).getD r.layer []
      let fl := lType l == 3
      let (wo, wp, _) := (bandsOf cs g).getD r.layer (0, 0, 0)
      let first := if r.part then ((chainOf? cs r.group r.layer).map (·.splitFmt)).getD 0 else r.acc
      let pros := r.stages.take r.pro
      let epis := r.stages.drop r.pro
      let whole := (layerStages cs r.group r.layer).filter fun s => decide (0x10 ≤ s.op)
      decide (3 < r.pro) || r.epi == 0 || decide (8 < r.epi) || decide (8 < r.pro + r.epi) || decide (31 < r.mode) ||
        r.acc != (if fl then 5 else 2) || !([0, 1, 3, 4].contains r.store) || r.reserved != 0 ||
        pros.any (fun s => decide (0x10 ≤ s.op)) || epis.any (fun s => decide (s.op < 0x10)) ||
        r.stages.any (badStage img r (lType l) (lCin l)) || badOrder (whole.map (·.op)) ||
        (r.storeRound && !(whole.any (·.op == 0x11))) || badLut r first || r.cOut != lCout l ||
        r.eb != ebOf r (lCin l) || r.rows != rowNeed img r first wo wp ||
        -- R238
        (r.split && (r.part || decide (6 < r.splitFmt) || epis.any (fun s => decide (0x15 ≤ s.op)) ||
          !(cs.any fun q => q.group == r.group && q.layer == r.layer && q.part && q.mode % 8 == r.mode % 8 &&
            q.acc == r.acc && q.store == r.store && q.cOut == r.cOut) ||
          (epis.getLast?.map fun s => (Chain.target r r.store s).1) != some r.splitFmt)) ||
        (!r.split && r.splitFmt != 0) ||
        (r.part && (r.pro != 0 || epis.any (·.op == 0x10) ||
          !(cs.any fun q => q.group == r.group && q.layer == r.layer && q.split && !q.part))) ||
        -- R239
        ((r.arrival || r.region != 0xFFFF) && (arrival? img r.region).isNone)

/-- The chains of a job are rejected: a record, a layer without exactly one chain, or a sum limit of R236 and R237. -/
def badPart (img : Bytes) (p : Part) : Bool :=
  let cs := p.chains
  cs.any (badChain img p) || p.groups.any fun g =>
    let of := cs.filter fun r => r.group == gGroup g
    ((List.range (rd g 2 1)).any fun i => (of.filter fun r => r.layer == i && !r.part).length != 1 ||
      decide (1 < (of.filter fun r => r.layer == i && r.part).length)) ||
    decide (131072 < (of.map (·.eb)).sum) || decide (1048576 < (of.map (·.rows)).sum)

/-- The stream contexts whose samples a part's job reads: those of its regions, or the one that the job binds. -/
def partCtxs (img : Bytes) (i : Nat) : List Nat :=
  let job := (groupJobs img).getD i 0xFFFF
  if partition img = 1 then
    (((regions img).filter fun r => Config.jobReads img (rRegion r) job).map rContext).filter (· < 24)
  else (((jobs img).filter fun j => jJob j == job).map jBind).filter (· < 24)

/-- The chains of an image are rejected. A POST stage needs input from a line-scan sample: `area` holds the contexts that are open on another source (R233). -/
def badChains (img : Bytes) (area : List Nat) : Bool :=
  (parts img).zipIdx.any fun (p, i) =>
    badPart img p || (p.chains.any (fun r => r.stages.any (·.op == 0x17)) && !(partCtxs img i).isEmpty && (partCtxs img i).all area.contains)

/-! ### Arrival regions (R239) -/

/-- An arrival region record is rejected. -/
def badArrival (fixedMask : Nat) (a : Bytes) : Bool :=
  aUnits a == 0 || decide (4096 < aUnits a) || decide (aUnitBytes a < 64) || decide (8192 < aUnitBytes a) ||
    aUnitBytes a % 64 != 0 || decide (15 < aEngine a) || aSource a == 0 || decide (3 < aSource a) ||
    (bitOn fixedMask (aEngine a) && aSource a != 1) || !(bitOn (aBase a) 63 && decide (bits (aBase a) 62 41 = 0))

/-- The arrival regions of an image are rejected. -/
def badArrivals (img : Bytes) (fixedMask : Nat) : Bool :=
  (arrivals img).any (badArrival fixedMask) || (List.range 16).any fun e =>
    decide (4096 < (((arrivals img).filter fun a => aEngine a == e).map aUnits).sum)

/-! ### Shared rows -/

/-- A table lies inside the image at a multiple of 64 bytes. -/
def tableOk (b : Bytes) (off size : Nat) : Bool := size == 0 || (off % 64 == 0 && decide (off + size ≤ b.length))

/-- CRC of an image, with bytes 12 to 15 taken as zero. -/
def crcOf (b : Bytes) : Nat := crc32c (b.take 12 ++ [0, 0, 0, 0] ++ b.drop 16)

/-- All zero. -/
def zeros (b : Bytes) (off n : Nat) : Bool := (slice b off n).all fun x => x == 0

/-- The reserved bits [4:0] of every slot table entry are 0. -/
def slotBitsZero : Bytes → Bool
  | a :: _ :: t => a.toNat % 32 == 0 && slotBitsZero t
  | _ => true

/-- Row 1 of Table 11.5, for a partition. -/
def row1 (b : Bytes) (stagedLength part : Nat) : Bool :=
  decide (rd b 0 4 ≠ 0x315A5349) || decide (rd b 4 2 ≠ 1) || decide (rd b 16 2 ≠ 0x5316) || partition b != part ||
    decide (length b < 4096) || decide (268435456 < length b) || length b != stagedLength || length b != b.length ||
    decide (rd b 12 4 ≠ crcOf b) ||
    decide (1 < rd b 7 1) || decide (4 < variants b) || !zeros b 23 1 || !zeros b 73 3 || !zeros b 92 4 ||
    (part == 1 && !zeros b 80 16) || decide (256 < jobCount b) || decide (16 < regionCount b) ||
    !(tableOk b (layoutOff b) (if part = 1 then 128 else 0) && tableOk b (jobOff b) (16 * jobCount b) &&
      tableOk b (regionOff b) (16 * regionCount b) && tableOk b (groupOff b) ((groups b).map groupSize).sum &&
      tableOk b (chainOff b) ((chains b).map (·.size)).sum && tableOk b (arrivalOff b) (16 * arrivalCount b) &&
      tableOk b (placeOff b) (16 * placeCount b) &&
      (part == 1 || (tableOk b (taskOff b) (16 * taskCount b) && tableOk b (phaseOff b) (32 * phaseCount b))) &&
      ((variantRecs b).all fun v => tableOk b (vCheckOff v) (16 * vCheckCount v) && tableOk b (vCrgOff v) 1024 &&
        tableOk b (vMemOff v) 16 && tableOk b (rd v 20 4) (rd v 24 4) && tableOk b (vPatrolOff v) (8 * vPatrolCount v) &&
        decide (vLevel v ≤ 3) && decide (vPlan v ≤ 2) && vMaxArrays v != 0 && decide (vMaxArrays v ≤ 96) &&
        vCheckCount v != 0 && decide (vCheckCount v ≤ 1024) && rd v 24 4 != 0 && decide (vPatrolCount v ≤ 4096) &&
        zeros v 3 1 && zeros v 38 26 && ((checkpoints b v).all fun c => decide (cSlot c ≤ 15) && decide (rd c 4 1 ≤ 1) &&
          zeros c 5 3 && zeros c 12 4) && slotBitsZero (slice b (vCrgOff v) 1024)) &&
      ((regions b).all fun r => decide (rRegion r ≤ 15) && zeros r 3 1) &&
      ((placements b).all fun p => decide (pEngine p ≤ 15) && decide (pArray p ≤ 15) && zeros p 2 2 && zeros p 12 4 &&
        tableOk b (pOff p) weightSize) &&
      (part == 0 || (jobs b).all fun j => zeros j 4 4) && (part == 1 || (tasks b).all fun t => zeros t 5 1))

/-- What the module knows when it checks an image: the running firmware build, the ENG_BUDGET values of PL0 to PL3, the layout in
effect (`none` before one is), whether PERSIST is set or the image is checked at a start, the engine masks of the other partition's
images in effect and staged in the same set, which arrays are UNUSABLE, the module's own ID, and the stream contexts that are open on another source than a line-scan camera. -/
structure Env where
  stagedLength : Nat
  fwBuild : Nat
  budgets : List Nat
  layout : Option Bytes
  persist : Bool
  otherMasks : List Nat
  unusable : List (Nat × Nat)
  moduleId : Nat
  area : List Nat := []
  deriving DecidableEq, Repr

/-- The intake regions of an engine, in bytes; in pair mode its mirror's too (R153, Table 11.3). -/
def intakeBytes (b : Bytes) (e : Nat) : Nat :=
  (((regions b).filter fun r => rEngine r == e || (pair b && rEngine r + 8 == e)).map rBytes).sum

/-- The line buffer left on the engines to which group record k's stripes are assigned (R207, R209). -/
def lbLimit (b : Bytes) (k : Nat) : Nat :=
  (List.range 16).foldl (fun m e => if intakeBytes b e = 0 then m else if bitOn (Config.groupEngines b k).toNat e then min m (524288 - intakeBytes b e) else m) 524288

/-- Group, chain and arrival rows: the cause, if a record is rejected. -/
def recordCause (b : Bytes) (fixedMask : Nat) (area : List Nat) : Option Nat :=
  if (groups b).zipIdx.any fun (g, k) =>
      badGroup (partAround b k).chains (lbLimit b k) (firstGroup? b (jobOfGroup b k) == some g) (outRatio (partAround b k).chains g != 0 && Config.writesOut b k) g
    then some Cause.STRIPE_TABLE_INVALID
  else if badChains b area || badArrivals b fixedMask then some Cause.CHAIN_TABLE_INVALID
  else none

/-- A placement names an engine outside the mask or an UNUSABLE array, or its weight image fails (row 9, row 7). -/
def badPlacement (b : Bytes) (env : Env) (p : Bytes) : Bool :=
  !bitOn (mask b) (pEngine p) || env.unusable.contains (pEngine p, pArray p) || !weightOk (weightAt b p) ||
    rd (weightAt b p) 8 4 != pCrc p

/-- Strictly rising. -/
def rising : List Nat → Bool
  | a :: b :: t => decide (a < b) && rising (b :: t)
  | _ => true

/-- Chainring cycles of one 5 ns row-phase slot at a plan (Table 2.6). -/
def cyclesPerSlot (plan : Nat) : Nat := if plan = 0 then 6 else if plan = 1 then 4 else 3

/-- Row reads that a variant's patrol windows give an array. -/
def patrolReads (b v : Bytes) : Nat :=
  ((recs b (vPatrolOff v) (vPatrolCount v) 8).map fun w => rd w 4 4 / cyclesPerSlot (vPlan v)).sum

/-- The clock plan of a level (Table 2.4). -/
def planOf (level : Nat) : Nat := if level = 0 then 0 else if level ≤ 2 then 1 else if level = 3 then 2 else 3

/-! ### Fixed-gear images (Table 11.5) -/

/-- Row 10: a region's place. -/
def badRegion (b : Bytes) (r : Bytes) : Bool :=
  let lb := (((groups b).zipIdx.filter fun (_, k) => bitOn (Config.groupEngines b k).toNat (rEngine r)).map
    fun (g, k) => lbOf (partAround b k).chains g).foldl max 0
  (decide (23 < rContext r) && rContext r != 0xFF) || !bitOn (mask b) (rEngine r) || (pair b && decide (7 < rEngine r)) ||
    decide (524288 < rLbOffset r + rBytes r + lb)

/-- The first row of Table 11.5 that rejects an image, with its cause. -/
def checkFixed (b : Bytes) (env : Env) : Option (Nat × Nat) :=
  let m := mask b
  let vs := variantRecs b
  let invalid := fun row => some (Cause.IMAGE_INVALID, row)
  if row1 b env.stagedLength 1 then invalid 1
  else if env.fwBuild < rd b 18 2 then invalid 2
  else if m = 0 ∧ (variants b ≠ 0 ∨ jobCount b ≠ 0 ∨ regionCount b ≠ 0 ∨ groupCount b ≠ 0 ∨ chainCount b ≠ 0 ∨
      arrivalCount b ≠ 0 ∨ placeCount b ≠ 0 ∨ pair b) then invalid 3
  else if (pair b && m / 256 != m % 256) || env.otherMasks.any (fun o => o &&& m != 0) then invalid 4
  else if m ≠ 0 ∧ (variants b = 0 ∨ jobCount b = 0 ∨ (variantFor b 0).isNone ∨
      vs.any (fun v => decide (1 < (vs.filter fun w => vLevel w == vLevel v).length)) ∨
      vs.any (fun v => vPlan v != planOf (vLevel v) || decide (env.budgets.getD (vLevel v) 0 < vMaxArrays v)) ∨
      vs.any (fun v => (List.range 16).any fun r => bitOn (vRegions v) r && (region? b r).isNone)) then invalid 5
  else if badLayout (layout b) then some (Cause.LAYOUT_INVALID, 6)
  else if (env.layout.any fun l => l != layout b) && !env.persist then some (Cause.LAYOUT_CHANGE, 6)
  else if vs.any (fun v => badSlotTable m (slice b (vCrgOff v) 1024) ||
      badMemTable (layout b) (vPlan v) (slice b (vMemOff v) 16)) then some (Cause.SLOT_TABLE_INVALID, 7)
  else match recordCause b m env.area with
  | some c => some (c, 8)
  | none =>
    if (placements b).any (badPlacement b env) || (pair b && (placements b).any fun p => decide (pEngine p < 8) &&
        !((placements b).any fun q => pEngine q == pEngine p + 8 && pArray q == pArray p && pCrc q == pCrc p)) then invalid 9
    else if (regions b).any (badRegion b) then invalid 10
    else if m ≠ 0 ∧ !Config.opaqueRowOk b 11 then invalid 11
    else if m ≠ 0 ∧ !Config.opaqueRowOk b 12 then invalid 12
    else if vs.any (fun v =>
        let cs := checkpoints b v
        !rising (cs.map cCycle) || cs.any (fun c => decide (vCycles v < cCycle c)) ||
          cs.any (fun c => !bitOn m (cEngine c))) ||
        (jobs b).any (fun j => !(vs.any fun v => (checkpoints b v).any fun c => cJob c == jJob j && cDecision c))
      then invalid 13
    else if placeCount b ≠ 0 ∧ vs.any (fun v => decide (patrolReads b v < 512)) then invalid 14
    else if (if m = 0 then testRegion b != 0xFF
        else !((region? b (testRegion b)).any fun r => rContext r == 0xFF)) then invalid 15
    else none

/-! ### Freewheel images (Tables 12.3, 13.3) -/

/-- Job entries break Table 12.1 (row 4). -/
def badJobs (b : Bytes) : Bool :=
  let js := jobs b
  js.isEmpty || js.any (fun j => decide (jFallback j ≠ 0xFFFF) || (decide (23 < jBind j) && jBind j != 0xFF) ||
      decide (7 < jPriority j) || (decide (31 < jContext j) && jContext j != 0xFF) ||
      decide ((jContext j = 0xFF) ≠ (jBind j = 0xFF)) || decide (3 < rd j 7 1) || jDeadline j == 0 ||
      decide (10000000000 < jDeadline j)) ||
    js.any fun j => jBind j != 0xFF && js.any fun k => jBind k == jBind j && jContext k != jContext j

/-- A task's group runs a layer on the arrays. -/
def usesArrays (b t : Bytes) : Bool :=
  tGroup t != 0xFFFF && (((partOf b (tJob t)).group? (tGroup t)).any fun g => (gLayers g).any fun l => rd l 13 1 == 0)

/-- Tasks break row 5. -/
def badTasks (b : Bytes) : Bool :=
  taskCount b == 0 || decide (4096 < taskCount b) ||
  (jobs b).any (fun j =>
    let ts := jobTasks b (jJob j)
    ts.isEmpty || !((List.range (waveCount b (jJob j))).all fun w => ts.any fun t => tWave t == w)) ||
  (tasks b).any fun t => (tEngine t != 0xFF && (decide (15 < tEngine t) || !bitOn (mask b) (tEngine t))) ||
    (tEngine t == 0xFF && usesArrays b t) || decide (63 < tWave t) || rd t 12 4 == 0

/-- Phase fields out of range (row 9). -/
def badPhase (p : Bytes) : Bool :=
  let shards := fun n => decide (n = 0) || decide (1024 < n)
  decide (63 < phNum p) || decide (1 < rd p 3 1) || decide (63 < phLast p) || decide (phLast p < phFirst p) ||
    decide (phMembers p = 0) || decide (1024 < phMembers p) || !zeros p 30 2 ||
    (phNum p != 0 && (decide (2 < rd p 4 1) || decide (2 < rd p 5 1) || shards (rd p 6 2) || shards (rd p 8 2) ||
      !([1, 3].contains (rd p 18 1)) || decide (2 < rd p 19 1) || rd p 20 2 == 0 || rd p 22 2 == 0 || rd p 24 2 == 0))

/-- The waves of a job's phases follow one another (row 9). -/
def phasesCover (ps : List Bytes) (waves : Nat) : Bool :=
  ps.zipIdx.all (fun (p, i) => phNum p == i && phFirst p == (if i = 0 then 0 else phLast (ps.getD (i - 1) []) + 1)) &&
    ((ps.getLast?.map fun p => phLast p + 1) == some waves)

/-- No repeats. -/
def distinct : List Nat → Bool
  | [] => true
  | a :: t => !t.contains a && distinct t

/-- A KIND's shard rule (row 12). -/
def badShards (kind shards members w c frc : Nat) : Bool :=
  if kind = 2 then shards != 1
  else
    let n := if kind = 0 then w else c
    shards % members != 0 || n % shards != 0 || (frc != 0 && (n / shards) % 8 != 0)

/-- P of R324, for the largest piece of a phase. -/
def pieceUnits (p : Bytes) (unitBytes : Nat) : Nat :=
  let w := rd p 22 2
  let c := rd p 24 2
  let sk := rd p 4 1
  let dk := rd p 5 1
  let m := phMembers p
  -- the widest box that a member holds under one kind and another needs under the other
  let pw := if sk = 0 ∧ dk = 0 then min (w / m) (w / m) else if sk = 0 ∨ dk = 0 then w / m else w
  let pc := if sk = 1 ∧ dk = 1 then c / m else if sk = 1 ∨ dk = 1 then c / m else c
  (Cells.bytes (rd p 18 1) (rd p 19 1) (rd p 20 2) pw pc + unitBytes - 1) / unitBytes

/-- The first row of Table 13.3 that rejects an image. -/
def checkPhases (b : Bytes) (env : Env) : Option Nat :=
  let ps := phases b
  let jobsWith := (jobs b).filter fun j => !(jobPhases b (jJob j)).isEmpty
  if decide (4096 < phaseCount b) || ps.any badPhase || jobsWith.any (fun j =>
      !phasesCover (jobPhases b (jJob j)) (waveCount b (jJob j))) then some 9
  else if ps.any (fun p => if phNum p = 0 then phExchange p || !zeros p 4 6 || !zeros p 18 8 || phRegion p != 0xFFFF
      else !phExchange p) then some 10
  else if jobsWith.any (fun j =>
      let qs := jobPhases b (jJob j)
      let h := qs.headD []
      let off := phMemberOff h
      let ms := members b off
      qs.any (fun q => phMemberOff q != off || phMembers q != phMembers h || phBarrier q != phBarrier h) ||
        rd b off 2 != jJob j || ms.length != phMembers h || !zeros b (off + 4) 4 || ms.any (fun m => decide (1023 < m)) ||
        !distinct ms || !ms.contains env.moduleId) then some 11
  else if ps.any (fun p => phNum p != 0 &&
      (badShards (rd p 4 1) (rd p 6 2) (phMembers p) (rd p 22 2) (rd p 24 2) (rd p 19 1) ||
       badShards (rd p 5 1) (rd p 8 2) (phMembers p) (rd p 22 2) (rd p 24 2) (rd p 19 1))) then some 12
  else if ps.any (fun p => phExchange p && match arrival? b (phRegion p) with
      | none => true
      | some a => !bitOn (mask b) (aEngine a) || decide (aUnits a < phMembers p * pieceUnits p (aUnitBytes a)) ||
          !bitOn (aSource a) 0 || (decide (1 < phMembers p) && !bitOn (aSource a) 1)) then some 13
  else none

/-! ### The Truing directory (R335 to R337) -/

/-- Where the Truing directory starts (R336). -/
def truOff (b : Bytes) : Nat := (taskOff b + 16 * taskCount b + 63) / 64 * 64
/-- The Truing schedule records (Table 14.2). -/
def truRecs (b : Bytes) : List Bytes := recs b (truOff b + 64) (rd b (truOff b + 4) 2) 64

/-- A finite FP32 value above 0. -/
def fpPositive (v : Nat) : Bool := !fnonFinite v && flt 0 v

/-- A record breaks Table 14.2 or R335 (row 15). -/
def badTruRec (r : Bytes) : Bool :=
  let kind := rd r 0 1
  let target := rd r 2 1
  let pb := rd r 4 2
  let eb := rd r 6 2
  let rb := rd r 8 4
  let mask := rd r 44 4
  kind = 0 || decide (3 < kind) || decide (1 < rd r 1 1) ||
    (if kind = 1 then decide (23 < target) else if kind = 3 then decide (3 < target) else target != 0) ||
    !zeros r 3 1 || !zeros r 52 12 || pb = 0 || decide (4096 < pb) || decide (pb ≤ eb) || decide (1024 < pb - eb) ||
    rb = 0 || decide (65536 < rb) || decide (rd r 12 4 < pb) || decide (9 * pb < rd r 12 4) || decide (131072 < rd r 24 4) ||
    (bitOn (rd r 1 1) 0 && !fpPositive (rd r 36 4)) ||
    (if kind = 3 then !fpPositive (rd r 40 4) else rd r 40 4 != 0) ||
    (if kind = 2 then decide (2 ^ 24 ≤ mask) || decide (((List.range 24).filter (bitOn mask)).length < 2) else mask != 0)

/-- The first row of Table 14.3 that rejects an image. -/
def checkTruing (b : Bytes) : Option Nat :=
  let off := truOff b
  let n := rd b (off + 4) 2
  let rs := truRecs b
  if rd b off 4 ≠ 0x54525544 ∨ 256 < n ∨ length b < off + 64 + 64 * n then some 14
  else if rs.any badTruRec || !zeros b (off + 6) 58 || !Config.opaqueRowOk b 15 then some 15
  else if rs.any (fun r => rd r 0 1 == 3 && (rd r 4 2 != rd r 6 2 + 1 || rd r 8 4 != 2 * rd r 6 2)) || !Config.opaqueRowOk b 16 then some 16
  else none

/-- The first row of Tables 12.3, 13.3 and 14.3 that rejects an image, with its cause. -/
def checkFree (b : Bytes) (env : Env) : Option (Nat × Nat) :=
  let m := mask b
  let invalid := fun row => some (Cause.FW_IMAGE_INVALID, row)
  if row1 b env.stagedLength 0 || decide (env.fwBuild < rd b 18 2) then invalid 1
  else if m = 0 ∨ pair b ∨ variants b ≠ 0 ∨ regionCount b ≠ 0 ∨ layoutOff b ≠ 0 ∨ testSig b ≠ 0 ∨ testRegion b ≠ 0xFF then
    invalid 2
  else if env.otherMasks.any (fun o => o &&& m != 0) then invalid 3
  else if badJobs b then invalid 4
  else if badTasks b then invalid 5
  else match recordCause b (env.otherMasks.foldl (· ||| ·) 0) env.area with
  | some c => some (c, 6)
  | none =>
    if (placements b).any (badPlacement b env) || !distinct ((placements b).map fun p => 16 * pEngine p + pArray p) then
      invalid 7
    else if !Config.opaqueRowOk b 8 then invalid 8
    else match checkPhases b env with
    | some r => invalid r
    | none => (checkTruing b).map fun row => (Cause.TRUING_DIR_INVALID, row)

end Image
end Sys2Proof.Machine
end

