-- ==== Sys2Proof/Machine/MvmMath.lean ====
section
/-! DEFINITION. The matrix-vector product of one array: row-phases, converter codes, accumulators and the check lane (R174 to
R178, R182 to R184). -/
namespace Sys2Proof.Machine

namespace MvmMath

/-- The 4-bit cell at row r, column c of a CELLS area (Table 7.1). -/
def cell (cells : List Byte) (r c : Nat) : Int :=
  let b := (cells.getD (256 * r + c / 2) 0).toNat
  toSigned 4 (if c % 2 = 0 then b % 16 else b / 16)

/-- The step exponent k for d driven rows (R177). -/
def stepExp (d : Nat) : Nat := if 7 * d ≤ 127 then 0 else if 7 * d ≤ 254 then 1 else if 7 * d ≤ 508 then 2 else 3

/-- Bit-planes of an input: 8 for INT8, 4 for INT4 (R175). -/
def planes (int4 : Bool) : Nat := if int4 then 4 else 8

/-- Weight of plane b (R175). -/
def planeWeight (int4 : Bool) (b : Nat) : Int := if b + 1 = planes int4 then -(2 ^ b : Nat) else (2 ^ b : Nat)

/-- The rows whose bit b is one. -/
def ones (int4 : Bool) (x : List Int) (b : Nat) : List Nat :=
  (List.range x.length).filter fun r => bitOn (ofSigned (planes int4) (x.getD r 0)) b

/-- Runs of n elements. -/
def chunks {α : Type} (n : Nat) : Nat → List α → List (List α)
  | 0, _ => []
  | k + 1, l => if l.isEmpty then [] else l.take n :: chunks n k (l.drop n)

/-- The row-phases of a plane: fixed mode always 4, adaptive mode as many as the ones need (R176). -/
def phases (fixed : Bool) (rows : List Nat) : List (List Nat) :=
  if fixed then (List.range 4).map fun q => rows.filter fun r => decide (r / 128 = q) else chunks 128 4 rows

/-- Nearest integer to n / 2^k, ties away from zero (R177). -/
def codeOf (n : Int) (k : Nat) : Int :=
  let q := (n.natAbs + 2 ^ k / 2) / 2 ^ k
  max (-128) (min 127 (if n < 0 then -(q : Int) else (q : Int)))

/-- The ideal column sum of the driven rows. -/
def colSum (cells : List Byte) (rows : List Nat) (c : Nat) : Int := (rows.map fun r => cell cells r c).sum

/-- One row-phase: its plane and the rows it drives. -/
structure Phase where
  plane : Nat
  rows : List Nat
  deriving DecidableEq, Repr

/-- All row-phases of an MVM in order. -/
def allPhases (fixed int4 : Bool) (x : List Int) : List Phase :=
  (List.range (planes int4)).flatMap fun b => (phases fixed (ones int4 x b)).map fun r => ⟨b, r⟩

/-- What the analog columns add to the ideal code: (row-phase, column, difference). -/
abbrev Errs := List (Nat × Nat × Int)

/-- The code of column c in row-phase i. -/
def code (cells : List Byte) (errs : Errs) (i : Nat) (p : Phase) (c : Nat) : Int :=
  let e := ((errs.filter fun e => e.1 == i && e.2.1 == c).map fun e => e.2.2).sum
  max (-128) (min 127 (codeOf (colSum cells p.rows c) (stepExp p.rows.length) + e))

/-- B(k) of R183. -/
def bound (k tol : Nat) : Nat := 32 * 2 ^ k + 4 * tol

/-- The stored sum of row r over group g: `sums` holds 8 group sums for each row (R182). -/
def groupSum (sums : List (List Int)) (r g : Nat) : Int := (sums.getD r []).getD g 0

/-- The sums that the module computes from the cells (R182). -/
def sumsOf (cells : List Byte) : List (List Int) :=
  (List.range 512).map fun r => (List.range 8).map fun g =>
    ((List.range 64).map fun i => cell cells r (64 * g + i)).sum

/-- The row sums that the module computes from the cells (R182). -/
def rowsOf (cells : List Byte) : List Int := (sumsOf cells).map List.sum

/-- The stored sums as bytes: 512 row sums, then the 8 vectors of group sums, each a signed 16-bit value (R182; their order is DEDUCED, log entry 172). -/
def sumBytes (rows : List Int) (sums : List (List Int)) : List Byte :=
  ((List.range 512).flatMap fun r => leBytes 2 (ofSigned 16 (rows.getD r 0))) ++
    (List.range 8).flatMap fun g => (List.range 512).flatMap fun r => leBytes 2 (ofSigned 16 (groupSum sums r g))

/-- Residual of group g in a row-phase: observed minus expected sum (R183). -/
def residual (cells : List Byte) (sums : List (List Int)) (errs : Errs) (i : Nat) (p : Phase) (g : Nat) : Int :=
  let k := stepExp p.rows.length
  ((List.range 64).map fun j => code cells errs i p (64 * g + j) * (2 ^ k : Nat)).sum -
    (p.rows.map fun r => groupSum sums r g).sum

/-- The accumulator of column c after all row-phases (R178). -/
def acc (cells : List Byte) (int4 : Bool) (errs : Errs) (ps : List Phase) (c : Nat) : Int :=
  (ps.zipIdx.map fun (p, i) =>
    code cells errs i p c * (2 ^ stepExp p.rows.length : Nat) * planeWeight int4 p.plane).sum

/-- Does a group verdict of R183 fail? -/
def groupFails (cells : List Byte) (sums : List (List Int)) (errs : Errs) (ps : List Phase) (tol : Nat) : Bool :=
  ps.zipIdx.any fun (p, i) => (List.range 8).any fun g =>
    decide (bound (stepExp p.rows.length) tol < (residual cells sums errs i p g).natAbs)

/-- Does the MVM verdict of R184 fail? -/
def mvmFails (cells : List Byte) (rows : List Int) (int4 : Bool) (x : List Int) (errs : Errs) (ps : List Phase)
    (tol : Nat) : Bool :=
  let obs := ((List.range 512).map fun c => acc cells int4 errs ps c).sum
  let exp := ((List.range x.length).map fun r =>
    toSigned (planes int4) (ofSigned (planes int4) (x.getD r 0)) * rows.getD r 0).sum
  let lim := (ps.map fun p => 8 * bound (stepExp p.rows.length) tol * (planeWeight int4 p.plane).natAbs).sum
  decide (lim < (obs - exp).natAbs)

/-- The combination of a pair's accumulators (R174). -/
def combine (hi lo : Int) : Int := 15 * hi + lo

/-- The high part of an 8-bit weight: the integer nearest to w / 15 (R174). -/
def highOf (w : Int) : Int := (w + 7) / 15

/-- The accumulator of a healthy column whose cells are `w` (R176 to R178). -/
def column (fixed int4 : Bool) (x w : List Int) : Int :=
  ((allPhases fixed int4 x).map fun p =>
    max (-128) (min 127 (codeOf ((p.rows.map fun r => w.getD r 0).sum) (stepExp p.rows.length))) * (2 ^ stepExp p.rows.length : Nat) *
      planeWeight int4 p.plane).sum

/-- One row block times a column of weights: 4-bit ones in one array, or 8-bit ones in a pair (R174). -/
def product (fixed int4 wide : Bool) (x w : List Int) : Int :=
  if wide then combine (column fixed int4 x (w.map highOf)) (column fixed int4 x (w.map fun v => v - 15 * highOf v)) else column fixed int4 x w

end MvmMath

end Sys2Proof.Machine
end

