-- ==== Sys2Proof/Machine/Sets.lean ====
section
/-! DEFINITION. Staging sets: access (R102). -/
namespace Sys2Proof.Machine

/-- Staging set `k`. -/
def State.set (s : State) (k : Nat) : StageSet := s.hif.sets.get (fun _ => {}) k

/-- Set staging set `k`. -/
def State.setSet (s : State) (k : Nat) (x : StageSet) : State :=
  { s with hif := { s.hif with sets := s.hif.sets.put (fun _ => {}) k x } }

end Sys2Proof.Machine
end

