-- ==== Sys2Proof/Machine/EncOps.lean ====
section
/-! DEFINITION. The Spoke unit: encoder channels, speed, compare lists, edge placement, generators and outputs (chapter 15). -/
namespace Sys2Proof.Machine

/-! ### Access -/

/-- Encoder channel n. -/
def State.chan (s : State) (n : Nat) : Chan := s.spk.chans.get (fun _ => {}) n
/-- Set encoder channel n. -/
def State.setChan (s : State) (n : Nat) (c : Chan) : State :=
  { s with spk := { s.spk with chans := s.spk.chans.put (fun _ => {}) n c } }
/-- Output o: 0 to 7 ACT, 8 to 11 TRG. -/
def State.out (s : State) (o : Nat) : Out := s.spk.outs.get (fun _ => {}) o
/-- Set output o. -/
def State.setOut (s : State) (o : Nat) (x : Out) : State :=
  { s with spk := { s.spk with outs := s.spk.outs.put (fun _ => {}) o x } }
/-- Generator g. -/
def State.gen (s : State) (g : Nat) : Gen := s.spk.gens.get (fun _ => {}) g
/-- Set generator g. -/
def State.setGen (s : State) (g : Nat) (x : Gen) : State :=
  { s with spk := { s.spk with gens := s.spk.gens.put (fun _ => {}) g x } }

/-- The mode of a channel (Table 15.1). -/
def State.encMode (s : State) (n : Nat) : Nat := s.fget (Fld.SPK_ENCn_CFG_MODE n)
/-- CPM in effect (R370), unsigned 32.32. -/
def State.cpm (s : State) (n : Nat) : Nat := s.word64 (Reg.SPK_ENCn_CPM_EFFECT n)
/-- The channels that name a generator. -/
def State.genChan (s : State) (g : Nat) : Nat := s.fget (Fld.SPK_GENg_CFG_SOURCE g)

/-- The Spoke unit runs from ST19 on, while the fast domain has power. -/
def State.spokeOn (s : State) : Bool :=
  s.start.st19Passed && (decide (s.sup.power = .starting) || decide (s.sup.power = .ready) || decide (s.sup.power = .active))

/-- The present position of the encoder channel of line-trigger generator g, and its coarse flag. -/
def State.genPosition (s : State) (g : Nat) : Int × Bool := let c := s.chan (s.genChan g); (c.pos, c.coarse)

/-! ### Arithmetic -/

/-- n / d to the nearest integer, ties away from zero. -/
def roundAway (n : Int) (d : Nat) : Int :=
  if 0 ≤ n then (2 * n + d) / (2 * d) else -((2 * (-n) + d) / (2 * d))

/-- n / d rounded toward zero. -/
def towardZero (n : Int) (d : Nat) : Int := if 0 ≤ n then n / d else -((-n) / d)

/-- +1 for rising, −1 for falling. -/
def sigma (rising : Bool) : Int := if rising then 1 else -1

/-! ### Outputs (R367 to R369, R372, R373) -/

/-- Is the output on? (R369) -/
def Out.on (x : Out) : Bool := x.latch || !x.pulses.isEmpty

/-- Record the new state of an output, with the edge if it changed, at a time in steps of 250 ps; a change ends a running test pulse. -/
def State.putOut (s : State) (o : Nat) (x : Out) (q : Nat) : State :=
  let was := (s.out o).on
  if x.on = was then s.setOut o x
  else
    let s := s.setOut o { x with onSince := if x.on then q else x.onSince, testing := none }
    { s with spk := { s.spk with edges := (o, x.on, q) :: s.spk.edges } }

/-- May the output be switched on? Not while it or the actuator supply is out of service, nor in the hold after an overload (Table 18.4, R372). -/
def State.outAllowed (s : State) (o : Nat) : Bool :=
  let x := s.out o
  !x.hold && !x.latched && !s.brk.outRegions.contains (9, o) && !(decide (o < 8) && s.brk.outRegions.contains (10, 0))

/-- Switch an output off: latch and pulses end. -/
def State.outOff (s : State) (o : Nat) : State := s.putOut o { s.out o with latch := false, pulses := [] } (4 * s.now)

/-- Every output is de-energised (R63, R455). -/
def State.outsOff (s : State) : State := (List.range 12).foldl State.outOff s

/-- A later pulse with a time width extends a running one to the later end (R369). -/
def addTimePulse (t : Nat) : List Pulse → List Pulse
  | [] => [.time t]
  | .time u :: r => .time (max t u) :: r
  | p :: r => p :: addTimePulse t r

/-- What an entry does to an output at an edge at time `q`: 0 PULSE, 1 SET, 2 CLEAR (R369). `trigger` is the trigger position at firing. -/
def State.drive (s : State) (o ch : Nat) (e : CmpEntry) (trigger : Int) (q : Nat) : State :=
  if 8 ≤ o ∧ s.fget (Fld.SPK_TRGn_CFG_SRC (o - 8)) = 1 then s
  else
    let x := s.out o
    let flags := rd e.bytes 26 1
    let rising := !bitOn flags 0
    let width := rd e.bytes 28 4
    match flags / 2 % 4 with
    | 2 => s.putOut o { x with latch := false, pulses := [] } q
    | 1 => if s.outAllowed o then s.putOut o { x with latch := true } q else s
    | _ =>
      if !s.outAllowed o then s
      else if width / 2 ^ 31 = 1 then
        s.putOut o { x with pulses := x.pulses ++ [.count ch (trigger + sigma rising * ((width % 2 ^ 31 : Nat) : Int)) rising] } q
      else s.putOut o { x with pulses := addTimePulse (q + 4000 * width) x.pulses } q

/-- The lead d of an output in ns for an edge that switches it on or off: the driver delays of Table 19.12 for ACT, 0 for TRG (R367). -/
def leadNs (o : Nat) (turnOn : Bool) : Nat := if 8 ≤ o then 0 else if turnOn then 2000 else 3000

/-- Count-width pulses of a channel end at a reversal or a standstill (R369). -/
def State.endCounts (s : State) (ch : Nat) : State :=
  (List.range 12).foldl (fun s o =>
    let x := s.out o
    s.putOut o { x with pulses := x.pulses.filter fun p => match p with | .count c _ _ => c != ch | .time _ => true } (4 * s.now)) s

/-! ### Compare entries (R361 to R366) -/

/-- The outputs that an entry names: its mask. -/
def CmpEntry.mask (e : CmpEntry) : Nat := rd e.bytes 24 2
/-- Rising entry? -/
def CmpEntry.up (e : CmpEntry) : Bool := !bitOn (rd e.bytes 26 1) 0
/-- The sample that an entry names. -/
def CmpEntry.sample (e : CmpEntry) : Nat := rd e.bytes 8 8

/-- Does an entry break the layout? (R362) -/
def badEntry (b : List Byte) : Bool :=
  let flags := rd b 26 1
  let mask := rd b 24 2
  decide (mask = 0) || decide (2 ^ 12 ≤ mask) || decide (16 ≤ flags) || decide (flags / 2 % 4 = 3) || decide (rd b 27 1 ≠ 0) ||
    (decide (flags / 2 % 4 = 0) && decide (rd b 28 4 % 2 ^ 31 = 0)) || decide (24 ≤ rd b 8 8 / 2 ^ 59)

/-- The lead L in counts (R363). -/
def State.entryLead (s : State) (speed : Int) (e : CmpEntry) : Int :=
  if bitOn (rd e.bytes 26 1) 3 && e.mask % 256 != 0 then
    let us := (List.range 8).foldl (fun m o => if bitOn e.mask o then max m (s.fget (Fld.SPK_ACTn_CFG_LEAD_US o)) else m) 0
    roundAway (((speed.natAbs * us : Nat)) : Int) 1000000
  else 0

/-- The trigger position T = B − σ × L at the channel's present speed (R363). -/
def State.trigger (s : State) (ch : Nat) (e : CmpEntry) : Int := e.base - sigma e.up * s.entryLead (s.chan ch).speed e

/-- Entries that a list holds at most. -/
def listSize : Nat := 8192

/-- Count discarded entries. -/
def State.cmpDrops (s : State) (ch k : Nat) : State := if k = 0 then s else s.bump (Fld.SPK_ENCn_CMP_DROPS_DISCARDED ch) k

/-- What acceptance makes of a well-formed entry (R363, R364): no scale, late, or the entry to be listed. -/
inductive Accepted where
  | noScale | late | entry (e : CmpEntry)
  deriving DecidableEq, Repr

/-- Fix the base position of an entry, and see whether it is late (R363, R364). -/
def State.acceptEntry (s : State) (ch : Nat) (b : List Byte) : Accepted :=
  let dist := rdInt b 16 4
  if dist ≠ 0 ∧ s.cpm ch = 0 then .noScale
  else
    let up := !bitOn (rd b 26 1) 0
    let x := rd b 20 4
    let e : CmpEntry := {
      bytes := b
      base := rdInt b 0 8 + sigma up * roundAway (dist * (s.cpm ch : Int)) (1000000 * 2 ^ 32)
      expiry := if x = 0xFFFFFFFF then none else some (if x = 0 then s.word (Reg.SPK_ENCn_EXPIRY ch) else x) }
    if sigma up * (s.trigger ch e - (s.chan ch).pos) ≤ 0 then .late else .entry e

/-- LATE_ACTUATION with its count and channel, in the channel's region (R364). -/
def State.raiseLate (s : State) (ch k : Nat) : State :=
  if k = 0 then s else (s.cmpDrops ch k).raiseIn Cause.LATE_ACTUATION 8 ch (k + 2 ^ 32 * ch)

/-- The outcome of a batch: entries listed, entries late, entries without a scale. -/
def State.sortEntries (s : State) (ch : Nat) : List (List Byte) → List CmpEntry × Nat × Nat
  | [] => ([], 0, 0)
  | b :: t =>
    let (es, l, n) := s.sortEntries ch t
    match s.acceptEntry ch b with
    | .noScale => (es, l, n + 1)
    | .late => (es, l + 1, n)
    | .entry e => (e :: es, l, n)

/-- Posted entries of one sample (R234, R362): bad ones and those without room are discarded with a notice each. -/
def State.postOne (s : State) (ch : Nat) (b : List Byte) : State × Nat :=
  let c := s.chan ch
  if badEntry b then ((s.cmpDrops ch 1).raise Cause.CMP_BAD_ENTRY, 0)
  else
    match s.acceptEntry ch b with
    | .noScale => ((s.cmpDrops ch 1).raise Cause.CMP_NO_SCALE, 0)
    | .late => (s, 1)
    | .entry e =>
      if listSize ≤ c.entries.length then ((s.cmpDrops ch 1).raise Cause.CMP_LIST_FULL, 0)
      else (s.setChan ch { c with entries := c.entries ++ [e] }, 0)

/-- Post the entries queued for one sample on one channel: in FAULT they are discarded with CMP_DISCARDED; a channel that is off takes none (R359, R362). -/
def State.postEntries (s : State) (ch : Nat) (es : List (List Byte)) : State :=
  if es.isEmpty then s
  else if s.encMode ch = 0 then s
  else if (s.chan ch).fault then (s.cmpDrops ch es.length).raise Cause.CMP_DISCARDED
  else
    let (s, late) := es.foldl (fun (s, l) b => let (s', k) := s.postOne ch b; (s', l + k)) (s, 0)
    s.raiseLate ch late

/-- Post the queue of a sample, given as (list, entry) in order: one posting per channel (R234). -/
def State.postQueue (s : State) (q : List (Nat × List Byte)) : State :=
  (List.range 4).foldl (fun s ch => s.postEntries ch ((q.filter fun p => p.1 == ch).map (·.2))) s

/-- Would an entry of the queue be discarded as late? (R304) -/
def State.postsLate (s : State) (q : List (Nat × List Byte)) : Bool :=
  q.any fun p => decide (s.encMode p.1 ≠ 0) && !(s.chan p.1).fault && !badEntry p.2 && decide (s.acceptEntry p.1 p.2 = .late)

/-- Clear the list of a channel without a notice (R366). -/
def State.cmpClear (s : State) (ch : Nat) : State :=
  let c := s.chan ch
  (s.cmpDrops ch c.entries.length).setChan ch { c with entries := [] }

/-- Clear every list (DISCARD_COMPARE, R455). -/
def State.cmpClearEvery (s : State) : State := (List.range 4).foldl State.cmpClear s

/-- An entry's crossing condition holds at a position: σ × (p − T) ≥ 0 and the direction is the entry's (R365). -/
def crossed (rising dirRising : Bool) (p t : Int) : Bool := decide (0 ≤ sigma rising * (p - t)) && rising == dirRising

/-- The predicted crossing of T, in steps of 250 ps after the sample, when the placement is predictive (R367): MODE 1, MOVING, at least 100,000 counts/s. -/
def State.predicted (s : State) (ch : Nat) (t : Int) : Option Nat :=
  let c := s.chan ch
  if s.encMode ch = 1 ∧ c.st = .moving ∧ 100000 ≤ c.speed.natAbs then
    let d := (256 * (t - c.pos) - c.frac) * sigma (0 < c.speed)
    if 0 ≤ d then some ((d.toNat * 4000000000 * 2 / (256 * c.speed.natAbs) + 1) / 2) else none
  else none

/-- The greatest lead among the outputs of an entry, in ns. -/
def CmpEntry.maxLead (e : CmpEntry) : Nat :=
  (List.range 12).foldl (fun m o => if bitOn e.mask o then max m (leadNs o (rd e.bytes 26 1 / 2 % 4 != 2)) else m) 0

/-- When the entry fires at the present sample, the time of its edges in steps of 250 ps after the sample: `some (some q)` predictive, `some none` direct, `none` it
does not fire (R365, R367). One that was deferred fires at the next update, in direct mode, while the direction is its own (R368). -/
def State.fires (s : State) (ch : Nat) (e : CmpEntry) : Option (Option Nat) :=
  let c := s.chan ch
  let t := s.trigger ch e
  let d := e.maxLead
  let pre := if e.imprecise || e.up != c.rising then none else
    match s.predicted ch t with
    | some q => if 4 * (500 + d) ≤ q ∧ q < 4 * (600 + d) then some q else none
    | none => none
  if s.encMode ch = 0 then none
  else match pre with
  | some q => some (some q)
  | none => if crossed e.up c.rising c.pos t || (e.imprecise && e.up == c.rising) then some none else none

/-- The first pending entry that fires now, with its time and its index; `skip` leaves out those deferred to the next update. -/
def State.nextFire (s : State) (ch : Nat) (skip : Bool) : List CmpEntry → Nat → Option (Nat × CmpEntry × Option Nat)
  | [], _ => none
  | e :: t, i =>
    match if skip && e.imprecise then none else s.fires ch e with
    | some q => some (i, e, q)
    | none => s.nextFire ch skip t (i + 1)

/-- The entry drives its outputs at time `q` (250 ps), and is counted (R365). -/
def State.fireEntry (s : State) (ch i : Nat) (e : CmpEntry) (q : Nat) : State :=
  let t := s.trigger ch e
  let c := s.chan ch
  let s := s.setChan ch { c with entries := c.entries.eraseIdx i, fires := c.fires + 1 }
  let s := (s.bump (Fld.SPK_ENCn_FIRED_COUNT ch)).setWord64 (Reg.SPK_ENCn_LAST_ID ch) e.sample
  (List.range 12).foldl (fun s o => if bitOn e.mask o then s.drive o ch e t q else s) s

/-- One entry fires: the first in acceptance order. A seventeenth at one update waits for the next, in direct mode (R368). `direct` is the delay of a direct edge
after the sample, in steps of 250 ps. -/
def State.compareFire (s : State) (ch direct : Nat) : State :=
  let c := s.chan ch
  if !s.spokeOn || c.fault then s
  else
    match s.nextFire ch (decide (16 ≤ c.fires)) c.entries 0 with
    | none => s
    | some (i, e, q) =>
      if 16 ≤ c.fires then (s.setChan ch { c with entries := setAt c.entries i { e with imprecise := true } }).bump (Fld.SPK_ENCn_CMP_DROPS_IMPRECISE ch)
      else s.fireEntry ch i e (4 * c.at' + q.getD direct)

/-! ### Position and speed (R353, R360) -/

/-- The speed window in samples of 100 ns. -/
def State.window (s : State) (ch : Nat) : Nat := 1000 * s.fget (Fld.SPK_ENCn_CFG_WINDOW ch)

/-- Windowed speed (R360): from the position N samples ago. -/
def Chan.windowed (c : Chan) (n : Nat) : Int :=
  towardZero ((c.pos - c.hist.getD (n - 1) c.exitP) * 10000000) n

/-- Speed, direction and references after the position `p` of the sample at `t` (Table 15.4), with a window of `n` samples and the standstill time `hold` in ns; the flag tells
of a reversal or a standstill. The samples since the last that no command gave found no movement (log entry 190). -/
def Chan.track (c : Chan) (p : Int) (t n hold : Nat) : Chan × Bool :=
  let still := (t - c.at') / 100 - 1
  let c := { c with
    hist := ((List.replicate (min n (still + 1)) c.pos) ++ c.hist).take n, pos := p, at' := t, fires := 0, nearT := if still ≠ 0 ∧ c.nearP = c.pos then t - 100 else c.nearT }
  match c.st with
  | .standstill =>
    if 2 ≤ (p - c.pRef).natAbs then
      ({ c with rising := decide (c.pRef < p), st := .settling, speed := 0, exitP := c.nearP, exitT := c.nearT
                pA := p, tA := t, pExt := p, nearP := p, nearT := t }, false)
    else ({ c with speed := 0, nearP := p, nearT := t }, false)
  | st =>
    let c := if 2 ≤ (p - c.pA).natAbs then { c with pA := p, tA := t } else c
    let sg := sigma c.rising
    if 2 ≤ sg * (c.pExt - p) then
      ({ c with rising := !c.rising, st := .settling, speed := 0, exitP := c.nearP, exitT := c.nearT, pExt := p, nearP := p, nearT := t }, true)
    else
      let c := { c with pExt := if 0 < sg * (p - c.pExt) then p else c.pExt, nearP := p, nearT := t }
      if hold ≤ t - c.tA then ({ c with st := .standstill, speed := 0, pRef := c.pA }, true)
      else if st = .moving ∨ 100 * n ≤ t - c.exitT then ({ c with st := .moving, speed := c.windowed n }, false)
      else ({ c with speed := towardZero ((p - c.exitP) * 1000000000) (t - c.exitT) }, false)

/-- The speed state becomes STANDSTILL: speed 0, p_ref = p_a; count-width pulses end (Table 15.4, R369). -/
def State.standstill (s : State) (ch : Nat) : State :=
  let c := s.chan ch
  (s.setChan ch { c with st := .standstill, speed := 0, pRef := c.pA, nearP := c.pos, nearT := c.at' }).endCounts ch

/-- One sample of a channel (R353, R360, R363, R366): `delta` counts in MODE 1, quadrature edges in MODE 2, `frac` the 8 bits below the count. -/
def State.encSample (s : State) (ch : Nat) (delta : Int) (frac : Nat) : State :=
  let c := s.chan ch
  if !s.spokeOn || decide (s.encMode ch = 0) || c.fault then s
  else
    let t := max (c.at' + 100) s.now
    let s := s.passUntil t
    let d := (if s.encMode ch = 2 then 1024 * delta else delta) * (if s.fget (Fld.SPK_ENCn_CFG_INVERT ch) = 1 then -1 else 1)
    let (c', turned) := c.track (c.pos + d) t (s.window ch) (10000000 * s.fget (Fld.SPK_ENCn_CFG_STANDSTILL_MS ch))
    let c' := { c' with frac := frac % 256, entries := c'.entries.map fun e => { e with travel := e.travel + d.natAbs } }
    let s := s.setChan ch c'
    if turned then s.endCounts ch else s

/-- The MODE of a channel has changed: it begins in STANDSTILL at its position, and a channel with MODE 0 stays there (R353, R360). -/
def State.modeWritten (s : State) (ch : Nat) : State :=
  let c := s.chan ch
  (s.setChan ch { c with
    st := .standstill, speed := 0, at' := s.now, pRef := c.pos, pA := c.pos, tA := s.now, pExt := c.pos, nearP := c.pos, nearT := s.now, hist := [] }).endCounts ch

/-! ### Marks, faults and sleep (R355 to R359) -/

/-- REF_PERIOD of a channel. -/
def State.refPeriod (s : State) (ch : Nat) : Nat :=
  let p := s.fget (Fld.SPK_ENCn_REF_REF_PERIOD ch)
  if p = 0 then 16777216 else p

/-- The position, the pending entries and the generators on the channel move by Δ (R356). -/
def State.shiftChan (s : State) (ch : Nat) (d : Int) : State :=
  let c := s.chan ch
  let s := s.setChan ch { c with pos := c.pos + d, entries := c.entries.map fun e => { e with base := e.base + d } }
  (List.range 4).foldl (fun s g =>
    if s.genChan g = ch then
      let x := s.gen g
      s.setGen g { x with a := x.a + d, ref2 := x.ref2 + 2 * d, last := x.last.map (· + d) }
    else s) s

/-- A change to FINE raises ENC_REQUALIFIED with Δ (R355). -/
def State.requalified (s : State) (ch : Nat) (d : Int) : State :=
  (s.setChan ch { s.chan ch with coarse := false }).raise Cause.ENC_REQUALIFIED (ofSigned 64 d)

/-- A mark crossing on a channel (R356). -/
def State.mark (s : State) (ch : Nat) : State :=
  let c := s.chan ch
  let per := s.refPeriod ch
  let ph := (c.pos % (per : Int)).toNat
  if !s.spokeOn || decide (s.encMode ch = 0) || c.fault then s
  else
    match c.phase with
    | none =>
      let s := s.setChan ch { c with phase := some ph }
      if c.coarse then s.requalified ch 0 else s
    | some l =>
      let up := (l + per - ph) % per
      if c.coarse then
        let d : Int := if 2 * up ≤ per then (up : Int) else (up : Int) - per
        (s.shiftChan ch d).requalified ch d
      else if s.fget (Fld.SPK_ENCn_REF_REF_TOL ch) < min up (per - up) then s.raise Cause.REF_DEVIATION
      else s

/-- Generators on a channel stop; they resume beyond the position at which they stopped (R359, R371). -/
def Gen.stopAt (x : Gen) (dir : Nat) (p : Int) : Gen :=
  { x with ref2 := if dir = 0 then max x.ref2 (2 * p) else if dir = 1 then min x.ref2 (2 * p) else 2 * p }

/-- Stop the generators of a channel. -/
def State.stopGens (s : State) (ch : Nat) : State :=
  (List.range 4).foldl (fun s g =>
    if s.genChan g = ch then s.setGen g ((s.gen g).stopAt (s.fget (Fld.SPK_GENg_CFG_DIR g)) (s.chan ch).pos) else s) s

/-- A signal fault (R359). -/
def State.encFault (s : State) (ch : Nat) : State :=
  let c := s.chan ch
  if !s.spokeOn || decide (s.encMode ch = 0) || c.fault then s
  else
    let s := (s.cmpDrops ch c.entries.length).stopGens ch
    let s := s.setChan ch { c with fault := true, faultAt := s.now, speed := 0, st := .standstill, entries := [] }
    let s := s.raiseIn Cause.ENC_SIGNAL_FAULT 8 ch
    let s := if c.entries.isEmpty then s else s.raise Cause.CMP_DISCARDED
    s.endCounts ch

/-- Does the line frequency of a MODE 1 channel lie above 550 kHz, 225.28 counts a sample, for 1 µs? (Table 15.3) -/
def Chan.tooFast (c : Chan) : Bool :=
  let l := c.pos :: c.hist.take 10
  decide (l.length = 11) && (l.zip (l.drop 1)).all fun q => decide (22528 < 100 * (q.1 - q.2).natAbs)

/-- The frequency supervision of a channel after a sample (R358). -/
def State.encFast (s : State) (ch : Nat) : State := if s.encMode ch = 1 ∧ (s.chan ch).tooFast = true then s.encFault ch else s

/-- The channel leaves FAULT, COARSE, in STANDSTILL, unless it is out of service: every condition has been clear for 10 ms (R359, Table 18.4). -/
def State.encFaultEnd (s : State) (ch : Nat) : State :=
  let c := s.chan ch
  if !c.fault || s.brk.outRegions.contains (8, ch) then s
  else
    let s := s.passUntil (c.faultAt + 10000000)
    (s.setChan ch { c with
      fault := false, coarse := true, st := .standstill, speed := 0, at' := s.now
      pRef := c.pos, pA := c.pos, tA := s.now, nearP := c.pos, nearT := s.now, hist := [] }).endHandling 8 ch

/-- Write the position store (R356). -/
def State.storePositions (s : State) : State :=
  { s with spk := { s.spk with
      store := (List.range 4).map fun n => let c := s.chan n; (c.pos, c.rising, c.phase)
      storeOk := true } }

/-- A channel begins at a position, in STANDSTILL. -/
def State.beginChan (s : State) (ch : Nat) (p : Int) (rising : Bool) (phase : Option Nat) : State :=
  s.setChan ch { (({} : Chan)) with
    pos := p, rising, phase, at' := s.now, pRef := p, pA := p, tA := s.now, pExt := p, nearP := p, nearT := s.now }

/-- What the store holds for a channel. -/
def State.stored (s : State) (ch : Nat) : Int × Bool × Option Nat := s.spk.store.getD ch (0, true, none)

/-- Every channel starts from the store, COARSE (ST19, start from Off). -/
def State.startChans (s : State) : State :=
  (List.range 4).foldl (fun s n => let (p, r, f) := s.stored n; s.beginChan n p r f) s

/-- Every channel starts at 0, COARSE (ST19's alternate, and a Doze wake with an invalid store). -/
def State.zeroChans (s : State) : State := (List.range 4).foldl (fun s n => s.beginChan n 0 true none) s

/-- The restore of a wake (R357): `fine` is ENC0's fine phase. -/
def State.wakeChans (s : State) (fine : Nat) : State :=
  let s := s.startChans
  let (p, r, f) := s.stored 0
  let pw := p + 1024 * s.sup.coarse
  if s.encMode 0 = 0 then s
  else if s.encMode 0 = 2 then (s.beginChan 0 pw r f).requalified 0 0
  else
    let up := (((fine : Int) - pw) % 4096)
    let d := if up ≤ 2048 then up else up - 4096
    if d.natAbs ≤ 1024 then (s.beginChan 0 (pw + d) r f).requalified 0 d else s.beginChan 0 pw r f

/-! ### Generators (R371) -/

/-- The spacing S in 16.16 counts: in UNIT 1 from micrometres by the channel's CPM; 0 stops the generator. -/
def State.spacing (s : State) (g : Nat) : Nat :=
  let x := s.word (Reg.SPK_GENg_SPACING g)
  if s.fget (Fld.SPK_GENg_CFG_UNIT g) = 0 then x
  else (roundAway (((x * s.cpm (s.genChan g) : Nat)) : Int) (1000000 * 2 ^ 32)).toNat

/-- Point j. -/
def Gen.point (x : Gen) (j : Int) : Int := x.a + (j * x.s + 0x8000) / 65536

/-- n / d rounded up. -/
def ceilDiv (n : Int) (d : Nat) : Int := -((-n) / d)

/-- The next point in a direction: rising, the first strictly beyond ref2 / 2 (never below A with DIR 0); falling, the last strictly below it (never above A with
DIR 1). -/
def Gen.next (x : Gen) (dir : Nat) (rising : Bool) : Int :=
  if rising then
    let j := ceilDiv ((x.ref2 / 2 + 1 - x.a) * 65536 - 0x8000) x.s
    x.point (if dir = 0 then max 0 j else j)
  else
    let y := -((-x.ref2) / 2) - 1
    let j := ceilDiv ((y - x.a + 1) * 65536 - 0x8000) x.s - 1
    x.point (if dir = 1 then min 0 j else j)

/-- Does a point lie beyond END? With DIR 2, beyond is the side of END away from A. -/
def State.beyondEnd (s : State) (g : Nat) (p : Int) : Bool :=
  let e := s.word64 (Reg.SPK_GENg_END g)
  let z := toSigned 64 e
  e != 0 && (let up := match s.fget (Fld.SPK_GENg_CFG_DIR g) with | 0 => true | 1 => false | _ => decide ((s.gen g).a ≤ z)
    if up then decide (z < p) else decide (p < z))

/-- Take up the committed set-up of a generator: `fresh` is its enabling (A, and points beyond the present position); else a change of spacing rebases A at the last point
fired (R371). -/
def State.genCommit (s : State) (g : Nat) : State :=
  let x := s.gen g
  let on := s.fget (Fld.SPK_GENg_CFG_ENABLE g) == 1
  let sp := s.spacing g
  let p := (s.chan (s.genChan g)).pos
  let start := s.word64 (Reg.SPK_GENg_START g)
  if !on then s.setGen g { x with running := false }
  else if sp < 65536 then
    if x.running || x.s ≠ sp then (s.setGen g { x with running := false, s := sp }).raise Cause.CMP_NO_SCALE else s
  else if !x.running then
    s.setGen g { x with
      running := true, s := sp, a := if start = 2 ^ 63 then p else toSigned 64 start, ref2 := 2 * p, last := none }
  else if x.s ≠ sp then s.setGen g { x with s := sp, a := x.last.getD x.a }
  else s

/-- Take up the set-up of every generator. -/
def State.genCommits (s : State) : State := (List.range 4).foldl State.genCommit s

/-- The next point of generator g, if it fires now (R371): position, direction, and the predicted time of its edge. -/
def State.genFires (s : State) (g : Nat) : Option (Int × Bool × Option Nat) :=
  let x := s.gen g
  let ch := s.genChan g
  let c := s.chan ch
  let dir := s.fget (Fld.SPK_GENg_CFG_DIR g)
  if !x.running || c.fault || !s.spokeOn || decide (s.encMode ch = 0) || decide (x.s = 0) || (dir == 0 && !c.rising) || (dir == 1 && c.rising) then none
  else
    let p := x.next dir c.rising
    if s.beyondEnd g p then none
    else
      match s.predicted ch p with
      | some q => if 2000 ≤ q ∧ q < 2400 then some (p, c.rising, some q) else if crossed c.rising c.rising c.pos p then some (p, c.rising, none) else none
      | none => if crossed c.rising c.rising c.pos p then some (p, c.rising, none) else none

/-- A point's pulse on TRG output g, when it follows the generator: a point inside the previous pulse merges into it and counts as an overrun, raised once per second
(R371, R373). -/
def State.genPulse (s : State) (g q : Nat) : State :=
  let o := 8 + g
  if s.fget (Fld.SPK_TRGn_CFG_SRC g) ≠ 1 then s
  else
    let x := s.out o
    let w := 40 * s.fget (Fld.SPK_TRGn_CFG_WIDTH_10NS g)
    let busy := x.pulses.any fun p => match p with | .time u => decide (q < u) | _ => false
    if busy then
      let s := s.bump (Fld.SPK_GENg_OVERRUN_COUNT g)
      let y := s.gen g
      let s := s.putOut o { x with pulses := addTimePulse (q + w) x.pulses } q
      match y.overAt with
      | some t => if s.now < t + 1000000000 then s else (s.setGen g { y with overAt := some s.now }).raise Cause.GEN_OVERRUN
      | none => (s.setGen g { y with overAt := some s.now }).raise Cause.GEN_OVERRUN
    else if s.outAllowed o then s.putOut o { x with pulses := addTimePulse (q + w) (x.pulses.filter fun p => match p with | .time _ => false | _ => true) } q
    else s

end Sys2Proof.Machine
end

