-- ==== Sys2Proof/Machine/IntakeMath.lean ====
section
/-! DEFINITION. The tensor intake's arithmetic, to the bit: crop, flips, rotation, resize, quantisation and layout (R154,
R156 to R160). An image is a list of rows, a row a list of pixels, a pixel the list of its channels. -/
namespace Sys2Proof.Machine

/-- An image of pixels. -/
abbrev Img := List (List (List Nat))

namespace IntakeMath

/-- The pixel at column x, row y. -/
def at' (g : Img) (x y : Nat) : List Nat := (g.getD y []).getD x []

/-- An image of size w × h by a rule for each pixel. -/
def build (w h : Nat) (f : Nat → Nat → List Nat) : Img :=
  (List.range h).map fun y => (List.range w).map fun x => f x y

/-- Crop of w × h pixels at (x0, y0). -/
def crop (g : Img) (x0 y0 w h : Nat) : Img := ((g.drop y0).take h).map fun r => (r.drop x0).take w

/-- Flips of ORIENT[0] and [1] (R157). -/
def flip (g : Img) (horiz vert : Bool) : Img :=
  let g := if horiz then g.map List.reverse else g
  if vert then g.reverse else g

/-- Clockwise rotation by 90r degrees of a w × h image (R157). -/
def rotate (g : Img) (w h r : Nat) : Img :=
  if r = 0 then g
  else if r = 1 then build h w fun x y => at' g y (h - 1 - x)
  else if r = 2 then build w h fun x y => at' g (w - 1 - x) (h - 1 - y)
  else build h w fun x y => at' g (w - 1 - y) x

/-- Source index of the nearest resize, for input size a and output size b (R158). -/
def nearest (a b x : Nat) : Nat := (2 * x + 1) * a / (2 * b)

/-- U of the bilinear resize, clamped to 0 … 256 (a − 1). -/
def bilinearU (a b x : Nat) : Nat := min ((2 * x + 1) * a * 128 / b - 128) (256 * (a - 1))

/-- The bilinear result at (x, y) of an aw × ah image resized to w × h, channel c. -/
def bilinear (g : Img) (aw ah w h x y c : Nat) : Nat :=
  let u := bilinearU aw w x
  let v := bilinearU ah h y
  let i := u / 256
  let f := u % 256
  let j := v / 256
  let e := v % 256
  let i1 := min (i + 1) (aw - 1)
  let j1 := min (j + 1) (ah - 1)
  let p := fun i j => (at' g i j).getD c 0
  (p i j * (256 - f) * (256 - e) + p i1 j * f * (256 - e) + p i j1 * (256 - f) * e + p i1 j1 * f * e + 32768) / 65536

/-- Overlap of output index x with source index k, for input size a and output size b (R158, area). -/
def overlap (a b x k : Nat) : Nat := min ((x + 1) * a) ((k + 1) * b) - max (x * a) (k * b)

/-- Source indices that output index x overlaps. -/
def covered (a b x : Nat) : List Nat := (List.range a).filter fun k => decide (0 < overlap a b x k)

/-- The area result at (x, y), channel c. -/
def area (g : Img) (aw ah w h x y c : Nat) : Nat :=
  let sum := ((covered ah h y).map fun l => ((covered aw w x).map fun k =>
    (at' g k l).getD c 0 * overlap aw w x k * overlap ah h y l).sum).sum
  (sum + aw * ah / 2) / (aw * ah)

/-- Resize (R158): 0 none, 1 nearest, 2 bilinear, 3 area (Table 4.15). -/
def resize (g : Img) (mode chans aw ah w h : Nat) : Img :=
  if mode = 0 then g
  else if mode = 1 then build w h fun x y => at' g (nearest aw w x) (nearest ah h y)
  else if mode = 2 then build w h fun x y => (List.range chans).map (bilinear g aw ah w h x y)
  else build w h fun x y => (List.range chans).map (area g aw ah w h x y)

/-- The element type's size in bytes: 1 INT8, 3 BF16. -/
def elemSize (type : Nat) : Nat := if type = 3 then 2 else 1

/-- One converted element (R159): INT8 as a byte value, BF16 as its bits. -/
def quant (type scale zp v : Nat) : Nat :=
  let s := ffma (fofInt v) scale zp
  if type = 3 then bf16.ofF32 s else ofSigned 8 (ftoInt s false (-128) 127)

/-- The default quantisation entry for pipeline output of n bits (R160). -/
def defaultQuant (type n : Nat) : Nat × Nat :=
  if type = 3 then (fdiv (fofInt 1) (fofInt (2 ^ n - 1 : Nat)), 0)
  else (fp32.packInt 1 (8 - (n : Int)), fofInt (-128))

/-- ROW_BYTES of R154. -/
def rowBytes (w c type : Nat) : Nat := (w * c * elemSize type + 63) / 64 * 64

/-- Bytes of padding after a row. -/
def rowPad (w c type : Nat) : Nat := rowBytes w c type - w * c * elemSize type

/-- The tensor bytes of an image (R15, R154): rows in order, each followed by its padding, whose bytes are undefined: `pad i`
is the i-th such byte of the tensor. -/
def tensor (g : Img) (w c type : Nat) (table : List (Nat × Nat)) (pad : Nat → Byte) : List Byte :=
  g.zipIdx.flatMap fun (row, y) =>
    (row.flatMap fun p => (List.range c).flatMap fun i =>
      let q := table.getD i (0, 0)
      leBytes (elemSize type) (quant type q.1 q.2 (p.getD i 0))) ++
    (List.range (rowPad w c type)).map fun i => pad (y * rowPad w c type + i)

end IntakeMath

end Sys2Proof.Machine
end

