-- ==== Sys2Proof/Machine/Streams.lean ====
section
/-! DEFINITION. Stream contexts and the tensor intake: contexts, parameters, program checks, slots and converter units, tiling
(chapters 5 and 6). -/
namespace Sys2Proof.Machine

/-! ### Access -/

/-- Stream context n. -/
def State.ctx (s : State) (n : Nat) : Ctx := s.cams.ctxs.get (fun _ => {}) n

/-- Set stream context n. -/
def State.setCtx (s : State) (n : Nat) (c : Ctx) : State :=
  { s with cams := { s.cams with ctxs := s.cams.ctxs.put (fun _ => {}) n c } }

/-- Camera k. -/
def State.cam (s : State) (k : Nat) : CxpCam := s.cams.cxp.get (fun _ => {}) k

/-- Set camera k. -/
def State.setCam (s : State) (k : Nat) (c : CxpCam) : State :=
  { s with cams := { s.cams with cxp := s.cams.cxp.put (fun _ => {}) k c } }

/-- Sensor k. -/
def State.sensor (s : State) (k : Nat) : Sensor := s.cams.sensors.get (fun _ => {}) k

/-- Set sensor k. -/
def State.setSensor (s : State) (k : Nat) (x : Sensor) : State :=
  { s with cams := { s.cams with sensors := s.cams.sensors.put (fun _ => {}) k x } }

/-- Decoder context k. -/
def State.dec (s : State) (k : Nat) : Decoder := s.cams.decs.get (fun _ => {}) k

/-- Set decoder context k. -/
def State.setDec (s : State) (k : Nat) (x : Decoder) : State :=
  { s with cams := { s.cams with decs := s.cams.decs.put (fun _ => {}) k x } }

/-- Does context c take its data from the source? CHANNEL is ignored for PATH 0 and 2 (R115). -/
def Ctx.from? (c : Ctx) (path port chan : Nat) : Bool :=
  decide (c.state ≠ .free) && c.path == path && c.port == port && (path != 1 || c.channel == chan)

/-- The context bound to a source (R114). -/
def State.ctxOf (s : State) (path port chan : Nat) : Option Nat :=
  (List.range 24).find? fun n => (s.ctx n).from? path port chan

/-- The sensor of a context. -/
def Ctx.sensorNo (c : Ctx) : Nat := 4 * c.port + c.channel

/-- The set-up registers of a context's source whose values it takes from its own boundaries on (R142). -/
def Ctx.frontRegs (c : Ctx) : List Nat :=
  if c.path = 0 then [Reg.CXP_CAMn_CFG c.port]
  else if c.path = 1 then [Reg.APY_Sn_CFG c.sensorNo]
  else [Reg.DEC_Cc_RATE c.port, Fld.DEC_CONFIG_SILENT_MS.off]

/-- A set-up field of a source as it is in effect for it: until the boundary of its context after a commit, the old one (R142). -/
def State.srcFld (s : State) (path port chan : Nat) (f : Fld) : Nat :=
  match s.ctxOf path port chan with
  | some n => bits ((s.ctx n).front.get (fun o => BitVec.ofNat 32 (s.word o)) f.off).toNat f.hi f.lo
  | none => s.fget f

/-- The field of camera k, of sensor k and of decoder context k in effect. -/
def State.camFld (s : State) (k : Nat) (f : Fld) : Nat := s.srcFld 0 k 0 f
def State.sensorFld (s : State) (k : Nat) (f : Fld) : Nat := s.srcFld 1 (k / 4) (k % 4) f
def State.decFld (s : State) (k : Nat) (f : Fld) : Nat := s.srcFld 2 k 0 f

/-- A committed word has replaced `old`: every RUNNING context whose source it sets up keeps the old one until its boundary (R142). -/
def State.keepFront (s : State) (off old : Nat) : State :=
  (List.range 24).foldl (fun s n =>
    let c := s.ctx n
    if c.state = .running ∧ c.frontRegs.contains off ∧ (c.front.all fun e => e.1 != off) then
      s.setCtx n { c with front := c.front.keep (fun o => decide (o < off)) ++ (off, BitVec.ofNat 32 old) :: c.front.keep (fun o => decide (off < o)) }
    else s) s

/-- A context that takes data: WAITING or RUNNING, and not one whose STREAM_CLOSE only waits for emission (R116). -/
def Ctx.open? (c : Ctx) : Bool :=
  (decide (c.state = .waiting) || decide (c.state = .running)) && !(c.closing.isSome && c.frame.isNone)

/-- The sample ID of a context and sequence number (R13). -/
def sampleId (n seq : Nat) : Nat := n * 2 ^ 59 + seq % 2 ^ 59

/-! ### Pipeline parameters (R140 to R142) -/

/-- Channels that a parameter set outputs (R154). -/
def State.outChannels (s : State) (profile : Nat) : Nat := if s.fget (Fld.ISP_Pp_CTRL_OUT profile) < 2 then 1 else 3

/-- Bits of the pipeline's output. -/
def State.outBits (s : State) (profile : Nat) : Nat := if s.fget (Fld.ISP_Pp_CTRL_OUT profile) % 2 = 0 then 8 else 16

/-- The live table fetched from a source register. -/
def State.table (s : State) (off : Nat) : List Byte := s.cams.tables.get (fun _ => []) off

/-- The parameters in force for a context now. -/
def State.ispSet (s : State) (c : Ctx) : IspSet :=
  { words := (List.range 10).map fun i => s.word (Reg.ISP_Pp_CTRL c.profile + 4 * i)
    ff := if c.path = 0 then s.table (Reg.ISP_FFn_SRC c.port) else []
    lsc := s.table (Reg.ISP_Pp_LSC_SRC c.profile)
    tone := s.table (Reg.ISP_Pp_TONE_SRC c.profile)
    lineScan := decide (c.path = 0) }

/-! ### Intake programs (R150 to R155) -/

namespace Program
def outType (p : Program) : Nat := rd p.d 9 1
def resizeMode (p : Program) : Nat := rd p.d 10 1
def orient (p : Program) : Nat := rd p.d 11 1
def cropX (p : Program) : Nat := rd p.d 12 2
def cropY (p : Program) : Nat := rd p.d 14 2
def cropW (p : Program) : Nat := rd p.d 16 2
def cropH (p : Program) : Nat := rd p.d 18 2
def outW (p : Program) : Nat := rd p.d 20 2
def outH (p : Program) : Nat := rd p.d 22 2
def tileLines (p : Program) : Nat := rd p.d 24 4
def overlap (p : Program) : Nat := rd p.d 28 4
def startPos (p : Program) : Int := rdInt p.d 32 8
def endPos (p : Program) : Int := rdInt p.d 40 8
def qparam (p : Program) : Nat := rd p.d 48 8
def channels (p : Program) : Nat := rd p.d 56 2
def dest (p : Program) : Nat := rd p.d 58 1
/-- Tile spacing S (6.5). -/
def step (p : Program) : Nat := p.tileLines - p.overlap
/-- Bytes of the output tensor for c channels (R154). -/
def tensorBytes (p : Program) (c : Nat) : Nat := IntakeMath.rowBytes p.outW c p.outType * p.outH
/-- The crop of an input of w × h before any shift; both sizes 0 select the whole input (Table 6.2). -/
def baseCrop (p : Program) (w h : Nat) : Nat × Nat × Nat × Nat :=
  if p.cropW = 0 then (0, 0, w, h) else (p.cropX, p.cropY, p.cropW, p.cropH)
/-- The shift of a crop of `n` at `x` in an input of `w`, reduced until the crop fits (R348). -/
def fitShift (x n w : Nat) (d : Int) : Int := max (-(x : Int)) (min d (max 0 ((w : Int) - n - x)))
/-- The program with a crop shift for an input of w × h. -/
def shifted (p : Program) (want : Int × Int) (w h : Nat) : Program :=
  let (cx, cy, cw, ch) := p.baseCrop w h
  { p with want, shift := (fitShift cx cw w want.1, fitShift cy ch h want.2) }
/-- The crop of an input of w × h, shifted: offset and size. -/
def crop (p : Program) (w h : Nat) : Nat × Nat × Nat × Nat :=
  let (cx, cy, cw, ch) := p.baseCrop w h
  ((cx + p.shift.1).toNat, (cy + p.shift.2).toNat, cw, ch)
end Program

/-- The first limit of Table 6.2 that a program breaks for an input of w × h and c channels, by byte offset; offset 56 when CHANNELS
differs from C. -/
def geometryFault (p : Program) (w h c : Nat) : Option Nat :=
  let (cx, cy, cw, ch) := p.crop w h
  let (aw, ah) := if p.orient / 4 % 2 = 1 then (ch, cw) else (cw, ch)
  if w < cx + cw ∨ h < cy + ch then some 12
  else if 16777216 < cw * ch then some 16
  else if (p.resizeMode = 0 ∧ (p.outW ≠ aw ∨ p.outH ≠ ah)) ∨ (p.resizeMode = 3 ∧ (aw < p.outW ∨ ah < p.outH)) ∨
      16777216 < p.outW * p.outH * c ∨ 33554432 < p.tensorBytes c then some 20
  else if p.qparam ≠ 0 ∧ p.channels ≠ c then some 56
  else none

/-- The input height of a program on a format: TILE_LINES for tiles. -/
def inputHeight (p : Program) (f : Format) : Nat := if f.height = 0 then p.tileLines else f.height

/-- The crop shift of the pose in effect of context n (Table 14.7). -/
def State.poseShift (s : State) (n : Nat) : Int × Int :=
  let p := s.tru.poses.get (fun _ => []) n
  (rdInt p 24 2, rdInt p 26 2)

/-- Context n applies the crop shift of its pose from its boundary; TRUING_CLAMPED is raised for a shift that was reduced (R348). -/
def State.applyShift (s : State) (n : Nat) : State :=
  let c := s.ctx n
  match c.prog, c.format with
  | some p, some f =>
    let q := p.shifted (s.poseShift n) f.width (inputHeight p f)
    let s := s.setCtx n { c with prog := some q }
    if q.shift ≠ q.want ∧ (q.want ≠ p.want ∨ q.shift ≠ p.shift) then s.raise Cause.TRUING_CLAMPED else s
  | _, _ => s

/-- The checks of Table 6.2 on the program in effect of context n, once its format is known and with the crop as shifted: a failure makes it invalid, and
INTAKE_GEOMETRY is raised once (R155, R348). -/
def State.recheck (s : State) (n : Nat) : State :=
  let s := s.applyShift n
  let c := s.ctx n
  match c.prog, c.format with
  | some p, some f =>
    if !c.invalid && (geometryFault p f.width (inputHeight p f) (s.outChannels c.profile)).isSome then
      (s.setCtx n { c with invalid := true }).raise Cause.INTAKE_GEOMETRY
    else s
  | _, _ => s

/-- Discarded at the intake (R152, R162, R165). -/
def State.discarded (s : State) (n : Nat) : State := s.bump (Fld.TIN_Cn_DISCARDED_COUNT n)

/-! ### Converter units and slots (6.1, R168) -/

/-- The converter units that a context's samples hold. -/
def Ctx.units (c : Ctx) : List Nat :=
  (c.frame.toList ++ c.tiling.tiles ++ c.ready).filterMap (·.unit)

/-- The converter units in use. -/
def State.unitsBusy (s : State) : List Nat := (List.range 24).flatMap fun n => (s.ctx n).units

/-- A free converter unit for a destination: 0 and 1 serve DEST 0, 2 to 7 DEST 1. -/
def State.freeUnit (s : State) (dest : Nat) : Option Nat :=
  (if dest = 0 then [0, 1] else [2, 3, 4, 5, 6, 7]).find? fun u => !s.unitsBusy.contains u

/-- Slots of context n's pool. -/
def State.poolSlots (s : State) (n : Nat) : Nat := s.fget (Fld.TIN_Cn_POOL_SLOTS n)

/-- Slot space of context n, in KiB. -/
def State.poolKib (s : State) (n : Nat) : Nat := s.poolSlots n * s.fget (Fld.TIN_Cn_POOL_SLOT_KIB n)

/-- DRAM offset of slot k of context n (R171). -/
def State.slotOffset (s : State) (n k : Nat) : Nat :=
  s.fget Fld.TIN_POOL_BASE_BASE * 65536 +
    1024 * (((List.range n).map s.poolKib).sum + k * s.fget (Fld.TIN_Cn_POOL_SLOT_KIB n))

/-- A fetched RUN that has not completed names the sample (R168, Table 4.9). -/
def Inflight.runsOn (id : Nat) (i : Inflight) : Bool := rd i.bytes 0 1 == 1 && rd i.bytes 16 8 == id

/-- A run that has not ended names the sample, or a RUN that is fetched and in flight: its slot is busy (R168). -/
def State.sampleBusy (s : State) (id : Nat) : Bool :=
  id != 0 && ((s.fwh.runs.any fun r => r.sample == id) || s.qps.any fun q => q.2.inflight.any (Inflight.runsOn id))

/-- What slot k of context n holds. -/
def Ctx.slot (c : Ctx) (k : Nat) : Held := c.slots.get (fun _ => {}) k

/-- Set what a slot holds. -/
def Ctx.setSlot (c : Ctx) (k : Nat) (h : Held) : Ctx := { c with slots := c.slots.put (fun _ => {}) k h }

/-- A sample begins: its first input row claims a converter unit and, for DEST 1, the next slot, whose older sample expires. With
the slot busy or no unit free it is dropped (R168); without a valid program it is discarded (R152). -/
def State.claim (s : State) (n : Nat) (x : Sample) : State × Sample :=
  let c := s.ctx n
  match c.prog with
  | none => (s, { x with discard := true })
  | some p =>
    let x := { x with prog := some p }
    if c.invalid then (s, { x with discard := true })
    else
      let k := c.nextSlot % s.poolSlots n
      let lost := fun (s : State) =>
        ((s.bump (Fld.TIN_Cn_DROPPED_COUNT n)).raise Cause.INTAKE_OVERFLOW, { x with lost := true })
      if p.dest = 0 then
        match s.freeUnit 0 with
        | none => lost s
        | some u => (s, { x with unit := some u })
      else if s.poolSlots n = 0 then lost s
      else
        match s.freeUnit 1 with
        | none => lost s
        | some u =>
          if s.sampleBusy (c.slot k).id then lost s
          else (s.setCtx n { c.setSlot k {} with nextSlot := (k + 1) % s.poolSlots n }, { x with unit := some u, slot := some k })

/-- A captured sample leaves the capture: it waits for emission, or is discarded or lost. -/
def State.captured (s : State) (n : Nat) (x : Sample) : State :=
  if x.lost then s
  else if x.discard then s.discarded n
  else
    let c := s.ctx n
    s.setCtx n { c with ready := c.ready ++ [x] }

/-! ### Tiling (R161 to R164) -/

/-- Restart tiling: the first tile carries OVERLAP_RESET, and REVERSAL after a reversal. The lines that older tiles still wait for
will not come. -/
def State.restartTiling (s : State) (n : Nat) (reversal : Bool := false) : State :=
  let c := s.ctx n
  s.setCtx n { c with
    tiling := { reset := true, reversal, outside := c.tiling.outside }
    ready := c.ready.map fun x => { x with needAfter := false } }

/-- Missing lines of a tile. -/
def Sample.missing (x : Sample) : Nat := (x.rows.filter Option.isNone).length

/-- Lines received in a tile. -/
def Sample.received (x : Sample) : Nat := (x.rows.filter Option.isSome).length

/-- Does the tile's pipeline demosaic? Its last line then needs the line after it (R138). -/
def Sample.demosaics (x : Sample) : Bool :=
  match x.kind with
  | .raw _ (some _) => IspMath.on x.params 3
  | _ => false

/-- The tile is over: the slots after its last line are filled as missing lines (R164). -/
def Sample.fill (x : Sample) (lines : Nat) : Sample :=
  { x with rows := x.rows ++ List.replicate (lines - x.rows.length) none }

/-- Does a tile hold a line beyond those it shares with the tile before it? (R164) -/
def Sample.hasOwn (x : Sample) (overlap : Nat) : Bool :=
  (x.rows.drop (if x.tileIndex = 0 then 0 else overlap)).any Option.isSome

/-- End the tile in progress early and drop the ones that only share its lines; tiling restarts (R162 to R164, R116). -/
def State.truncate (s : State) (n : Nat) (f : Sample → Sample) (reversal : Bool) : State :=
  let c := s.ctx n
  let s := match c.tiling.tiles, c.prog with
    | x :: _, some p =>
      if x.hasOwn p.overlap then s.captured n (f { x.fill p.tileLines with needAfter := false }) else s
    | _, _ => s
  s.restartTiling n reversal

/-- A new tile at line slot `slot`. -/
def State.startTile (s : State) (n : Nat) (slot index : Nat) (base : Sample) : State :=
  let t := (s.ctx n).tiling
  let (s, x) := s.claim n { base with
    tileIndex := index, firstLine := slot, before := t.lastLine
    overlapReset := t.reset && index == 0, reversal := t.reversal && index == 0, epoch := s.hif.epoch }
  let c := s.ctx n
  s.setCtx n { c with tiling := { c.tiling with tiles := c.tiling.tiles ++ [x] } }

/-- A row joins a tile; a received line brings its position, time and flags. -/
def Sample.addRow (x : Sample) (row : Option (List Nat)) (pos : Int) (lastPos : Option Int) (t q count : Nat)
    (coarse arrival : Bool) : Sample :=
  match row with
  | none => { x with rows := x.rows ++ [none] }
  | some r =>
    let first := x.received == 0
    let dir := match x.falling, lastPos with
      | none, some p => if first then none else if p < pos then some false else if pos < p then some true else none
      | d, _ => d
    { x with
      rows := x.rows ++ [some r]
      posStart := if first then pos else x.posStart
      tFirst := if first then t else x.tFirst
      quality := if first then q else x.quality
      srcFrame := if first then count else x.srcFrame
      posEnd := pos, tLast := t, falling := dir
      posCoarse := x.posCoarse || coarse, posAtArrival := x.posAtArrival || arrival }

/-- The line after a tile arrives for tiles that wait for it. -/
def Ctx.giveAfter (c : Ctx) (row : Option (List Nat)) : Ctx :=
  { c with ready := c.ready.map fun x =>
      if x.needAfter then { x with after := some (row.getD (List.replicate x.width 0)), needAfter := false } else x }

/-- One line slot is filled or counted missing (R161): a tile may start, all tiles in progress take the row, and a full tile ends. The
flag tells whether a tile ended. -/
def State.fillSlot (s : State) (n : Nat) (row : Option (List Nat)) (pos : Int) (count : Nat) (coarse arrival : Bool) :
    State × Bool :=
  let c := (s.ctx n).giveAfter row
  let s := s.setCtx n c
  match c.prog, c.format with
  | some p, some f =>
    let slot := c.tiling.nextSlot
    let base : Sample := { params := s.ispSet c, kind := f.kind, width := f.width, height := p.tileLines }
    let s := if p.step = 0 then s else if slot % p.step = 0 then s.startTile n slot (slot / p.step) base else s
    let t := (s.ctx n).tiling
    let tiles := t.tiles.map fun x => x.addRow row pos t.lastPos s.now s.tb.quality count coarse arrival
    let done := tiles.filter fun x => decide (p.tileLines ≤ x.rows.length)
    let c := s.ctx n
    let s := s.setCtx n { c with tiling := { t with
      nextSlot := slot + 1
      tiles := tiles.filter fun x => decide (x.rows.length < p.tileLines)
      lastPos := if row.isSome then some pos else t.lastPos
      lastLine := some (row.getD (List.replicate f.width 0)) } }
    (done.foldl (fun s x => s.captured n { x with needAfter := x.demosaics }) s, !done.isEmpty)
  | _, _ => (s, false)

/-! ### Context states (R116 to R118) -/

/-- The frame or tiles in progress are dropped; slots claimed for them hold no sample (R168). -/
def State.dropCapture (s : State) (n : Nat) : State :=
  let c := s.ctx n
  (s.setCtx n { c with frame := none }).restartTiling n

/-- The sample in progress is abandoned: the frame, or the oldest tile; its slot holds no sample (R168, R253). -/
def State.abandonSample (s : State) (n : Nat) : State :=
  let c := s.ctx n
  s.setCtx n (match c.frame with
    | some x => { c with frame := some { x with lost := true } }
    | none => { c with tiling := { c.tiling with tiles := match c.tiling.tiles with | x :: t => { x with lost := true } :: t | [] => [] } })

/-- What the depacketiser of a decoder context holds is gone; the decoder waits for an IDR or IRAP picture (R117, R118, R136). -/
def State.decIdle (s : State) (c : Ctx) : State :=
  if c.path = 2 then
    s.setDec c.port { s.dec c.port with waitKey := true, next := none, window := [], part := [], broken := false, units := [] }
  else s

/-- Does the context feed a Fixed-gear obstacle schedule: an intake program with DEST 0 and a region of the accepted image? (Table 5.3) -/
def State.feedsFixed (s : State) (n : Nat) : Bool :=
  ((s.ctx n).prog.any fun p => p.dest == 0) && (Image.regionOf s.fxg.image n).isSome

/-- The image's PL3 variant names the context's region. -/
def State.inPl3 (s : State) (n : Nat) : Bool :=
  match Image.variantFor s.fxg.image 3, Image.regionOf s.fxg.image n with
  | some v, some r => bitOn (Image.vRegions v) (Image.rRegion r)
  | _, _ => false

/-- Power levels act in operation, and shedding continues in safe state (R456). -/
def State.levelsAct (s : State) : Bool := s.operational || decide (s.start.phase = .safe)

/-- May a context run at a level? (Table 5.3) -/
def State.ctxAllowed (s : State) (n level : Nat) : Bool :=
  let c := s.ctx n
  if c.path = 0 then decide (level ≤ 1)
  else if c.path = 1 ∧ s.feedsFixed n then decide (level ≤ 2) || (level == 3 && s.inPl3 n)
  else level == 0

/-- The level suspends a context or allows it again (R118, R143): its sequence does not advance, so that what waits for emission is dropped with the frame in progress. -/
def State.levelRule (s : State) (level n : Nat) : State :=
  let c := s.ctx n
  if c.state = .free then s
  else if s.ctxAllowed n level then
    (if c.state = .suspended then (s.setCtx n { c with state := .waiting, fsAt := s.now, fsGap := 0 }).restartTiling n else s)
  else if c.state = .suspended then s
  else
    let s := (s.dropCapture n).decIdle c
    s.setCtx n { s.ctx n with state := .suspended, ready := [], front := [] }

/-- The pending program of context n takes effect: INTAKE completes OK with the tensor bytes, PROGRAM counts up, tiling restarts
(R151); where the context now feeds a Fixed-gear schedule, or no longer does, the level's rule is applied to it anew (R118). -/
def State.programEffect (s : State) (n : Nat) : State :=
  let c := s.ctx n
  match c.pend with
  | none => s
  | some (qp, d, p) =>
    let no := (c.progNo + 1) % 65536
    let s := s.setCtx n { c with prog := some { p with number := no }, invalid := false, pend := none, progNo := no }
    let s := if c.path = 0 then s.restartTiling n else s
    let s := s.complete qp d St.OK 0 (p.tensorBytes (s.outChannels c.profile))
    (s.recheck n).levelRule s.sup.level n

/-- A program that waits for a boundary takes effect on a context that is not RUNNING (R151). -/
def State.programDue (s : State) (n : Nat) : State := if (s.ctx n).state = .running then s else s.programEffect n

/-- The pending INTAKE of a context completes ABORTED with RESULT zero (R151). -/
def State.abortIntake (s : State) (n : Nat) : State :=
  let c := s.ctx n
  match c.pend with
  | some (qp, d, _) => (s.setCtx n { c with pend := none }).complete qp d St.ABORTED
  | none => s

/-- The context moves to WAITING, its frame or tile in progress dropped (Table 5.2). -/
def State.toWaiting (s : State) (n : Nat) : State :=
  let s := (s.dropCapture n).decIdle (s.ctx n)
  if (s.ctx n).state = .running then (s.setCtx n { s.ctx n with state := .waiting, front := [], fsAt := s.now, fsGap := 0 }).programDue n else s

/-- The level's rule for a context (R118), and its pending program. -/
def State.levelCtx (s : State) (level n : Nat) : State := (s.levelRule level n).programDue n

/-- Every context at a level. -/
def State.levelCtxs (s : State) (level : Nat) : State := (List.range 24).foldl (fun s n => s.levelCtx level n) s

/-- The time without a frame start begins anew for every context (R130). -/
def State.fsFresh (s : State) : State :=
  (List.range 24).foldl (fun s n => if (s.ctx n).state = .free then s else s.setCtx n { s.ctx n with fsAt := s.now, fsGap := 0 }) s

/-- The first connection of a camera (R120). -/
def cxpFirst (k : Nat) : Nat := 2 * k

/-- The nibble of connection c in CXP_STATUS. -/
def cxpSpeedFld (c : Nat) : Fld := ⟨Reg.CXP_STATUS, 4 * c + 3, 4 * c⟩

/-- The CoaXPress and A-PHY front ends go off: every link is down (Table 5.3). -/
def State.frontEndsOff (s : State) : State :=
  let s := s.setWord Reg.CXP_STATUS 0
  [0, 1].foldl (fun s n =>
    let s := (s.fset (Fld.CXP_CAMn_INFO_LINKS_UP n) 0).fset (Fld.CXP_CAMn_INFO_SPEED n) 0
    (s.fset (Fld.APY_PORTn_STATUS_LINK_UP n) 0).fset (Fld.APY_PORTn_STATUS_GEAR n) 0) s

end Sys2Proof.Machine
end

