-- ==== Sys2Proof/Machine/Arrays.lean ====
section
/-! DEFINITION. Engines and their arrays: states, programming, patrol, wear and retirement to the spare (chapter 7). -/
namespace Sys2Proof.Machine

/-! ### Access -/

/-- Was the array asked for by this descriptor? -/
def ProgFor.of (w : ProgFor) (qp : Nat) (d : List Byte) : Bool :=
  match w with
  | .program q e => q == qp && e == d
  | .verify q e => q == qp && e == d
  | .staging _ q e => q == qp && e == d
  | .drain _ => false
  | .retire x => x == some (qp, d)

/-- Engine e. -/
def State.eng (s : State) (e : Nat) : Engine := s.engs.get (fun _ => {}) e
/-- Set engine e. -/
def State.setEng (s : State) (e : Nat) (x : Engine) : State := { s with engs := s.engs.put (fun _ => {}) e x }
/-- Logical array m of an engine. -/
def Engine.arr (x : Engine) (m : Nat) : LArr := x.arrs.get (fun _ => {}) m
/-- Set logical array m. -/
def Engine.setArr (x : Engine) (m : Nat) (a : LArr) : Engine := { x with arrs := x.arrs.put (fun _ => {}) m a }
/-- The physical array that backs logical array m; 16 names physical A16 (R172). -/
def Engine.backing (x : Engine) (m : Nat) : Nat := if (x.arr m).onSpare then 16 else m
/-- Physical array k. -/
def Engine.phy (x : Engine) (k : Nat) : Phys := x.phys.get (fun _ => {}) k
/-- Set physical array k. -/
def Engine.setPhy (x : Engine) (k : Nat) (p : Phys) : Engine := { x with phys := x.phys.put (fun _ => {}) k p }
/-- Logical array m of engine e. -/
def State.arr (s : State) (e m : Nat) : LArr := (s.eng e).arr m
/-- Set logical array m of engine e. -/
def State.setArr (s : State) (e m : Nat) (a : LArr) : State := s.setEng e ((s.eng e).setArr m a)

/-- DETAIL of an array cause: engine, logical array and group for the causes that Table 18.5 names, zero for the others (R439). -/
def arrDetail (code e m g : Nat) : Nat :=
  if code = Cause.CHECK_MISMATCH ∨ code = Cause.PATROL_CELL_ERROR ∨ code = Cause.ARRAY_RETIRED ∨ code = Cause.ARRAY_UNUSABLE then e + 256 * m + 65536 * g else 0

/-- Raise a cause about array m of engine e, in the array's region (kind 3). -/
def State.raiseArr (s : State) (code e m : Nat) (g : Nat := 0) : State := s.raiseIn code 3 (256 * e + m) (arrDetail code e m g)

/-- The engines of the accepted Fixed-gear image. -/
def State.fixedMask (s : State) : Nat := Image.mask s.fxg.image
/-- The engines of the accepted Freewheel image. -/
def State.freeMask (s : State) : Nat := Image.mask s.fwh.image
/-- Engine e belongs to the Fixed-gear partition (R275). -/
def State.isFixed (s : State) (e : Nat) : Bool := bitOn s.fixedMask e

/-! ### Arrays that a set needs, and arrays in use (R104, R106, R193) -/

/-- The placements of an image whose array does not hold its weights (R104). -/
def State.lacking (s : State) (img : List Byte) : List (List Byte) :=
  (Image.placements img).filter fun p =>
    let a := s.arr (Image.pEngine p) (Image.pArray p)
    !((decide (a.state = .loaded) || decide (a.state = .bound)) && a.crc == Image.pCrc p)

/-- ARRAYS_PENDING of a staging set (R104). -/
def State.setPending (s : State) (k : Nat) : Nat :=
  (((s.set k).fixedImg.toList ++ (s.set k).freeImg.toList).map fun i => (s.lacking i).length).sum

/-- The result of STAGE_CONFIG: entries staged, and ARRAYS_PENDING in bytes 6 to 7 (Table 4.10). -/
def State.stageResult (s : State) (k : Nat) : Nat := (s.set k).entries.length + 2 ^ 48 * (s.setPending k % 2 ^ 16)

/-- The images whose work may use arrays: those accepted, one that waits for an iteration's end, and those of active runs (R106). -/
def State.usedImages (s : State) : List (List Byte) :=
  (s.fxg.image :: s.fwh.image :: s.fxg.nextImage.toList) ++ (s.fwh.runs.filter fun r => decide (r.state = .active)).map (·.image)

/-- Arrays move between LOADED and BOUND as schedules place weights on them (Table 7.4). -/
def State.rebind (s : State) : State :=
  let used := s.usedImages.flatMap fun i => (Image.placements i).map fun p => (Image.pEngine p, Image.pArray p)
  (List.range 256).foldl (fun s k =>
    let a := s.arr (k / 16) (k % 16)
    if a.state = .loaded ∧ used.contains (k / 16, k % 16) = true then s.setArr (k / 16) (k % 16) { a with state := .bound }
    else if a.state = .bound ∧ used.contains (k / 16, k % 16) = false then s.setArr (k / 16) (k % 16) { a with state := .loaded }
    else s) s

/-- Change the commit of a set, if one waits. -/
def State.markCommit (s : State) (k : Nat) (f : Commit → Commit) : State :=
  { s with hif := { s.hif with commits := s.hif.commits.map fun c => if c.set == k then f c else c } }

/-! ### Failure and retirement (R195 to R197) -/

/-- The logical array for which A16 is being programmed, or waits for its boundary (R196). -/
def Engine.retiring (x : Engine) : Option Nat :=
  match x.move with
  | some v => some v.arr
  | none => (x.prog.find? fun i => match i.what with | .retire _ => true | _ => false).map (·.arr)

/-- Can A16 take logical array m over? It is SPARE_FREE and not taken for another array (R196, R197; DEDUCED, log entry 173). -/
def Engine.spareFor (x : Engine) (m : Nat) : Bool := decide (x.spare = .free) && x.retiring.all fun k => k == m

/-- A physical array has failed: PENDING_RETIRE is set; where A16 cannot take the array over it is UNUSABLE (R197). -/
def State.arrFailed (s : State) (e m : Nat) : State :=
  let a := s.arr e m
  let s := s.setArr e m { a with pendRetire := true }
  if (s.eng e).spareFor m then s
  else if a.state = .unusable then s
  else (s.setArr e m { a with pendRetire := true, state := .unusable }).raiseArr Cause.ARRAY_UNUSABLE e m

/-- Program a physical array with a weight image: sums are computed and stored, the trims reset (R182, R189, R194). -/
def Phys.programmed (p : Phys) (image : List Byte) : Phys :=
  let cells := (image.drop 64).take 131072
  let sums := MvmMath.sumsOf cells
  let rows := MvmMath.rowsOf cells
  { p with cells, rows, sums, sumsCrc := crc32c (MvmMath.sumBytes rows sums), trims := [] }

/-- Erase a physical array: one more program cycle. -/
def Phys.erased (p : Phys) : Phys := { p with cells := [], rows := [], sums := [], sumsCrc := 0, cycles := satAdd 16 p.cycles 1 }

/-- The logical number whose flags tell of physical array k: A16 has its own until it stands in. -/
def Engine.logical (x : Engine) (k : Nat) : Nat :=
  match x.spare with
  | .standingIn m => if k = 16 then m else k
  | _ => k

/-- Physical array k of engine e is erased: its count reaches 18,000 with ENDURANCE_LOW, and from 20,000 on PENDING_RETIRE is set (R189, R191). -/
def State.erase (s : State) (e k : Nat) : State :=
  let x := s.eng e
  let x := x.setPhy k (x.phy k).erased
  let s := s.setEng e x
  let m := x.logical k
  let s := if (x.phy k).cycles = 18000 then s.raiseArr Cause.ENDURANCE_LOW e m else s
  if 20000 ≤ (x.phy k).cycles then s.setArr e m { s.arr e m with pendRetire := true } else s

/-- The backing of array m moves to A16 (R195): flags cleared, an ARRAY_RETIRED record. `crc` is the CELL_CRC of the image that A16 was programmed with; without
one A16 takes over without a copy and m becomes BLANK. -/
def State.backingMoved (s : State) (e m : Nat) (crc : Option Nat) (how : Nat) : State :=
  let x := s.eng e
  let a := x.arr m
  let a := { a with onSpare := true, suspect := false, pendRetire := false, state := if crc.isNone then .blank else a.state, crc := crc.getD 0 }
  let s := s.setEng e { x.setArr m a with spare := .standingIn m }
  let s := s.jrnWrite 9 (leBytes 1 e ++ leBytes 1 m ++ leBytes 1 how)
  (s.raiseArr Cause.ARRAY_RETIRED e m).endHandling 3 (256 * e + m)

/-- The weight image that a schedule image places on an array. -/
def weightsFor (img : List Byte) (e m : Nat) : Option (List Byte) :=
  (Image.placement? img e m).map fun p => Image.weightAt img p

/-- A16 fails its verify in the retirement of array m: it is SPARE_FAILED, and R197 applies (R193, R197). -/
def State.spareFails (s : State) (e m : Nat) : State := (s.setEng e { s.eng e with spare := .failed }).arrFailed e m

/-- Retirement of array m of engine e, whole, from a schedule image (R195, ST14); `ok` tells what the verify of A16 found. -/
def State.retireAll (s : State) (e m : Nat) (img : List Byte) (ok : Bool) : State :=
  let s := s.erase e 16
  let x := s.eng e
  if !ok then s.spareFails e m
  else
    match weightsFor img e m with
    | some i => (s.setEng e (x.setPhy 16 ((x.phy 16).programmed i))).backingMoved e m (some (rd i 8 4)) 0
    | none => s.backingMoved e m none 0

/-- ST14 on one engine: an array found PROGRAMMING is BLANK (R192); pending retirements are carried out while A16 is free, and R197
applies to the others. `img` is the image of the preferred slot that places weights on engine e, `ok` what a verify of A16 finds. -/
def State.st14 (s : State) (img : List Byte) (e : Nat) (ok : Bool) : State :=
  (List.range 16).foldl (fun s m =>
    let a := s.arr e m
    let s := if a.state = .programming then s.setArr e m { a with state := .blank } else s
    let a := s.arr e m
    if !a.pendRetire || decide (a.state = .unusable) then s
    else if (s.eng e).spare = .free then s.retireAll e m img ok
    else s.arrFailed e m) s

/-! ### Programming (R188 to R192) -/

/-- Bound to the engine's programming queue: what the front item does when it starts. An image that fails its check is not used: its array
keeps its state, BAD_WEIGHT_IMAGE is raised, and the next item starts (R189). -/
def State.noteFault (s : State) (w : ProgFor) (code : Nat) : State :=
  match w with
  | .program qp d => { s with progs := s.progs.map fun a => if a.qp == qp && a.d == d then { a with fault := code } else a }
  | .verify qp d => { s with progs := s.progs.map fun a => if a.qp == qp && a.d == d then { a with fault := code } else a }
  | .staging _ qp d => { s with progs := s.progs.map fun a => if a.qp == qp && a.d == d then { a with fault := code } else a }
  | .drain k => s.markCommit k fun c => { c with verifyFailed := true }
  | .retire _ => s

/-- An array passed: it counts in the result of its PROGRAM_ARRAYS, or as programmed for its set. -/
def State.notePass (s : State) (w : ProgFor) (e m : Nat) : State :=
  match w with
  | .program qp d => { s with progs := s.progs.map fun a => if a.qp == qp && a.d == d then { a with passed := a.passed + 2 ^ m } else a }
  | .verify qp d => { s with progs := s.progs.map fun a => if a.qp == qp && a.d == d then { a with passed := a.passed + 2 ^ m } else a }
  | .staging k _ _ => s.setSet k { s.set k with programmed := (s.set k).programmed ++ [(e, m)] }
  | .drain k => s.setSet k { s.set k with programmed := (s.set k).programmed ++ [(e, m)] }
  | .retire _ => s

/-- Is any array still to be done for this request? -/
def State.workLeft (s : State) (w : ProgFor) : Bool := (List.range 16).any fun e => (s.eng e).prog.any fun i => i.what == w

/-- The request is over when its last array has ended: PROGRAM_ARRAYS and STAGE_CONFIG complete (R104, R189). `stop` tells that a power
level left arrays untouched. -/
def State.workOver (s : State) (w : ProgFor) (stop : Bool) : State :=
  if s.workLeft w then s
  else
    let done := fun (qp : Nat) (d : List Byte) (staged : Option Nat) =>
      match s.progs.find? (fun a => a.qp == qp && a.d == d) with
      | none => s
      | some a =>
        let s := { s with progs := s.progs.filter fun b => !(b.qp == qp && b.d == d) }
        match staged with
        | some k => s.complete qp d St.OK a.fault (s.stageResult k)
        | none => s.complete qp d (if stop then St.POWER_STOP else St.OK) a.fault a.passed
    match w with
    | .program qp d => done qp d none
    | .verify qp d => done qp d none
    | .staging k qp d => done qp d (some k)
    | _ => s

/-- Start the front item of engine e: erase and count (R189). `fuel` covers the queue. -/
def State.startItem (s : State) (e : Nat) : Nat → State
  | 0 => s
  | fuel + 1 =>
    let x := s.eng e
    match x.prog with
    | [] => s
    | i :: t =>
      match i.what with
      | .verify _ _ => s
      | .retire _ => s.erase e 16
      | w =>
        if Image.weightOk i.image then
          (s.setArr e i.arr { x.arr i.arr with state := .programming }).erase e (x.backing i.arr)
        else
          let s := (s.raiseArr Cause.BAD_WEIGHT_IMAGE e i.arr).noteFault w Cause.BAD_WEIGHT_IMAGE
          ((s.setEng e { s.eng e with prog := t }).workOver w false).startItem e fuel

/-- Add items to an engine's queue, starting the first if the engine was idle. A retirement goes before the arrays that have not started
(7.10). -/
def State.addItems (s : State) (e : Nat) (is : List ProgItem) (first : Bool) : State :=
  let x := s.eng e
  let idle := x.prog.isEmpty
  let q := if first then x.prog.take 1 ++ is ++ x.prog.drop 1 else x.prog ++ is
  let s := s.setEng e { x with prog := q }
  if idle then s.startItem e (q.length + 1) else s

/-- The cells that a verify of an array expects: its image, or zeros for A16 while it is SPARE_FREE (R190). -/
def State.verifyImage (s : State) (e m : Nat) (image : List Byte) : List Byte :=
  if m = 16 ∧ (s.eng e).spare = .free then [] else (image.drop 64).take 131072

/-- Equal cells, where an empty list stands for all zeros. -/
def sameCells (a b : List Byte) : Bool :=
  (if a.isEmpty then b.all (· == 0) else if b.isEmpty then a.all (· == 0) else a == b)

/-- The front item's effect, `ok` telling what the single-row reads found (R189, R190, R196). -/
def State.endItem (s : State) (e : Nat) (i : ProgItem) (ok : Bool) : State :=
  let x := s.eng e
  match i.what with
  | .verify _ _ =>
    let k := if i.arr = 16 then 16 else x.backing i.arr
    if ok && sameCells (x.phy k).cells (s.verifyImage e i.arr i.image) then s.notePass i.what e i.arr
    else
      let s := s.noteFault i.what Cause.PROGRAM_VERIFY_FAILED
      if i.arr = 16 then
        let s := s.setArr e 16 { s.arr e 16 with pendRetire := true }
        match x.spare with
        | .standingIn m => s.arrFailed e m
        | _ => s
      else s.arrFailed e i.arr
  | .retire desc =>
    if ok then
      s.setEng e { x.setPhy 16 (if i.image.isEmpty then x.phy 16 else (x.phy 16).programmed i.image) with
        move := some ⟨desc, i.arr, if i.image.isEmpty then none else some (rd i.image 8 4)⟩ }
    else
      let s := s.spareFails e i.arr
      match desc with
      | some (qp, d) => s.complete qp d St.FAULTED Cause.PROGRAM_VERIFY_FAILED
      | none => s
  | w =>
    let k := x.backing i.arr
    if ok then
      let x := x.setPhy k ((x.phy k).programmed i.image)
      (s.setEng e (x.setArr i.arr { x.arr i.arr with state := .loaded, crc := rd i.image 8 4 })).notePass w e i.arr
    else
      let s := s.setEng e (x.setArr i.arr { x.arr i.arr with state := .blank, crc := 0 })
      let s := s.raiseArr Cause.PROGRAM_VERIFY_FAILED e i.arr
      (s.arrFailed e i.arr).noteFault w Cause.PROGRAM_VERIFY_FAILED

/-- Programming stops at PL2 and above: what has not started is left untouched (R104, R188, 7.10). -/
def State.itemsStopped (s : State) (e : Nat) : List ProgItem → State
  | [] => s
  | i :: t =>
    let s := match i.what with
      | .drain k => s.markCommit k fun c => { c with untouched := true }
      | _ => s
    (s.workOver i.what true).itemsStopped e t

/-- Is the item one that a power level stops? -/
def ProgItem.stops (i : ProgItem) : Bool := match i.what with | .retire _ => false | _ => true

/-- The array under way on engine e ends; the next one starts, if the level allows (R188, R189). -/
def State.arrayDone (s : State) (e : Nat) (ok : Bool) : State :=
  match (s.eng e).prog with
  | [] => s
  | i :: t =>
    let s := (s.endItem e i ok)
    let go := !s.operational || decide (s.sup.level ≤ 1)
    let keep := if go then t else t.filter fun j => !j.stops
    let drop := if go then [] else t.filter ProgItem.stops
    let s := s.setEng e { s.eng e with prog := keep }
    let stopped := drop.any fun j => j.what == i.what
    let s := (s.workOver i.what stopped).itemsStopped e drop
    s.startItem e (keep.length + 1)

/-! ### Retirement in operation (R195, R196) -/

/-- The reason for which a retirement of an array now is refused (R196). -/
def State.retireRefused (s : State) (e m : Nat) : Option Nat :=
  let a := s.arr e m
  if s.fget (Fld.ENG_n_CFG_RETIRE_NOW_EN e) = 0 then some 1
  else if a.onSpare then some 2
  else if a.state = .bound ∧ s.isFixed e = true ∧ Image.pair s.fxg.image = false then some 3
  else if a.state = .programming then some 4
  else none

/-- A16 is programmed with the weights that the accepted image in DRAM holds for the array (R195). -/
def State.retireStart (s : State) (e m : Nat) (desc : Option (Nat × List Byte)) : State :=
  let img := if s.isFixed e then s.fxg.image else s.fwh.image
  s.addItems e [(⟨.retire desc, m, (weightsFor img e m).getD []⟩ : ProgItem)] true

/-! ### The check lane and the patrol (R185 to R187) -/

/-- A CHECK_MISMATCH on array m of engine e: SUSPECT, and the count (R185, R187). -/
def State.mismatch (s : State) (e m g : Nat) : State :=
  let a := s.arr e m
  let again := match a.lastMismatch with
    | some t => decide (s.now ≤ t + 24 * 3600 * 10 ^ 9)
    | none => false
  let s := s.setArr e m { a with suspect := true, lastMismatch := some s.now, second := again }
  (s.bump (Fld.ENG_n_Am_ERRORS_MISMATCH e m)).raiseArr Cause.CHECK_MISMATCH e m g

/-- The patrol finds a cell error (R187, R193). -/
def State.cellError (s : State) (e k : Nat) : State :=
  let x := s.eng e
  if k = 16 then
    match x.spare with
    | .free => ((s.setEng e { x with spare := .failed }).bump (Fld.ENG_n_Am_ERRORS_PATROL e 16)).raiseArr Cause.PATROL_CELL_ERROR e 16
    | .standingIn m =>
      ((s.bump (Fld.ENG_n_Am_ERRORS_PATROL e 16)).raiseArr Cause.PATROL_CELL_ERROR e m).arrFailed e m
    | .failed => s
  else if (x.arr k).onSpare then s
  else ((s.bump (Fld.ENG_n_Am_ERRORS_PATROL e k)).raiseArr Cause.PATROL_CELL_ERROR e k).arrFailed e k

/-- The sum of differences that a patrol read at a row and group. -/
def seenAt (l : List (Nat × Nat × Int)) (r g : Nat) : Int := ((l.filter fun e => e.1 == r && e.2.1 == g).map fun e => e.2.2).sum

/-- The group sums of an array's cells as a patrol reads them. -/
def Phys.readSums (p : Phys) (x : PatrolSeen) : List (List Int) :=
  (MvmMath.sumsOf p.cells).zipIdx.map fun (l, r) => l.zipIdx.map fun (v, g) => v + seenAt x.cells r g

/-- The stored sums as a patrol reads them: row sums and group sums. -/
def Phys.readStored (p : Phys) (x : PatrolSeen) : List Int × List (List Int) :=
  ((List.range 512).map fun r => p.rows.getD r 0 + seenAt x.sums r 8,
    (List.range 512).map fun r => (List.range 8).map fun g => MvmMath.groupSum p.sums r g + seenAt x.sums r g)

/-- What an out-of-turn patrol finds (Table of R187): 1 the stored sums fail their CRC, or disagree with cells that match the array's weight image; 0 a cell error; 2 no error. -/
def Phys.finding (p : Phys) (x : PatrolSeen) : Nat :=
  let cells := p.readSums x
  let (rows, sums) := p.readStored x
  let differ := sums != cells || rows != cells.map List.sum
  if crc32c (MvmMath.sumBytes rows sums) ≠ p.sumsCrc ∨ (differ ∧ cells = MvmMath.sumsOf p.cells) then 1
  else if differ then 0 else 2

/-- An out-of-turn patrol resolves a suspect array (R187). -/
def State.resolved (s : State) (e m : Nat) (seen : PatrolSeen) : State :=
  let x := s.eng e
  let k := x.backing m
  let finding := (x.phy k).finding seen
  let s :=
    if finding = 0 then s.cellError e k
    else if finding = 1 then
      let p := x.phy k
      let sums := p.readSums seen
      let rows := sums.map List.sum
      let x := x.setPhy k { p with rows, sums, sumsCrc := crc32c (MvmMath.sumBytes rows sums) }
      (s.setEng e (x.setArr m { x.arr m with suspect := false })).raiseArr Cause.SUMS_REPAIRED e m
    else if (x.arr m).second then s.arrFailed e m
    else s.setArr e m { x.arr m with suspect := false }
  s.endHandling 3 (256 * e + m)

end Sys2Proof.Machine
end

