-- ==== Sys2Proof/Machine/Mem.lean ====
section
/-! DEFINITION. Module DRAM, the Chainring's tables and the last-level cache: access checks, bytes, poison, error correction, the directory, arrival
flags (chapters 9 and 10). -/
namespace Sys2Proof.Machine

/-- What an unlisted byte of module DRAM reads as (DESIGN CHOICE, log entry 5). -/
def dramDefault (_ : Nat) : Byte := 0

/-- The memory in canonical form. -/
abbrev Mem.wf (m : Mem) : Prop := Tbl.wf dramDefault m.dram = true

/-- The byte at a DRAM offset. -/
def Mem.byte (m : Mem) (off : Nat) : Byte := m.dram.get dramDefault off

/-- Bytes of module DRAM. -/
def State.dramRead (s : State) (off n : Nat) : List Byte := (List.range n).map fun i => s.mem.byte (off + i)

/-- Write bytes that satisfy `p` (by offset) into module DRAM. -/
def Mem.write (m : Mem) (p : Nat → Bool) : Nat → List Byte → Mem
  | _, [] => m
  | off, b :: t => (if p off then { m with dram := m.dram.put dramDefault off b } else m).write p (off + 1) t

/-- The lines that a range of bytes touches. -/
def linesOf (off n : Nat) : List Nat := if n = 0 then [] else (List.range ((off + n - 1) / 64 + 1 - off / 64)).map (· + off / 64)

/-- Does a range touch a poisoned line? (R255) -/
def State.poisoned (s : State) (off n : Nat) : Bool := (linesOf off n).any fun l => s.mem.poison.contains l

/-- Mark a line poisoned. -/
def Mem.taint (m : Mem) (line : Nat) : Mem := if m.poison.contains line then m else { m with poison := m.poison ++ [line] }

/-- The mode of the window that holds an offset; 0 where there is none. -/
def State.windowMode (s : State) (off : Nat) : Nat :=
  match Image.windowAt s.mem.layout off with
  | some w => Image.wMode (Image.window s.mem.layout w)
  | none => 0

/-- May an agent other than a Fixed-gear engine or the Hub touch this offset? (R259) -/
def State.mayTouch (s : State) (write : Bool) (off : Nat) : Bool :=
  let m := s.windowMode off
  m != 0 && !(write && m == 3)

/-- The fault of an access, if part of it is not performed: NO_WINDOW or FIXED_WRITE (R259). `fixed` is a Fixed-gear engine or the Hub firmware. -/
def State.accessFault (s : State) (write fixed : Bool) (off n : Nat) : Option Nat :=
  let modes := (linesOf off n).map fun l => s.windowMode (64 * l)
  if modes.contains 0 then some Cause.NO_WINDOW
  else if write && !fixed && modes.contains 3 then some Cause.FIXED_WRITE
  else none

/-- The directory forgets the L1 copies of a line (R269). -/
def Mem.dropLine (m : Mem) (l : Nat) : Mem := { m with dir := m.dir.put (fun _ => {}) l {} }

/-- Bytes reach their home: those outside every window, and those of FIXED windows unless the writer may write them, are discarded; every L1 copy is
invalidated first; a line written whole is no longer poisoned (R255, R259, R269). -/
def State.dramWrite (s : State) (fixed : Bool) (off : Nat) (b : List Byte) : State :=
  let ok := fun o => s.windowMode o != 0 && (fixed || s.windowMode o != 3)
  let m := (linesOf off b.length).foldl Mem.dropLine s.mem
  let whole := (linesOf off b.length).filter fun l => decide (off ≤ 64 * l) && decide (64 * l + 64 ≤ off + b.length) && ok (64 * l)
  { s with mem := { m.write ok off b with poison := m.poison.filter fun l => !whole.contains l } }

/-! ### Arrival flags (R239 to R241) -/

/-- The arrival region records in force, with their keys. -/
def State.arrivalRecs (s : State) : List (Nat × List Byte) :=
  ((Image.arrivals s.fxg.image).map fun a => (Image.aRegion a, a)) ++
    ((Image.arrivals s.fwh.image).map fun a => (65536 + Image.aRegion a, a))

/-- The flags of an arrival region. -/
def State.arrival (s : State) (k : Nat) : Arrival := s.mem.arrivals.get (fun _ => {}) k

/-- Set the flags of an arrival region. -/
def State.setArrival (s : State) (k : Nat) (a : Arrival) : State :=
  { s with mem := { s.mem with arrivals := s.mem.arrivals.put (fun _ => {}) k a } }

/-- Do the ranges cover every byte from `lo` to `hi`? `fuel` is their number. -/
def covers (parts : List (Nat × Nat)) (hi : Nat) : Nat → Nat → Bool
  | _, 0 => false
  | lo, fuel + 1 =>
    if hi ≤ lo then true
    else match parts.find? fun p => decide (p.1 ≤ lo) && decide (lo < p.2) with
      | some p => if hi ≤ p.2 then true else covers parts hi p.2 fuel
      | none => false

/-- The offset of an arrival region in DRAM. -/
def arrivalBase (a : List Byte) : Nat := bits (Image.aBase a) 40 0

/-- The offsets of units already flagged: a write there is discarded (R240). -/
def State.flaggedAt (s : State) (off : Nat) : Bool :=
  s.arrivalRecs.any fun (k, a) =>
    let b := arrivalBase a
    decide (b ≤ off) && decide (off < b + Image.aUnits a * Image.aUnitBytes a) &&
      (s.arrival k).flags.contains ((off - b) / Image.aUnitBytes a)

/-- Bytes were written into a region by a source that it names (0 Chainring, 1 Ihlex): every unit they complete is flagged (R240, R415). -/
def State.flagUnits (s : State) (src k : Nat) (a : List Byte) (off n : Nat) : State :=
  let b := arrivalBase a
  let size := Image.aUnitBytes a
  let top := b + Image.aUnits a * size
  if n = 0 ∨ size = 0 ∨ off + n ≤ b ∨ top ≤ off ∨ bitOn (Image.aSource a) src = false then s
  else
    let lo := max b off - b
    let hi := min top (off + n) - b
    let x := s.arrival k
    let parts := x.parts ++ [(lo, hi)]
    let units := (List.range ((hi - 1) / size + 1 - lo / size)).map (· + lo / size)
    let full := units.filter fun u => !x.flags.contains u && covers parts (size * u + size) (size * u) (parts.length + 1)
    s.setArrival k { flags := x.flags ++ full, times := x.times ++ full.map fun u => (u, s.now), parts }

/-- The engine whose region holds an offset in a flagged unit. -/
def State.flaggedEngine (s : State) (off n : Nat) : Option Nat :=
  (s.arrivalRecs.find? fun (k, a) => (List.range n).any fun i =>
    let b := arrivalBase a
    decide (b ≤ off + i) && decide (off + i < b + Image.aUnits a * Image.aUnitBytes a) &&
      (s.arrival k).flags.contains ((off + i - b) / Image.aUnitBytes a)).map fun (_, a) => Image.aEngine a

/-- Bytes written by an agent that is no Fixed-gear engine, or by one, over the Chainring (source 0) or Ihlex (1): the parts that lie in flagged units are discarded with
ARRIVAL_DUPLICATE, and flags are set (R240). -/
def State.memWriteBy (s : State) (src : Nat) (fixed : Bool) (off : Nat) (b : List Byte) : State :=
  let dup := (List.range b.length).any fun i => s.flaggedAt (off + i)
  let keep := fun o => !s.flaggedAt o
  let s' := if dup then
      -- the bytes of flagged units keep what they hold
      s.dramWrite fixed off ((List.range b.length).map fun i => if keep (off + i) then b.getD i 0 else s.mem.byte (off + i))
    else s.dramWrite fixed off b
  -- only bytes that are written set flags (R240, R259)
  let parts := if (s.accessFault true fixed off b.length).isNone then [(off, b.length)]
    else (linesOf off b.length).filterMap fun l =>
      let lo := max off (64 * l)
      if s.windowMode lo != 0 && (fixed || s.windowMode lo != 3) then some (lo, min (off + b.length) (64 * l + 64) - lo) else none
  let s' := s'.arrivalRecs.foldl (fun s' (k, a) => parts.foldl (fun s' (o, n) => s'.flagUnits src k a o n) s') s'
  match s.flaggedEngine off b.length with
  | some e => (s'.bump (Fld.ENG_n_ARRIVAL_DUPLICATES e)).raise Cause.ARRIVAL_DUPLICATE
  | none => s'

/-- Bytes written over the Chainring. -/
def State.memWrite (s : State) (fixed : Bool) (off : Nat) (b : List Byte) : State := s.memWriteBy 0 fixed off b

/-- The flags of the arrival regions of an engine are cleared when the task or iteration that reads them ends (R240). -/
def State.clearArrivals (s : State) (free : Bool) (p : List Byte → Bool) : State :=
  s.arrivalRecs.foldl (fun s (k, a) => if decide (65536 ≤ k) == free && p a then s.setArrival k {} else s) s

/-! ### Errors found on read (R255) -/

/-- The channel of a line, and its channel-local number. -/
def State.lineHome (s : State) (line : Nat) : Option (Nat × Nat) :=
  (Image.placeLine s.mem.layout (64 * line)).map fun p => (p.2.1, p.2.2)

/-- What the code of a line makes of errors in these of its 68 bytes (R254): 0 none, 1 one it corrects, 2 one it detects. It reads a poisoned line as uncorrectable (R255). What it makes of
errors in more than three bytes is a free value. -/
def State.codeFinds (s : State) (line : Nat) (e : List (Fin 68)) : State × Nat :=
  let n := ((List.range 68).filter fun i => e.any fun x => x.val == i).length
  if s.mem.poison.contains line then (s, 2)
  else if n = 0 then (s, 0)
  else if n = 1 then (s, 1)
  else if n ≤ 3 then (s, 2)
  else (s.useFree, s.free 8 % 3)

/-- A correctable error on a line: corrected and written back (R255). -/
def State.eccCorrected (s : State) (line : Nat) : State :=
  match s.lineHome line with
  | none => s
  | some (c, l) =>
    let again := s.mem.corrected.contains line
    let s := (s.bump (Fld.MEM_Cn_ECC_CORRECTED c)).setWord (Reg.MEM_Cn_ECC_LAST c) l
    let s := { s with mem := { s.mem with corrected := if again then s.mem.corrected else s.mem.corrected ++ [line] } }
    let s := s.raise Cause.ECC_CORRECTED
    if again then s.raise Cause.ECC_REPEAT else s

/-- An uncorrectable error on a line, in the consumer's region: the line is poisoned (R255). -/
def State.eccUncorrectable (s : State) (line kind region : Nat) : State :=
  match s.lineHome line with
  | none => s
  | some (c, l) =>
    let s := (s.bump (Fld.MEM_Cn_ECC_UNCORRECTABLE c)).setWord (Reg.MEM_Cn_ECC_LAST c) l
    ({ s with mem := s.mem.taint line }).raiseIn Cause.ECC_UNCORRECTABLE kind region

/-! ### The cache (R266 to R272) -/

/-- Are HASHED and HALVED windows cached? -/
def State.cached (s : State) : Bool := s.fget Fld.LLC_STATUS_CACHED == 1

/-- The cache and the L1s go out of service (R266, Table 18.4 kind 12). -/
def State.cacheOff (s : State) : State :=
  let s := ((s.fset Fld.LLC_STATUS_CACHED 0).fset Fld.LLC_STATUS_COHERENT 0).fset Fld.LLC_STATUS_SLICES_UP 0
  { s with mem := { s.mem with dir := [], llc := [], plru := [] } }

/-- The cache comes into service (ST12; R271). -/
def State.cacheOn (s : State) : State :=
  ((s.fset Fld.LLC_STATUS_CACHED 1).fset Fld.LLC_STATUS_COHERENT 1).fset Fld.LLC_STATUS_SLICES_UP 0xFFFF

/-- The directory entry of a line. -/
def Mem.dirEntry (m : Mem) (l : Nat) : DirEntry := m.dir.get (fun _ => {}) l

/-- L1 `k` reads a line: an owner and the reader then hold it shared (R269). -/
def Mem.l1Read (m : Mem) (k l : Nat) : Mem :=
  let e := m.dirEntry l
  let old := match e.owner with | some o => if o = k then 0 else 2 ^ o | none => 0
  let sh := e.shared ||| old ||| 2 ^ k
  if e.owner = some k then m else { m with dir := m.dir.put (fun _ => {}) l { shared := sh, owner := none } }

/-- L1 `k` writes a line: every other copy is invalidated and it owns the line (R269). -/
def Mem.l1Write (m : Mem) (k l : Nat) : Mem := { m with dir := m.dir.put (fun _ => {}) l { shared := 0, owner := some k } }

/-- L1 copies of a line. -/
def DirEntry.copies (e : DirEntry) : Nat := (if e.owner.isSome then 1 else 0) + ((List.range 20).filter fun k => bitOn e.shared k).length

/-- A line is evicted: each L1 copy is back-invalidated (R269). -/
def State.evict (s : State) (l : Nat) : State :=
  let n := (s.mem.dirEntry l).copies
  let s := { s with mem := s.mem.dropLine l }
  if n = 0 then s else s.bump Fld.LLC_BACKINV_COUNT n

/-! ### The Chainring's plan and tables (R246, R249) -/

/-- Chainring cycles in `t` ns of a clock plan: 1.2, 0.8 and 0.6 GHz (Table 2.6). -/
def cyclesIn (plan t : Nat) : Nat := if plan = 0 then 6 * t / 5 else if plan = 1 then 4 * t / 5 else 3 * t / 5

/-- The Chainring cycle of the present time, counted from the frames' origin. -/
def State.cycleNow (s : State) : Nat := cyclesIn s.mem.plan (s.now - s.mem.frameAt)

/-- The time at which a Chainring cycle begins. -/
def State.cycleTime (s : State) (u : Nat) : Nat :=
  s.mem.frameAt + if s.mem.plan = 0 then (5 * u + 5) / 6 else if s.mem.plan = 1 then (5 * u + 3) / 4 else (5 * u + 2) / 3

/-- Slot frames in `t` ns of clock plan `plan`: 213.3, 320 and 426.7 ns (10.2). -/
def framesIn (plan t : Nat) : Nat := if plan = 0 then 3 * t / 640 else if plan = 1 then t / 320 else 3 * t / 1280

/-- Time of `n` Chainring cycles of a plan, in ns: 1.2, 0.8 and 0.6 GHz (Table 2.6). -/
def cyclesNs (plan n : Nat) : Nat := if plan = 0 then 5 * n / 6 else if plan = 1 then 5 * n / 4 else 5 * n / 3

/-- CRG_FRAME: slot frames since the fast domain started. -/
def State.frameCount (s : State) : Nat := s.mem.frameBase + framesIn s.mem.plan (s.now - s.mem.frameAt)

/-- The Chainring runs under a plan from now on, with the tables that the accepted image carries for it (R249, R262). -/
def State.setTables (s : State) (plan : Nat) : State :=
  let v := (Image.variantRecs s.fxg.image).find? fun v => Image.vPlan v == plan
  let tab := fun (f : List Byte → Nat) (n : Nat) => match v with
    | some v => if f v = 0 then [] else slice s.fxg.image (f v) n
    | none => []
  let same := decide (plan = s.mem.plan)
  { s with mem := { s.mem with
      frameBase := if same then s.mem.frameBase else s.frameCount
      frameAt := if same then s.mem.frameAt else s.now
      ringAt := if same then s.mem.ringAt else 0
      blocks := if same then s.mem.blocks else []
      boardStop := none, plan
      slotTable := if s.mem.folded then [] else tab Image.vCrgOff 1024
      memTable := tab Image.vMemOff 16 } }

/-- Reserved slots of a ring: 0 CW, 1 CCW. -/
def State.reservedSlots (s : State) (ring : Nat) : Nat :=
  ((List.range 256).filter fun i => bitOn (rd s.mem.slotTable (2 * (256 * ring + i)) 2) 15).length

/-! ### The controllers' time (R261 to R263, R265) -/

/-- Block slots in a frame (Table 10.5). -/
def planSlots (plan : Nat) : Nat := if plan = 0 then 4 else if plan = 1 then 5 else 3

/-- Length of a block slot in ns (Table 10.5). -/
def blockNs (plan : Nat) : Nat := if plan = 0 then 48 else if plan = 1 then 60 else 120

/-- The refresh mode is ADAPTIVE (R263). -/
def State.adaptive (s : State) : Bool := !s.fxg.image.isEmpty && decide (Image.mask s.fxg.image = 0) && s.fget Fld.MEM_CONFIG_REFRESH_ADAPT == 1

/-- The block slots that are reserved on a channel, as a mask: those of the table in use; none in ADAPTIVE mode (R262, R263). -/
def State.reservedBlocks (s : State) (ch : Nat) : Nat := if s.adaptive then 0 else rd s.mem.memTable (2 * ch) 2 % 256

/-- When block slot n begins, counted from the frames' origin. -/
def State.blockStart (s : State) (n : Nat) : Nat :=
  s.cycleTime (256 * (n / planSlots s.mem.plan)) + n % planSlots s.mem.plan * blockNs s.mem.plan

/-- Is block slot n reserved on a channel? -/
def State.blockReserved (s : State) (ch n : Nat) : Bool := bitOn (s.reservedBlocks ch) (n % planSlots s.mem.plan)

/-- The block slot that serves the next access on a channel: for a Fixed-gear transfer the next reserved one, for other traffic the next unreserved one that has served fewer than 16
(R261; that an access takes a slot which begins after its request is a DESIGN CHOICE, log entry 186). -/
def State.blockFor (s : State) (ch : Nat) (fixed : Bool) : Option Nat :=
  let k := planSlots s.mem.plan
  let first := k * framesIn s.mem.plan (s.now - s.mem.frameAt)
  let used := s.mem.blocks.get (fun _ => (0, 0)) ch
  let lo := if fixed then first else max first (if used.2 < 16 then used.1 else used.1 + 1)
  ((List.range (2 * k + 1)).map (· + lo)).find? fun n => decide (s.now ≤ s.blockStart n) && s.blockReserved ch n == fixed

/-- An access takes its block slot; with it, when the slot ends. -/
def State.takeBlock (s : State) (ch : Nat) (fixed : Bool) : State × Option Nat :=
  match s.blockFor ch fixed with
  | none => (s, none)
  | some n =>
    let used := s.mem.blocks.get (fun _ => (0, 0)) ch
    (if fixed then s else { s with mem := { s.mem with blocks := s.mem.blocks.put (fun _ => (0, 0)) ch (n, if used.1 = n then used.2 + 1 else 1) } },
      some (s.blockStart n + blockNs s.mem.plan))

/-- A line is read from DRAM, in a block slot of its channel: its answer is ready at the end of the slot. -/
def State.readLine (s : State) (line : Nat) (fixed : Bool) : State :=
  match s.lineHome line with
  | none => s
  | some (ch, _) => match s.takeBlock ch fixed with
    | (s, some t) => { s with mem := { s.mem with reads := s.mem.reads ++ [(line, t)] } }
    | (s, none) => s

/-- A line is written to DRAM, in a block slot of its channel. -/
def State.writeLine (s : State) (line : Nat) (fixed : Bool) : State :=
  match s.lineHome line with
  | none => s
  | some (ch, _) => (s.takeBlock ch fixed).1

/-- The half of a stop (Table 10.1). -/
def stopHalf (stop : Nat) : Nat := if stop < 15 then 0 else 1

end Sys2Proof.Machine
end

