-- ==== Sys2Proof/Machine/Ihx.lean ====
section
/-! DEFINITION. The Ihlex engine: frames, windows, acknowledgement, retransmission and pushes (sections 17.5 to 17.7). -/
namespace Sys2Proof.Machine

/-! ### Access -/

/-- Peer `id`. -/
def State.peer (s : State) (id : Nat) : Peer := s.ihx.peers.get (fun _ => {}) id
/-- Set peer `id`. -/
def State.setPeer (s : State) (id : Nat) (p : Peer) : State := { s with ihx := { s.ihx with peers := s.ihx.peers.put (fun _ => {}) id p } }
/-- This module's ID. -/
def State.moduleId (s : State) : Nat := s.fget Fld.IHX_ID_ID
/-- The Ihlex engine runs: it has an ID, and the level is not PL4 (R408, Table 17.3). -/
def State.ihxOn (s : State) : Bool := s.fget Fld.IHX_ID_VALID == 1 && s.operational && decide (s.sup.level ≤ 3)
/-- The route of a module: 0 not routed, 1 port 4, 2 port 5 (R410). -/
def State.route (s : State) (id : Nat) : Nat := s.word (Reg.IHX_ROUTEk (id / 16)) / 4 ^ (id % 16) % 4
/-- Is a module declared lost? -/
def State.isLost (s : State) (id : Nat) : Bool := bitOn (s.word (Reg.IHX_LOSTj (id / 32))) (id % 32)
/-- Declare a module lost or reachable. -/
def State.setLost (s : State) (id : Nat) (b : Bool) : State :=
  let off := Reg.IHX_LOSTj (id / 32)
  s.setWord off (setBits (s.word off) (id % 32) (id % 32) (if b then 1 else 0))
/-- The low 32 bits of IMAGE_ID of the accepted Freewheel image, or 0. -/
def State.imageLow (s : State) : Nat := if s.fwh.image.isEmpty then 0 else Image.imageId s.fwh.image % 2 ^ 32

/-- Has a period passed since a notice was last raised? -/
def dueAgain (now : Nat) (last : Option Nat) (period : Nat) : Bool :=
  match last with
  | some t => decide (t + period ≤ now)
  | none => true

/-! ### Frames (R409, R411) -/

/-- The Ihlex MAC of a module ID. -/
def State.ihxMac (s : State) (id : Nat) : Nat := 0x024B57000000 + s.fget Fld.IHX_ID_SYSTEM * 65536 + id

/-- The header fields of a frame to be sent, beside its type, destination and payload (Table 17.4). -/
structure IhxFields where
  seq : Nat := 0
  ack : Nat := 0
  addr : Nat := 0
  job : Nat := 0xFFFF
  phase : Nat := 0
  flags : Nat := 0
  run : Nat := 0
  image : Nat := 0
  barrier : Nat := 0
  count : Nat := 0
  value : Nat := 0
  deriving DecidableEq, Repr

/-- The bytes of an Ihlex frame after its EtherType. -/
def ihxBytes (type src dst : Nat) (f : IhxFields) (payload : List Byte) : List Byte :=
  let h := leBytes 1 1 ++ leBytes 1 type ++ leBytes 2 src ++ leBytes 2 dst ++ leBytes 2 payload.length ++ leBytes 4 f.seq ++ leBytes 4 f.ack ++ leBytes 8 f.addr ++
    leBytes 2 f.job ++ leBytes 1 f.phase ++ leBytes 1 f.flags ++ leBytes 4 f.run ++ leBytes 4 f.image ++ leBytes 2 f.barrier ++ leBytes 2 f.count ++ leBytes 4 f.value
  h ++ leBytes 4 (crc32c (h ++ payload)) ++ payload

/-- Send one Ihlex frame on the port that the route gives; with no route nothing is sent (R410). -/
def State.ihxSend (s : State) (type dst : Nat) (f : IhxFields) (payload : List Byte) : State :=
  let r := s.route dst
  if r = 0 then s
  else
    let tag := if s.fget Fld.IHX_VLAN_TAGGED = 1 then beBytes 2 0x8100 ++ beBytes 2 (bits (s.word Reg.IHX_VLAN) 14 0) else []
    let cls := s.classOf (if s.fget Fld.IHX_VLAN_TAGGED = 1 then s.fget Fld.IHX_VLAN_PCP else 0)
    let b := beBytes 6 (s.ihxMac dst) ++ beBytes 6 (s.ihxMac s.moduleId) ++ tag ++ beBytes 2 0x88B5 ++ ihxBytes type s.moduleId dst f payload
    let s := s.setPeer dst { s.peer dst with lastTx := s.now }
    if s.swUp (3 + r) then s.enqueueFrame (3 + r) { cls, at' := s.now, bytes := b } else s

/-- Is a received frame whole: version, type, length and CRC? -/
def ihxWhole (b : List Byte) : Bool :=
  decide (48 ≤ b.length) && decide (rd b 0 1 = 1) && decide (1 ≤ rd b 1 1 ∧ rd b 1 1 ≤ 6) && decide (rd b 6 2 % 64 = 0) && decide (rd b 6 2 ≤ 8192) &&
    decide (b.length = 48 + rd b 6 2) && decide (rd b 44 4 = crc32c (b.take 44 ++ b.drop 48))

/-- A received frame before its type is looked at (R408, R409, R412, R417): none when it is discarded. A peer that was lost is back. -/
def State.ihxReceive (s : State) (b : List Byte) : State × Option Nat :=
  if !s.ihxOn then (s, none)
  else if !ihxWhole b then
    let s := s.bump Fld.IHX_RX_BAD_COUNT
    if dueAgain s.now s.ihx.badAt 1000000000 then (({ s with ihx := { s.ihx with badAt := some s.now } }).raise Cause.IHX_BAD_FRAME, none) else (s, none)
  else
    let src := bits (rd b 2 2) 9 0
    if src = s.moduleId then
      if dueAgain s.now s.ihx.idAt 60000000000 then (({ s with ihx := { s.ihx with idAt := some s.now } }).raise Cause.IHX_ID_CONFLICT, none) else (s, none)
    else if bits (rd b 4 2) 9 0 ≠ s.moduleId then (s, none)
    else
      let s := s.setPeer src { s.peer src with lastRx := s.now }
      if s.isLost src then (((s.setLost src false).raise Cause.IHX_PEER_BACK).msix 67, some src) else (s, some src)

/-! ### Sequence numbers -/

/-- How far `a` lies after `b` in the cycle 1 to 0xFFFFFFFF. -/
def seqAfter (a b : Nat) : Nat := (a + 0xFFFFFFFF - b) % 0xFFFFFFFF
/-- The sequence number after `a`. -/
def seqNext (a : Nat) : Nat := if a = 0xFFFFFFFF then 1 else a + 1

/-! ### Sending (R413, R416, R419, R327) -/

/-- IHX_WINDOW_FULL, at most once per second (R413). -/
def State.windowFull (s : State) : State :=
  if dueAgain s.now s.ihx.fullAt 1000000000 then (({ s with ihx := { s.ihx with fullAt := some s.now } }).raise Cause.IHX_WINDOW_FULL).msix 67 else s

/-- Slots held. -/
def State.slotsHeld (s : State) : Nat := (s.ihx.peers.filter fun p => p.2.slot).length

/-- Every frame queued or unacknowledged, to any peer. -/
def State.ihxFrames (s : State) : List TxFrame := s.ihx.peers.flatMap fun p => p.2.wait ++ p.2.unacked

/-- A frame of a piece waits for every tile of an earlier round of its phase (R327); a doorbell for every earlier tile of its queue pair to its destination (R419). -/
def State.txBlocked (s : State) (p : Peer) (f : TxFrame) : Bool :=
  match f.src with
  | .piece r ph n => s.ihxFrames.any fun g => match g.src with | .piece r' ph' n' => r' == r && ph' == ph && decide (n' < n) | .push _ _ => false
  | .push qp _ => f.type == 3 && p.unacked.any fun g => match g.src with | .push q _ => q == qp && g.type == 1 | .piece _ _ _ => false

/-- The header fields of a TILE or DOORBELL. -/
def TxFrame.fields (f : TxFrame) : IhxFields :=
  { seq := f.seq, addr := f.addr, job := f.job, phase := f.phase, run := f.run, image := f.image, value := f.value }

/-- Transmit a frame that has its sequence number. -/
def State.transmit (s : State) (dst : Nat) (f : TxFrame) : State :=
  let s := s.ihxSend f.type dst f.fields f.payload
  if f.type = 1 then s.bump64 Reg.IHX_TX_TILES else s

/-- Send what waits for a peer while it has a slot and window space; `fuel` covers the queue. -/
def State.pump (s : State) (dst : Nat) : Nat → State
  | 0 => s
  | fuel + 1 =>
    let p := s.peer dst
    match p.wait with
    | [] => s
    | f :: t =>
      if !p.slot then
        if s.slotsHeld < 64 then (s.setPeer dst { p with slot := true }).pump dst fuel
        else
          let s := if s.ihx.slotWait.contains dst then s else { s with ihx := { s.ihx with slotWait := s.ihx.slotWait ++ [dst] } }
          s.windowFull
      else if s.fget Fld.IHX_CONFIG_WINDOW ≤ p.unacked.length then s.windowFull
      else if s.txBlocked p f then s
      else
        let f := { f with seq := p.nextSeq, tries := 1, sentAt := s.now }
        ((s.setPeer dst { p with wait := t, unacked := p.unacked ++ [f], nextSeq := seqNext p.nextSeq }).transmit dst f).pump dst fuel

/-- Fuel that covers a peer's queue. -/
def State.pumpAll (s : State) (dst : Nat) : State := s.pump dst ((s.peer dst).wait.length + 2)

/-- Pump every peer that has something waiting. -/
def State.pumpEvery (s : State) : State := (s.ihx.peers.filter fun p => !p.2.wait.isEmpty).foldl (fun s p => s.pumpAll p.1) s

/-- Queue frames to a peer. -/
def State.ihxQueue (s : State) (dst : Nat) (fs : List TxFrame) : State :=
  (s.setPeer dst { s.peer dst with wait := (s.peer dst).wait ++ fs }).pumpAll dst

/-- Every frame queued or unacknowledged to a peer is discarded (R417). -/
def State.dropFrames (s : State) (dst : Nat) (p : TxFrame → Bool) : State :=
  let x := s.peer dst
  s.setPeer dst { x with wait := x.wait.filter fun f => !p f, unacked := x.unacked.filter fun f => !p f, idleSince := s.now }

/-! ### Pushes (R418 to R420) -/

/-- The result of an IHLEX_PUSH: bytes acknowledged and retransmissions, saturating. -/
def Push.result (p : Push) : Nat := p.acked + 2 ^ 32 * min 0xFFFF p.retrans

/-- A push ends with a status; what it still has waiting is not sent. -/
def State.endPush (s : State) (p : Push) (status fault : Nat) : State :=
  let mine := fun (f : TxFrame) => f.src == TxFrom.push p.qp p.d
  let x := s.peer p.dest
  let s := s.setPeer p.dest { x with wait := x.wait.filter fun f => !mine f }
  let s := { s with ihx := { s.ihx with pushes := s.ihx.pushes.filter fun q => !(q.qp == p.qp && q.d == p.d) } }
  s.complete p.qp p.d status fault (if status = St.POWER_STOP then 0 else p.result)

/-- Frames were acknowledged: their pushes count them, and complete with the last one (R420). -/
def State.countAcked (s : State) (fs : List TxFrame) : State :=
  fs.foldl (fun s f =>
    match s.ihx.pushes.find? fun p => f.src == TxFrom.push p.qp p.d with
    | none => s
    | some p =>
      let p' := { p with acked := p.acked + f.payload.length, left := p.left - 1 }
      let s := { s with ihx := { s.ihx with pushes := s.ihx.pushes.map fun q => if q == p then p' else q } }
      if p'.left = 0 then s.endPush p' St.OK 0 else s) s

/-- May a write of `n` bytes at a module address come from Ihlex? It lies in one HASHED or HALVED window (R415). -/
def State.ihxMayWrite (s : State) (addr n : Nat) : Bool :=
  let off := bits addr 40 0
  bitOn addr 63 && decide (bits addr 62 41 = 0) &&
    (match Image.windowAt s.mem.layout off with
      | some w =>
        let e := Image.window s.mem.layout w
        decide (Image.wMode e = 1 ∨ Image.wMode e = 2) && decide (off + n ≤ (Image.wBase e + Image.wSize e) * 2 ^ 26)
      | none => false)

/-- A tile that is no exchange tile, or a doorbell, is written at its address; the flag tells that it was refused (R415). `src` 0 is the Chainring: a transfer to the module
itself (R410). -/
def State.ihxWrite (s : State) (src addr : Nat) (b : List Byte) : State × Bool :=
  if s.ihxMayWrite addr b.length then (s.memWriteBy src false (bits addr 40 0) b, false) else (s.raise Cause.IHX_BAD_ADDR, true)

/-- The tiles of a push (R419). -/
def tilesOf (qp : Nat) (d : List Byte) (addr : Nat) : Nat → List Byte → List TxFrame
  | 0, _ => []
  | fuel + 1, b =>
    if b.isEmpty then []
    else { type := 1, src := .push qp d, addr, payload := b.take 8192 } :: tilesOf qp d (addr + 8192) fuel (b.drop 8192)

/-- A retransmission (R416). -/
def State.resend (s : State) (dst : Nat) (f : TxFrame) : State :=
  let g := { f with tries := f.tries + 1, sentAt := s.now }
  let p := s.peer dst
  let s := s.setPeer dst { p with unacked := p.unacked.map fun x => if x.seq == f.seq then g else x }
  let s := s.bump Fld.IHX_RETRANS_COUNT
  let s := { s with ihx := { s.ihx with pushes := s.ihx.pushes.map fun (q : Push) => if f.src == TxFrom.push q.qp q.d then { q with retrans := q.retrans + 1 } else q } }
  s.transmit dst g

/-- May a frame be sent once more? -/
def State.mayResend (s : State) (f : TxFrame) : Bool := decide (f.tries ≤ s.fget Fld.IHX_CONFIG_RETRIES)

/-- What an ACK covers: SEQs below ACK, and those of the bitmap. -/
def ackCovers (ack map seq : Nat) : Bool :=
  let k := seqAfter ack seq
  let j := seqAfter seq ack
  (decide (0 < k) && decide (k < 2 ^ 31)) || (decide (1 ≤ j ∧ j ≤ 64) && bitOn map (j - 1))

/-- Has a SEQ later than this one been received, as the ACK shows it? -/
def laterReceived (ack map seq : Nat) : Bool :=
  (List.range 64).any fun i => bitOn map i && (let x := seqAfter (ack + 1 + i) seq; decide (0 < x) && decide (x < 2 ^ 31))

/-! ### Receiving (R414) -/

/-- Send an ACK to a peer: `ack` and the SEQs above it that were received. -/
def State.sendAck (s : State) (src ack : Nat) (reject : Bool) : State :=
  let p := s.peer src
  let got := fun (x : Nat) => p.rxAbove.contains x || (let k := seqAfter p.rxNext x; decide (0 < k) && decide (k < 2 ^ 31))
  let map := maskOf 64 fun i => got (seqNext ((ack + i) % 0xFFFFFFFF))
  let s := s.setPeer src { p with rxCount := 0, ackDue := false }
  s.ihxSend 2 src { ack, addr := map, flags := if reject then 1 else 0 } []

/-- The lowest SEQ not yet received advances. -/
def advanceRx (above : List Nat) : Nat → Nat → Nat
  | n, 0 => n
  | n, fuel + 1 => if above.contains n then advanceRx above (seqNext n) fuel else n

/-- A TILE or DOORBELL was received with a SEQ; a refused one is told once the ACK covers it (R414, R415). -/
def State.rxSeq (s : State) (src seq : Nat) (refused : Bool) : State :=
  let p := s.peer src
  let k := seqAfter seq p.rxNext
  let p := if k = 0 then
      let n := advanceRx p.rxAbove (seqNext p.rxNext) (p.rxAbove.length + 1)
      { p with rxNext := n, rxAbove := p.rxAbove.filter fun x => decide (seqAfter x n < 2 ^ 31) }
    else if k ≤ 64 ∧ p.rxAbove.contains seq = false then { p with rxAbove := p.rxAbove ++ [seq] }
    else p
  let p := if refused && !p.rejects.contains seq then { p with rejects := p.rejects ++ [seq] } else p
  let passed := p.rejects.filter fun r => decide (0 < seqAfter p.rxNext r) && decide (seqAfter p.rxNext r < 2 ^ 31)
  let s := s.setPeer src { p with rxCount := p.rxCount + 1, ackDue := true, rxAt := s.now, rejects := p.rejects.filter fun r => !passed.contains r }
  if !passed.isEmpty then passed.foldl (fun s r => s.sendAck src (seqNext r) true) s
  else if 8 ≤ p.rxCount + 1 then s.sendAck src p.rxNext false
  else s

end Sys2Proof.Machine
end

