-- ==== Sys2Proof/Machine/LayerMath.lean ====
section
/-! DEFINITION. The layers of a stripe group: the window gatherer, padding, pooling, products, and the group's stripes with their halos (R199 to R206, R219, R223). -/
namespace Sys2Proof.Machine

/-- Elements of a type in a row of bytes: element k (R15). -/
def elemAt (f : Nat) (b : List Byte) (k : Nat) : Int :=
  if f = 0 then toSigned 4 ((b.getD (k / 2) 0).toNat / (if k % 2 = 0 then 1 else 16) % 16)
  else
    let n := fmtBits f / 8
    if fmtIsInt f then rdInt b (k * n) n else (rd b (k * n) n : Int)

/-- The tensor of h × w × c elements that lies in memory: FRC blocks, or rows of their type (R15, R215). -/
def tensorOf (f ratio h w c : Nat) (b : List Byte) : Ten :=
  if ratio = 0 then
    let rb := Chain.rowBytes f (w * c)
    (List.range h).map fun y =>
      let row := slice b (rb * y) rb
      (List.range w).map fun x => (List.range c).map fun z => elemAt f row ((x * c) + z)
  else Frc.decode (f == 3) ratio b h w c

/-- Bytes of a tensor in memory. -/
def tensorBytes (f ratio h w c : Nat) : Nat :=
  if ratio = 0 then h * Chain.rowBytes f (w * c) else Frc.blockCount h w c * Frc.blockBytes (f == 3) ratio

namespace Layer

/-- Kernel geometry of a layer record (Table 8.3). -/
def dilH (l : List Byte) : Nat := rd l 4 1
def dilW (l : List Byte) : Nat := rd l 5 1
def padT (l : List Byte) : Nat := rd l 6 1 % 16
def padL (l : List Byte) : Nat := rd l 7 1 % 16
def opOf (l : List Byte) : Nat := rd l 15 1
def unitOf (l : List Byte) : Nat := rd l 13 1

/-- What padding reads as (R201). -/
def padValue (l : List Byte) : Int := if Image.lType l = 3 then 0 else toSigned 8 (rd l 14 1)

/-- The input rows that output row y reads, of the h rows of the tensor. -/
def rowsRead (l : List Byte) (h y : Nat) : List Nat :=
  (List.range (Image.lKh l)).filterMap fun i =>
    let r := y * Image.lSh l + i * dilH l
    if r < padT l ∨ padT l + h ≤ r then none else some (r - padT l)

/-- The element under kernel position (i, j) for output (y, x); `none` where it lies in padding. The band's first column is x0. -/
def under (l : List Byte) (t : Ten) (x0 y x i j c : Nat) : Option Int :=
  let r := y * Image.lSh l + i * dilH l
  let q := x * Image.lSw l + j * dilW l
  if r < padT l ∨ q < padL l + x0 then none else Frc.elem? t (r - padT l) (q - padL l - x0) c

/-- The kernel positions in order: row, then column (R201). -/
def taps (l : List Byte) : List (Nat × Nat) :=
  (List.range (Image.lKh l)).flatMap fun i => (List.range (Image.lKw l)).map fun j => (i, j)

/-- The input vector that the window gatherer forms for output (y, x): by kernel row, kernel column, channel; padding takes PAD_VALUE (R201). -/
def gather (l : List Byte) (t : Ten) (x0 y x : Nat) : List Int :=
  (taps l).flatMap fun (i, j) => (List.range (Image.lCin l)).map fun c => (under l t x0 y x i j c).getD (padValue l)

/-- The elements of a channel under the kernel that lie inside the input (R202). -/
def inside (l : List Byte) (t : Ten) (x0 y x c : Nat) : List Int := (taps l).filterMap fun (i, j) => under l t x0 y x i j c

/-- Max pooling: the largest element, in FP32 for BF16 (R202). -/
def maxPool (ty : Nat) (vs : List Int) : Int :=
  if ty = 3 then (((vs.drop 1).foldl (fun a v => fmax a (bfWiden v.toNat)) (bfWiden (vs.headD 0).toNat) : Nat) : Int)
  else vs.foldl max (vs.headD 0)

/-- Average pooling (R202): INT8 rounds the exact quotient with ties away from zero; BF16 sums and divides in FP32 and rounds to BF16, given here in FP32. -/
def avgPool (ty : Nat) (vs : List Int) : Int :=
  if ty = 3 then
    let sum := (vs.drop 1).foldl (fun a v => fadd a (bfWiden v.toNat)) (bfWiden (vs.headD 0).toNat)
    ((bfWiden (bf16.ofF32 (fdiv sum (fofInt vs.length))) : Nat) : Int)
  else rndDiv vs.sum vs.length true

/-- A 32-bit accumulator: a sum beyond INT32 is an unstated value (log entry 176). -/
def acc32 (v : Int) : Int := if v < -(2 ^ 31) ∨ 2 ^ 31 ≤ v then (Config.accBeyond v).toInt else v

/-- The inner product of a vector with weights on the digital product unit or the vector unit: exact for INT8; how a BF16 sum rounds is an unstated value (log entry 176). -/
def dot (ty : Nat) (x w : List Int) : Int :=
  if ty = 3 then ((Config.productBf16 (x.map fun v => BitVec.ofInt 16 v) (w.map fun v => BitVec.ofInt 16 v)).toNat : Int)
  else acc32 (((x.zip w).map fun p => p.1 * p.2).sum)

/-- The weights of output channel c: `w` has one row per receptive-field element and one column per output channel (8.1). -/
def columnOf (w : List (List Int)) (c : Nat) : List Int := w.map fun r => r.getD c 0

/-- What the layer's unit makes of output (y, x) (R199 to R202): on the arrays one MVM for each row block of up to 512 elements. `drift` tells by how much the
analog columns change the accumulator of an output element. -/
def outAt (l : List Byte) (fixed : Bool) (wk : LayerWork) (t : Ten) (x0 y x : Nat) : List Int :=
  let ty := Image.lType l
  (List.range (Image.lCout l)).map fun c =>
    if opOf l = 2 then maxPool ty (inside l t x0 y x c)
    else if opOf l = 3 then avgPool ty (inside l t x0 y x c)
    else if opOf l = 1 then dot ty ((taps l).map fun (i, j) => (under l t x0 y x i j c).getD (padValue l)) (columnOf wk.weights c)
    else
      let v := gather l t x0 y x
      let w := columnOf wk.weights c
      if unitOf l = 0 then
        let xs := MvmMath.chunks 512 ((v.length + 511) / 512) v
        let d := ((wk.drift.filter fun e => e.1 == y && e.2.1 == x && e.2.2.1 == c).map fun e => e.2.2.2).sum
        acc32 ((xs.zipIdx.map fun (b, i) => MvmMath.product fixed (ty == 0) wk.wide b ((w.drop (512 * i)).take 512)).sum + d)
      else dot ty v w

/-- The accumulators of a layer's output rows, columns a to b, from the h rows of a band of its input; a row that is late, or reads one that was not computed, is empty (R241). -/
def accs (l : List Byte) (fixed : Bool) (wk : LayerWork) (late : Nat → Bool) (h : Nat) (t : Ten) (x0 a b : Nat) : Ten :=
  (List.range (Image.outSize h (padT l) (rd l 6 1 / 16) (Image.lEh l) (Image.lSh l))).map fun y =>
    if late y || (rowsRead l h y).any (fun r => (t.getD r []).isEmpty) then []
    else (List.range (b + 1 - a)).map fun i => outAt l fixed wk t x0 y (a + i)

end Layer

/-! ### Shards and pieces of a phase (R323, R324) -/

/-- Where two ranges (start, length) meet. -/
def overlap (a b : Nat × Nat) : Nat × Nat :=
  let lo := max a.1 b.1
  (lo, min (a.1 + a.2) (b.1 + b.2) - lo)

/-- What member k of m holds along an axis of n elements: its share where the layout's KIND cuts that axis (0 columns, 1 channels), else all of it (R323). -/
def shardCut (kind axis n m k : Nat) : Nat × Nat := if kind = axis then (k * (n / m), n / m) else (0, n)

/-- A member's columns and channels of a phase's boundary tensor, under a KIND. -/
def shardBox (p : List Byte) (kind k : Nat) : (Nat × Nat) × (Nat × Nat) :=
  let m := max 1 (Image.phMembers p)
  (shardCut kind 0 (rd p 22 2) m k, shardCut kind 1 (rd p 24 2) m k)

/-- The piece from member a to member b: the columns and channels that a holds and b needs (R323). -/
def pieceBox (p : List Byte) (a b : Nat) : (Nat × Nat) × (Nat × Nat) :=
  if rd p 4 1 = 2 ∧ a ≠ b then ((0, 0), (0, 0))
  else
    let x := shardBox p (rd p 4 1) a
    let y := shardBox p (rd p 5 1) b
    (overlap x.1 y.1, overlap x.2 y.2)

/-- Bytes of the piece from member a to member b; 0 when it is empty (R323, R324). -/
def pieceBytes (p : List Byte) (a b : Nat) : Nat :=
  let x := pieceBox p a b
  if x.1.2 = 0 ∨ x.2.2 = 0 then 0 else Cells.bytes (rd p 18 1) (rd p 19 1) (rd p 20 2) x.1.2 x.2.2

/-- Where the piece from member a starts in a region of units of `size` bytes (R324). -/
def pieceStart (p : List Byte) (size a : Nat) : Nat := if rd p 4 1 = 2 then 0 else a * Image.pieceUnits p size * size

/-- The piece from member a to member b, cut out of what a holds of the boundary tensor (R323, R324). -/
def pieceOf (p : List Byte) (a b : Nat) (held : List Byte) (pad : Nat → Byte) : List Byte :=
  let f := rd p 18 1
  let q := rd p 19 1
  let own := shardBox p (rd p 4 1) a
  let x := pieceBox p a b
  let e := Cells.edge q
  Cells.build f q (rd p 20 2) x.1.2 x.2.2 (fun r i z => Cells.at_ f q own.1.2 own.2.2 held r (i + (x.1.1 - own.1.1) / e) (z + (x.2.1 - own.2.1) / e)) pad

/-- The tensor that member b needs, put together from the pieces in its region (R324). -/
def piecesJoined (p : List Byte) (b size : Nat) (region : List Byte) : List Byte :=
  let f := rd p 18 1
  let q := rd p 19 1
  let e := Cells.edge q
  let need := shardBox p (rd p 5 1) b
  Cells.build f q (rd p 20 2) need.1.2 need.2.2 (fun r i z =>
    let i := i * e + need.1.1
    let z := z * e + need.2.1
    let holds := fun (c : Nat × Nat) (n : Nat) => decide (c.1 ≤ n) && decide (n < c.1 + c.2)
    match (List.range (max 1 (Image.phMembers p))).find? fun a => holds (pieceBox p a b).1 i && holds (pieceBox p a b).2 z with
    | some a =>
      let x := pieceBox p a b
      Cells.at_ f q x.1.2 x.2.2 (region.drop (pieceStart p size a)) r ((i - x.1.1) / e) ((z - x.2.1) / e)
    | none => []) fun _ => 0

/-- The units of a phase's region that hold input row r of the tensor that member b needs: those of each piece's row of cells (R241, R324). -/
def pieceRowUnits (p : List Byte) (b size r : Nat) : List Nat :=
  (List.range (max 1 (Image.phMembers p))).flatMap fun a =>
    let x := pieceBox p a b
    if x.1.2 = 0 ∨ x.2.2 = 0 then []
    else
      let n := Cells.row (rd p 18 1) (rd p 19 1) x.1.2 x.2.2
      let lo := r / Cells.edge (rd p 19 1) * n
      (List.range ((lo + n - 1) / size + 1 - lo / size)).map fun i => pieceStart p size a / size + lo / size + i

namespace Image

/-- The column bands of stripe j, layer by layer: the columns that each layer of the group produces, headed by those that its first layer reads of the input (R203, R204). -/
def stripeBands (cs : List Chain.Rec) (g : Bytes) (j : Nat) : List (Nat × Nat) :=
  let ls := gLayers g
  let outs := layerOuts cs (gGroup g) 0 (gInW g) (gInH g) ls
  let last := (outs.getLastD (0, 0)).1
  let ins := gInW g :: outs.map (·.1)
  (List.range ls.length).reverse.foldl (fun bs i => match bs with
    | [] => []
    | c :: _ => colsBack (ls.getD i []) (poolOf cs (gGroup g) i) (ins.getD i 0) c :: bs)
    [(j * gStripeW g, min ((j + 1) * gStripeW g) last - 1)]

/-- The columns that a stripe fetches of an FRC tensor: its input band widened to whole blocks (R219). -/
def fetched (w : Nat) (c : Nat × Nat) : Nat × Nat := (c.1 / 8 * 8, min (c.2 / 8 * 8 + 7) (w - 1))

end Image

namespace Layer

/-- What one layer of a stripe produced: its first column, its stored band and the clamps of its prologue and epilogue. -/
structure Out where
  x0 : Nat
  t : Ten
  sat : Nat
  deriving DecidableEq, Repr

/-- One layer of a stripe (R201, R223, R229, R238): prologue on what enters the ring, products, epilogue. `c` is the column range that it produces. -/
def run (img : List Byte) (cs : List Chain.Rec) (g : List Byte) (fixed : Bool) (k : Nat) (wk : LayerWork) (late : Nat → Bool) (res : Ten × Nat) (h : Nat)
    (inp : Ten) (x0 : Nat) (c : Nat × Nat) : Out :=
  let l := (Image.gLayers g).getD k []
  match Image.chainOf? cs (Image.gGroup g) k with
  | none => ⟨c.1, [], 0⟩
  | some r0 =>
    let r := if r0.split then ((cs.find? fun q => q.part && q.group == r0.group && q.layer == r0.layer).map r0.joined).getD r0 else r0
    let p := Image.poolOf cs (Image.gGroup g) k
    let ring := Chain.prologue img r (Image.lType l) x0 inp
    let a := c.1 * p.2
    let u := Chain.epilogue img r res.1 res.2 ⟨accs l fixed wk late h ring.t x0 a (c.2 * p.2 + p.1 - 1), r.acc, 0, a⟩
    ⟨c.1, u.t, ring.sat + u.sat⟩

/-- The layers of a stripe from layer k on, with the bands that they produce. -/
def runAll (img : List Byte) (cs : List Chain.Rec) (g : List Byte) (fixed : Bool) (late : Nat → Nat → Bool) (res : Nat → Ten × Nat) : Nat → List LayerWork → Nat → Ten → Nat → List (Nat × Nat) → List Out
  | _, _, _, _, _, [] => []
  | k, ws, h, t, x0, c :: cs' =>
    let o := run img cs g fixed k (ws.headD {}) (late k) (res k) h t x0 c
    o :: runAll img cs g fixed late res (k + 1) (ws.drop 1) o.t.length o.t o.x0 cs'

/-- A stripe of a group on its input tensor (R203 to R205). -/
def stripe (img : List Byte) (cs : List Chain.Rec) (g : List Byte) (fixed : Bool) (late : Nat → Nat → Bool) (res : Nat → Ten × Nat)
    (ws : List LayerWork) (inp : Ten) (j : Nat) : List Out :=
  match Image.stripeBands cs g j with
  | [] => []
  | c :: bs => runAll img cs g fixed late res 0 ws inp.length (inp.map fun row => (row.drop c.1).take (c.2 + 1 - c.1)) c.1 bs

/-- The stripes' outputs of one layer as one tensor of `w` columns: a column that no stripe computed is empty, and so is a row that one of them did not compute. -/
def assemble (w : Nat) (os : List Out) : Ten :=
  (List.range (((os.map fun o => o.t.length).foldl max 0))).map fun y =>
    if os.any fun o => (o.t.getD y []).isEmpty then []
    else (List.range w).map fun x => ((os.find? fun o => decide (o.x0 ≤ x) && decide (x < o.x0 + (o.t.getD y []).length)).map fun o => (o.t.getD y []).getD (x - o.x0) []).getD []

end Layer

end Sys2Proof.Machine
end

