-- ==== Sys2Proof/Machine/Chains.lean ====
section
/-! DEFINITION. The work of a stripe group on a sample: its input, its layers and chains, its counters, its signatures, its compare entries and where its output goes (chapters 8 and 9). -/
namespace Sys2Proof.Machine

/-- What POST reads of a sample's 128 header bytes (R148, R170). -/
def tileInfo (hdr : List Byte) : Chain.TileInfo :=
  { posStart := rdInt hdr 24 8, tileIndex := rd hdr 80 4, overlapReset := bitOn (rd hdr 54 2) 5
    truncated := bitOn (rd hdr 92 2) 0 || bitOn (rd hdr 54 2) 10, validLines := rd hdr 88 4
    dirValid := bitOn (rd hdr 92 2) 5, falling := bitOn (rd hdr 92 2) 4, sampleId := rd hdr 0 8 }

/-- The compare entry of a detection: TEMPLATE with its position and sample ID (R233). -/
def postEntry (post : List Byte) (id : Nat) (pos : Int) : List Byte :=
  leBytes 8 (ofSigned 64 pos) ++ leBytes 8 id ++ slice post 80 16

/-- What a task or an iteration gives a stripe group to read: the sample's header and, for an iteration, its region's tensor and its start and clock plan; a RUN's IN_ADDR; the entries
that the sample has queued so far, and whether POST_LIMIT was raised for it; the record of the task's phase, and this module's member index. -/
structure Feed where
  free : Bool
  hdr : List Byte
  tensor : List Byte := []
  start : Nat := 0
  plan : Nat := 0
  inAddr : Nat := 0
  posts : List Posting
  limited : Bool
  phase : List Byte := []
  member : Nat := 0
  deriving DecidableEq, Repr

/-- The work that is done of a stripe group: the bytes of its output with their offsets, its entries, whether POST_LIMIT has been raised for the sample, whether a row came too late, and the
fault of a read that failed. -/
structure GroupDone where
  out : List (Nat × List Byte) := []
  posts : List Posting := []
  limited : Bool := false
  late : Bool := false
  bad : Option Nat := none
  deriving DecidableEq, Repr

/-- The registers of the group that runs on an engine (Tables 8.6, 9.7): which of its stripes runs is a free value, as timing is not modelled. -/
def State.showGroup (s : State) (img : List Byte) (p : Image.Part) (e : Nat) (g : List Byte) : State :=
  let k := Image.gGroup g
  let s := s.setWord (Reg.ENG_n_STRIPE e) (k * 65536 + (Config.freeValue s.freeCount).toNat % max 1 (Image.gStripes g) % 4096)
  let s := s.useFree 1
  let s := s.setWord (Reg.ENG_n_CHAIN e) (k * 65536)
  let s := s.fset (Fld.ENG_n_LB_USED_BYTES e) (Image.gLb g + if s.isFixed e then Image.intakeBytes s.fxg.image e else if Image.partition img = 1 then Image.intakeBytes img e else 0)
  s.fset (Fld.ENG_n_EB_USED_BYTES e) (((p.chains.filter fun q => q.group == k).map (·.eb)).sum)

/-- The region from which a group's first layer reads. -/
def firstRegion? (img : List Byte) (p : Image.Part) (g : List Byte) : Option (List Byte) :=
  (Image.chainOf? p.chains (Image.gGroup g) 0).bind fun r => Image.arrival? img r.region

/-- Where the input tensor of a group lies in module DRAM; `none` for the tensor of a region or in host memory. -/
def inputPlace (img : List Byte) (p : Image.Part) (g : List Byte) (f : Feed) : TensorSource → Option Nat
  | .sample => if f.free then some (bits (rd f.hdr 104 8) 40 0 + 128) else none
  | .input _ => if bitOn f.inAddr 63 then some (bits f.inAddr 40 0) else none
  | .place a => some (bits a.toNat 40 0)
  | .region => (firstRegion? img p g).map fun a => bits (Image.aBase a) 40 0

/-- Does a region hold the pieces of the task's phase? (R324) -/
def Feed.holdsPieces (f : Feed) (a : List Byte) : Bool := !f.phase.isEmpty && Image.phExchange f.phase && Image.phRegion f.phase == Image.aRegion a

/-- The bytes of a group's input tensor; a phase's region holds it in pieces (R324). -/
def State.inputBytes (s : State) (img : List Byte) (p : Image.Part) (g : List Byte) (f : Feed) (w : GroupWork) (n : Nat) : List Byte :=
  match inputPlace img p g f w.input with
  | some a =>
    match if w.input = .region then (firstRegion? img p g).filter f.holdsPieces else none with
    | some r => piecesJoined f.phase f.member (max 1 (Image.aUnitBytes r)) (s.dramRead a (Image.aUnits r * Image.aUnitBytes r))
    | none => s.dramRead a n
  | none => match w.input with
    | .input b => b
    | _ => f.tensor

/-- Does an output row of a layer whose chain has ARRIVAL lack a unit at the slot that the schedule declares for it, or now where none is given? (R241) -/
def State.lateRow (s : State) (img : List Byte) (p : Image.Part) (g : List Byte) (f : Feed) (w : GroupWork) (k y : Nat) : Bool :=
  match Image.chainOf? p.chains (Image.gGroup g) k with
  | none => false
  | some r =>
    match if r.arrival then Image.arrival? img r.region else none with
    | none => false
    | some a =>
      let l := (Image.gLayers g).getD k []
      let size := if k = 0 then (Image.gInW g, Image.gInH g)
        else (Image.layerOuts p.chains (Image.gGroup g) 0 (Image.gInW g) (Image.gInH g) (Image.gLayers g)).getD (k - 1) (0, 0)
      let ratio := if k = 0 then rd g 3 1 % 4 else 0
      let x := s.arrival (Image.aRegion a + if f.free then 65536 else 0)
      let unit := max 1 (Image.aUnitBytes a)
      let due := match w.slots.find? fun t => t.1 == k && t.2.1 == y with
        | some t => f.start + cyclesNs f.plan t.2.2
        | none => s.now
      (Layer.rowsRead l size.2 y).any fun r =>
        let n := if ratio = 0 then Chain.rowBytes (Image.lType l) (size.1 * Image.lCin l) else tensorBytes (Image.lType l) ratio 8 size.1 (Image.lCin l)
        let lo := (if ratio = 0 then r else r / 8) * n
        let units := if f.holdsPieces a then pieceRowUnits f.phase f.member unit r else (List.range ((lo + n - 1) / unit + 1 - lo / unit)).map fun i => lo / unit + i
        units.any fun u => !(x.flags.contains u) || x.times.any fun t => t.1 == u && decide (due < t.2)

/-- The rows of a group's layers that lack a unit, as (layer, row). -/
def State.lateRows (s : State) (img : List Byte) (p : Image.Part) (g : List Byte) (f : Feed) (w : GroupWork) : List (Nat × Nat) :=
  let outs := Image.layerOuts p.chains (Image.gGroup g) 0 (Image.gInW g) (Image.gInH g) (Image.gLayers g)
  (List.range outs.length).flatMap fun k =>
    let l := (Image.gLayers g).getD k []
    let h := if k = 0 then Image.gInH g else (outs.getD (k - 1) (0, 0)).2
    ((List.range (Image.outSize h (Layer.padT l) (rd l 6 1 / 16) (Image.lEh l) (Image.lSh l))).filter (s.lateRow img p g f w k)).map fun y => (k, y)

/-- The FRC blocks that a group's stripes fetch of its input, each at its place in the tensor's bytes (R215, R219). -/
def fetchedBlocks (p : Image.Part) (g : List Byte) (js : List Nat) (b : List Byte) : List (List Byte) :=
  let l := (Image.gLayers g).headD []
  let bb := Frc.blockBytes (Image.lType l == 3) (rd g 3 1 % 4)
  let nbw := Frc.blocks (Image.gInW g)
  let nbc := Frc.blocks (Image.lCin l)
  js.flatMap fun j =>
    let c := Image.fetched (Image.gInW g) ((Image.stripeBands p.chains g j).headD (0, 0))
    (List.range (Frc.blocks (Image.gInH g))).flatMap fun bh => (List.range (c.2 / 8 + 1 - c.1 / 8)).flatMap fun i => (List.range nbc).map fun bc =>
      slice b (((bh * nbw + c.1 / 8 + i) * nbc + bc) * bb) bb

/-- The blocks that a group's stripes fetched: they are counted, with their invalid groups, and FRC_BAD_GROUP is raised once for the tensor (R216). -/
def State.frcFetched (s : State) (n : Nat) (bf : Bool) (ratio : Nat) (bs : List (List Byte)) : State :=
  let s := s.bump64 (Reg.ENG_n_FRC_DECODED n) bs.length
  let k := (bs.map (Frc.badGroups bf ratio)).sum
  if k = 0 then s else (s.bump (Fld.ENG_n_FRC_ERRORS_BAD_GROUP n) k).raise Cause.FRC_BAD_GROUP

/-- A compressed tensor is stored: blocks and replaced elements are counted, and FRC_NONFINITE is raised once (R214). -/
def State.frcStored (s : State) (n : Nat) (r : Chain.Rec) (t : Ten) (bytes : Nat) : State :=
  if r.ratio = 0 then s
  else
    let s := s.bump64 (Reg.ENG_n_FRC_ENCODED n) (bytes / Frc.blockBytes (r.store == 3) r.ratio)
    let k := if r.store = 3 then Frc.nonFinites t else 0
    if k = 0 then s else (s.bump (Fld.ENG_n_FRC_ERRORS_NONFINITE n) k).raise Cause.FRC_NONFINITE

/-- What the POST stage of a chain queues beside what its sample has queued (R233); POST_LIMIT is raised once for a sample. -/
def State.chainPosts (s : State) (img : List Byte) (f : Feed) (n : Nat) (r : Chain.Rec) (cols : List (Nat × Nat)) (t : Ten) (limited : Bool) : State × List Posting × Bool :=
  match r.stages.find? fun x => x.op == 0x17 with
  | none => (s, [], limited)
  | some x =>
    let post := slice img x.table 96
    let ti := tileInfo f.hdr
    let before := (f.posts.filter fun q => q.group == r.group && q.layer == r.layer && q.list == rd post 0 1 && q.engine / 8 == n / 8).map fun q => (q.pos, q.row)
    let p := Chain.posts post ti cols t before
    let s := (s.bump (Fld.ENG_n_POST_DROPPED_LIMIT n) p.limit).bump (Fld.ENG_n_POST_DROPPED_DIRECTION n) p.direction
    let s := if p.limit = 0 ∨ limited = true then s else s.raise Cause.POST_LIMIT
    (s, (p.queued.drop before.length).map fun q => ⟨n, rd post 0 1, postEntry post ti.sampleId q.1, q.1, q.2, r.group, r.layer⟩, limited || p.limit != 0)

/-- The record that ends a layer's chain: part 1 of a split one (R238). -/
def lastPart (cs : List Chain.Rec) (r : Chain.Rec) : Chain.Rec :=
  if r.split then (cs.find? fun q => q.part && q.group == r.group && q.layer == r.layer).getD r else r

/-- What a layer of a group adds to the engine's counters, signatures and queue (R228, R233, R235). `t` is its stored tensor over the stripes' bands `cols`. -/
def State.layerDone (s : State) (img : List Byte) (f : Feed) (n : Nat) (r : Chain.Rec) (cols : List (Nat × Nat)) (t : Ten) (sat : Nat) (d : GroupDone) : State × GroupDone :=
  let b := Chain.written r cols t
  let s := (s.bump (Fld.ENG_n_CHAIN_SAT_COUNT n) sat).frcStored n r t b.length
  let s := match r.stages.find? fun x => x.op == 0x18 with
    | some x => s.setWord (Reg.ENG_n_SIG_k n (x.a % 16)) (crc32c b)
    | none => s
  let s := s.setWord (Reg.ENG_n_CHAIN n) (r.group * 65536 + (if r.part then 8 else 0) + r.layer)
  let (s, ps, limited) := s.chainPosts img f n r cols t d.limited
  (s, { d with posts := d.posts ++ ps, limited })

/-- The fault of a read of `n` bytes at a DRAM offset, if part of it is not performed (R259). -/
def State.readFault (s : State) (fixed : Bool) (a : Option Nat) (n : Nat) : Option Nat := a.bind fun a => s.accessFault false fixed a n

/-- The work of a stripe group (R203 to R206, R222 to R235, R241): its stripes in rising order, layer by layer; what its output's bytes are, and what its chains did. `old` is what
the output's place holds; row padding is free values (R15). -/
def State.groupWork (s : State) (img : List Byte) (p : Image.Part) (g : List Byte) (f : Feed) (w : GroupWork) (old : Nat → Byte) : State × GroupDone :=
  let n := w.engine.val
  let fixed := !f.free
  let s := s.showGroup img p n g
  let l := (Image.gLayers g).headD []
  let ratio := rd g 3 1 % 4
  let ty := Image.lType l
  let size := tensorBytes ty ratio (Image.gInH g) (Image.gInW g) (Image.lCin l)
  let b := s.inputBytes img p g f w size
  let js := (List.range (Image.gStripes g)).filter w.stripes.contains
  let outs := Image.layerOuts p.chains (Image.gGroup g) 0 (Image.gInW g) (Image.gInH g) (Image.gLayers g)
  let resSize := fun k => let o := outs.getD k (0, 0); (o.2, o.1, Image.lCout ((Image.gLayers g).getD k []))
  let resAt := fun k => ((w.layers.getD k {}).residual).map fun t => (t, tensorBytes t.fmt t.ratio (resSize k).1 (resSize k).2.1 (resSize k).2.2)
  let res := fun k => match resAt k with
    | some (t, m) => (tensorOf t.fmt t.ratio (resSize k).1 (resSize k).2.1 (resSize k).2.2 (s.dramRead (bits t.addr.toNat 40 0) m), t.fmt)
    | none => ([], 1)
  let bad := (s.readFault fixed (inputPlace img p g f w.input) size).or ((List.range outs.length).findSome? fun k =>
    (resAt k).bind fun (t, m) => s.readFault fixed (some (bits t.addr.toNat 40 0)) m)
  if bad.isSome then (s, { limited := f.limited, bad })
  else
    let s := if ratio = 0 then s else s.frcFetched n (ty == 3) ratio (fetchedBlocks p g js b)
    let late := s.lateRows img p g f w
    let stripes := js.map fun j => (j, Layer.stripe img p.chains g fixed (fun k y => late.contains (k, y)) res w.layers (tensorOf ty ratio (Image.gInH g) (Image.gInW g) (Image.lCin l) b) j)
    let done := (List.range outs.length).map fun k =>
      let os := stripes.map fun q => q.2.getD k ⟨0, [], 0⟩
      let cols := js.map fun j => let c := (Image.stripeBands p.chains g j).getD (k + 1) (0, 0); (c.1, c.2 + 1 - c.1)
      (k, cols, Layer.assemble (outs.getD k (0, 0)).1 os, (os.map (·.sat)).sum)
    let (s, d) := done.foldl (fun (s, d) (k, cols, t, sat) =>
      match Image.chainOf? p.chains (Image.gGroup g) k with
      | some r => s.layerDone img f n (lastPart p.chains r) cols t sat d
      | none => (s, d)) (s, { limited := f.limited, late := !late.isEmpty })
    let s := if f.free then s else late.foldl (fun s _ => (s.bump (Fld.ENG_n_ARRIVAL_LATE n)).raiseIn Cause.ARRIVAL_LATE 5 (n / 8)) s
    let s := s.setWord (Reg.ENG_n_STRIPE n) (Image.gGroup g * 65536 + 0xFFF)
    match done.getLast?, (Image.chainOf? p.chains (Image.gGroup g) (outs.length - 1)).map (lastPart p.chains) with
    | some (_, cols, t, _), some r =>
      let ps := Chain.pieces r cols t (outs.getLastD (0, 0)).1 old fun i => (Config.freeValue (s.freeCount + i)).truncate 8
      (s.useFree (ps.foldl (fun m q => max m (q.1 + q.2.length)) 0), { d with out := ps })
    | _, _ => (s, d)

/-- Entries of one sample in the order in which they are posted: those of a chain in raster order (R234). -/
def insertPost (p : Posting) : List Posting → List Posting
  | [] => [p]
  | q :: t => if q.group = p.group ∧ q.layer = p.layer ∧ q.list = p.list ∧ p.row < q.row then p :: q :: t else q :: insertPost p t

/-- Post the entries of a sample (R234): the lists accept or discard them, and the engines count what was posted; the flag tells that one was discarded as late. -/
def State.postAll (s : State) (ps : List Posting) : State × Bool :=
  let q := (ps.foldl (fun l p => insertPost p l) []).map fun p => (p.list, p.bytes)
  let late := s.postsLate q
  let s := ps.foldl (fun s p => s.bump (Fld.ENG_n_POSTED_COUNT p.engine)) s
  (s.postQueue q, late)

/-- The arrival regions that the chains of a job's group read. -/
def chainRegions (img : List Byte) (job g : Nat) : List Nat :=
  ((Image.partOf img job).chains.filter fun r => r.group == g && r.region != 0xFFFF).map (·.region)

end Sys2Proof.Machine
end

