-- ==== Sys2Proof/Machine/Fxg.lean ====
section
/-! DEFINITION. The Fixed-gear partition and the Cadence monitor's part of it: variants, regions, iterations, checkpoints, decisions and the warning lines (chapters 11, 12
and 18). -/
namespace Sys2Proof.Machine

/-! ### Variants by power level (R35, R279 to R282) -/

/-- The clock plan of a level (Table 2.4). -/
def levelPlan (k : Nat) : Nat := if k = 0 then 0 else if k ≤ 2 then 1 else if k = 3 then 2 else 3

/-- The activity budget of a level: ENG_BUDGET for PL0 to PL3, 0 above (Table 2.4, Table 7.8). -/
def State.levelBudget (s : State) (k : Nat) : Nat :=
  if k = 0 then s.fget Fld.ENG_BUDGET_PL0 else if k = 1 then s.fget Fld.ENG_BUDGET_PL1
  else if k = 2 then s.fget Fld.ENG_BUDGET_PL2 else if k = 3 then s.fget Fld.ENG_BUDGET_PL3 else 0

/-- The variant that runs at a level, and whether it runs PACED (R279). -/
def pickVariant (img : List Byte) (level : Nat) : Option (List Byte × Bool) :=
  if img.isEmpty ∨ 4 ≤ level then none
  else
    match Image.variantFor img level with
    | some v => some (v, false)
    | none => if level = 1 ∨ level = 2 then (Image.variantFor img (3 - level)).map fun v => (v, true) else none

/-- Is a Fixed-gear iteration running? -/
def State.iterationRunning (s : State) : Bool := s.fxg.iter.isSome

/-- Does a variant run? None does in Ready, whatever the level (2.3), nor before operation or in safe state. -/
def State.variantRuns (s : State) : Bool := s.fxg.variant.isSome && s.operational && decide (s.sup.power = .active)

/-- The variant, the clock plan and the activity budget of the effective level take effect (R35, R279, R249): entering PACED mode, or a level below PL4 with no variant, is
told once. A change of clock plan awaits its resumption. -/
def State.changeNow (s : State) : State :=
  let k := s.sup.level
  let plan := levelPlan k
  let pick := pickVariant s.fxg.image k
  let paced := pick.any (·.2)
  let f := s.fxg
  let s : State := { s with
    sup := { s.sup with plan, budget := s.levelBudget k, planPending := false, budgetAt := none }
    fxg := { f with variant := pick.map (·.1), paced, changePending := false, lastLevel := k, resuming := decide (plan ≠ s.mem.plan) } }
  -- R249: boarding stops at the next frame boundary
  let s : State := if plan = s.mem.plan ∨ s.mem.boardStop.isSome = true then s else { s with mem := { s.mem with boardStop := some ((s.cycleNow + 255) / 256 * 256) } }
  let s := if plan = s.mem.plan then s.setTables plan else s
  let s := if paced && !f.paced then s.raise Cause.VARIANT_PACED else s
  if pick.isNone && decide (k ≤ 3) && decide (f.lastLevel ≠ k) && decide (Image.mask f.image ≠ 0) then s.raise Cause.VARIANT_NONE else s

/-- The clock plan, the activity budget and the variant of the effective level are due: at the end of the running iteration, or at the next frame boundary; above PL3, and
with no engine in the partition, at once (R35, R282). -/
def State.applyPlan (s : State) : State :=
  if decide (s.sup.level ≤ 3) && decide (Image.mask s.fxg.image ≠ 0) then
    { s with sup := { s.sup with planPending := true }, fxg := { s.fxg with changePending := true } }
  else s.changeNow

/-- A changed ENG_BUDGET takes effect once its iteration boundary has come (R181). -/
def State.budgetDue (s : State) : State :=
  if (s.sup.budgetAt.any fun t => decide (t ≤ s.now)) && !s.iterationRunning && !s.sup.planPending then
    { s with sup := { s.sup with budget := s.levelBudget s.sup.level, budgetAt := none } }
  else s

/-! ### Regions -/

/-- Region r. -/
def State.region (s : State) (r : Nat) : Region := s.fxg.regions.get (fun _ => {}) r
/-- Set region r. -/
def State.setRegion (s : State) (r : Nat) (x : Region) : State := { s with fxg := { s.fxg with regions := s.fxg.regions.put (fun _ => {}) r x } }
/-- The variant in use names the region. -/
def State.regionUsed (s : State) (r : Nat) : Bool := s.fxg.variant.any fun v => bitOn (Image.vRegions v) r

/-- The contexts that feed the regions of the variant in use (R451). -/
def State.watchedCtxs (s : State) : List Nat :=
  ((Image.regions s.fxg.image).filter fun r => s.regionUsed (Image.rRegion r) && decide (Image.rContext r < 24)).map Image.rContext

/-- Is a context watched? (R451) -/
def State.watched (s : State) (n : Nat) : Bool := s.watchedCtxs.contains n

/-- Thirds of a nanosecond in a slot frame (10.2). -/
def frameThirds (plan : Nat) : Nat := if plan = 0 then 640 else if plan = 1 then 960 else 1280

/-- The first frame boundary at or after a time. -/
def State.boundaryAt (s : State) (t : Nat) : Nat :=
  let f := frameThirds s.mem.plan
  let k := (3 * (t - s.mem.frameAt) + f - 1) / f
  max t (s.mem.frameAt + (k * f + 2) / 3)

/-- When the intake sets an arrival flag for a copy complete now: at CP1 and CP2 in the last 128 cycles of a frame (R284). -/
def State.flagTime (s : State) : Nat :=
  let f := frameThirds s.mem.plan
  let d := 3 * (s.now - s.mem.frameAt)
  if s.mem.plan = 0 ∨ f ≤ 2 * (d % f) then s.now else s.mem.frameAt + (d - d % f + f / 2 + 2) / 3

/-! ### Decisions and their deadlines (R312 to R317) -/

/-- The jobs with a decision checkpoint in a variant, each once. -/
def decisionJobs (img v : List Byte) : List Nat :=
  ((Image.checkpoints img v).filter Image.cDecision).foldl (fun l c => if l.contains (Image.cJob c) then l else l ++ [Image.cJob c]) []

/-- Is a job the fallback of another? -/
def isFallback (img : List Byte) (j : Nat) : Bool := (Image.jobs img).any fun e => Image.jFallback e == j && Image.jJob e != j

/-- The backstop of a job: its FALLBACK when the variant decides that, otherwise itself; a fallback's own FALLBACK is ignored (R315, R316). -/
def backstop (img v : List Byte) (j : Nat) : Nat :=
  if isFallback img j then j
  else
    match Image.job? img j with
    | some e => if (decisionJobs img v).contains (Image.jFallback e) then Image.jFallback e else j
    | none => j

/-- The backstops of the protected jobs that the variant decides. -/
def backstops (img v : List Byte) : List Nat :=
  (((Image.jobs img).map Image.jJob).filter fun j => !isFallback img j).foldl (fun l j =>
    let b := backstop img v j
    if l.contains b || !(decisionJobs img v).contains b then l else l ++ [b]) []

/-- A decision is shown on both WARN lines, unless its sample is older than the one shown (R448, R449). -/
def State.showDecision (s : State) (tLast : Nat) (warn : Bool) : State :=
  if s.brk.shownTLast.any fun t => decide (tLast < t) then s
  else { s with brk := { s.brk with warnA := !warn, warnB := !warn, shownTLast := some tLast, shownAt := s.now, firstDecision := true } }

/-- A Fixed-gear job has missed on a sample (R314, R316). -/
def State.decisionMissed (s : State) (v : List Byte) (sample job : Nat) : State :=
  let s := (s.raise Cause.DECISION_MISSED sample).bump Fld.CAD_MISSES_DECISION
  let s := (s.setWord64 Reg.CAD_LAST_MISS sample).setWord Reg.CAD_LAST_JOB (65536 * job + 1)
  if (backstops s.fxg.image v).contains job then
    let s := (s.raise Cause.FALLBACK_MISSED sample).bump Fld.CAD_FALLBACK_MISSES_COUNT
    (s.fset Fld.CAD_STATUS_GOOD 0).fset Fld.CAD_STATUS_AVAIL_OK 0
  else s

/-- Every decision of a variant is missing for a sample that no iteration takes (R314). -/
def State.sampleMissed (s : State) (v : List Byte) (sample : Nat) : State :=
  (decisionJobs s.fxg.image v).foldl (fun s j => s.decisionMissed v sample j) s

/-- What the monitor holds of a sample. -/
def State.cadence (s : State) (sample : Nat) : Option CadSample := s.fxg.cadence.find? fun c => c.sample == sample

/-- Replace what the monitor holds of a sample. -/
def State.setCadence (s : State) (c : CadSample) : State :=
  { s with fxg := { s.fxg with cadence := s.fxg.cadence.map fun x => if x.sample == c.sample then c else x } }

/-- A job of a watched sample misses, once. -/
def State.jobMisses (s : State) (v : List Byte) (sample job : Nat) : State :=
  match s.cadence sample with
  | none => s
  | some c =>
    if c.opened.any fun o => o.1 == job then
      (s.setCadence { c with opened := c.opened.filter (fun o => o.1 != job), missed := c.missed ++ [job] }).decisionMissed v sample job
    else s

/-- One more sample whose backstop decisions all passed in time (R317). -/
def State.goodSample (s : State) : State :=
  let s := s.bump Fld.CAD_STATUS_GOOD
  if s.fget Fld.CAD_STATUS_AVAIL_OK = 0 ∧ s.fget Fld.CAD_CONFIG_RECOVER ≤ s.fget Fld.CAD_STATUS_GOOD then
    (s.fset Fld.CAD_STATUS_AVAIL_OK 1).raise Cause.WARN_AVAIL_RESTORED
  else s

/-- A decision is handed over at the present time (R294, R314, R315, R317, R448): after its deadline it is discarded. A fallback's decision is not shown once a job that it
stands in for has decided. -/
def State.handOver (s : State) (v : List Byte) (sample job : Nat) (warn : Bool) : State :=
  match s.cadence sample with
  | none => s
  | some c =>
    match c.opened.find? fun o => o.1 == job with
    | none => s.bump Fld.CAD_LATE_DISCARDS_COUNT
    | some (_, deadline) =>
      if deadline < s.now then (s.jobMisses v sample job).bump Fld.CAD_LATE_DISCARDS_COUNT
      else
        let c := { c with opened := c.opened.filter (fun o => o.1 != job), handed := c.handed ++ [job] }
        let s := s.setCadence c
        let replaced := c.handed.any fun m => (Image.job? s.fxg.image m).any fun e => Image.jFallback e == job && m != job
        let s := if replaced then s else s.showDecision c.tLast warn
        let bs := backstops s.fxg.image v
        if bs.contains job && bs.all fun b => c.handed.contains b then s.goodSample else s

/-! ### Accepting an image (R105, R106, R278) -/

/-- The directory with no copy in the L1s of a mask (R270). -/
def dropL1s (mask : Nat) (t : Tbl DirEntry) : Tbl DirEntry :=
  t.foldl (fun u (k, e) => u.put (fun _ => {}) k
    { shared := e.shared - (e.shared &&& mask), owner := e.owner.filter fun o => !bitOn mask o }) []

/-- A Fixed-gear image is in effect from now on: L1s of engines that join or leave the mask are emptied, regions whose record differs are freed, the level's rule is applied to the contexts
that feed its schedule or no longer do (R118), and the variant is chosen anew (R270, R278, R282). -/
def State.installFixed (s : State) (img : List Byte) : State :=
  let old := s.fxg.image
  let moved := Image.mask old ^^^ Image.mask img
  let s := { s with
    mem := { s.mem with
      dir := dropL1s moved s.mem.dir
      arrivals := s.mem.arrivals.keep fun k => decide (65536 ≤ k) }
    fxg := { s.fxg with image := img, nextImage := none, lastLevel := 0xF } }
  let s := (List.range 16).foldl (fun s r => if Image.region? old r = Image.region? img r then s else s.setRegion r {}) s
  (if s.levelsAct then s.levelCtxs s.sup.level else s).changeNow

/-- A Fixed-gear image is accepted: at once, or when the running iteration of the old one ends (R106, R278). -/
def State.acceptFixed (s : State) (img : List Byte) : State :=
  if s.iterationRunning then { s with fxg := { s.fxg with nextImage := some img } } else s.installFixed img

/-- The image that waited for the end of the iteration takes over. -/
def State.nextFixed (s : State) : State :=
  match s.fxg.nextImage with
  | some img => if s.iterationRunning then s else (s.installFixed img).rebind
  | none => s

/-! ### WARN_AVAIL (R450, R451) -/

/-- The obstacle inputs are present (R451). -/
def State.inputsOk (s : State) : Bool :=
  let ok := fun n => !s.brk.lost.contains n
  if s.fget Fld.BRK_CONFIG_SENSOR_POLICY = 1 then s.watchedCtxs.all ok else s.watchedCtxs.any ok

/-- Every condition of R450 but AVAIL_OK. -/
def State.availConds (s : State) : Bool := decide (s.sup.level ≤ 3) && s.variantRuns && !s.fxg.halted && s.inputsOk

/-- Is a WARN line commanded to be energised? -/
def Brake.warnLine (b : Brake) (line : Nat) : Bool := if line = 0 then b.warnA else if line = 1 then b.warnB else b.warnAvail

/-- Is a WARN line energised? Without SAFE_SUP every safety output stays de-energised (R472). -/
def Brake.lineOn (b : Brake) (line : Nat) : Bool := b.safeSup && b.warnLine line

/-- WARN_AVAIL follows its conditions; when one other than AVAIL_OK ceases to hold, AVAIL_OK and GOOD are cleared (R450). A test pulse ends after its time, or with its line
(R453). -/
def State.updateAvail (s : State) : State :=
  let c := s.availConds
  let s := if s.brk.conds && !c then (s.fset Fld.CAD_STATUS_GOOD 0).fset Fld.CAD_STATUS_AVAIL_OK 0 else s
  let b := { s.brk with conds := c, warnAvail := c && s.fget Fld.CAD_STATUS_AVAIL_OK == 1 }
  { s with brk := { b with testPulse := b.testPulse.filter fun p => decide (s.now < p.2) && b.lineOn p.1 } }

/-! ### Iterations (R283 to R289) -/

/-- A region is free again (R153, R283). -/
def State.freeRegion (s : State) (r : Nat) : State := s.setRegion r {}

/-- Is a test iteration's turn? The first frame boundary after a region-triggered iteration, or when no context of the variant's regions is RUNNING (R288). -/
def State.testReady (s : State) : Bool :=
  !s.fxg.tests.isEmpty && (s.fxg.testTurn || !s.watchedCtxs.any fun n => decide ((s.ctx n).state = .running))

/-- The region that starts: the lowest of the variant's whose flag was set before the boundary, for a sample not yet started (R283). -/
def State.startable (s : State) (t : Nat) : Option Nat :=
  (List.range 16).find? fun r => s.regionUsed r && (s.region r).flag && !(s.region r).started && decide ((s.region r).setAt < t)

/-- Does the sample of a region have the shape that the first group of each job that reads it declares? (R210) -/
def State.shapeOk (s : State) (r : Nat) : Bool :=
  (Image.jobs s.fxg.image).all fun j =>
    match Image.firstGroup? s.fxg.image (Image.jJob j) with
    | none => true
    | some g => Image.shapeMatches (s.region r).held.hdr g || !Config.jobReads s.fxg.image r (Image.jJob j)

/-- An iteration starts on a region at a frame boundary; its deadlines are watched, but those of a test (R283, R287, R312). -/
def State.iterStart (s : State) (r t : Nat) (test : Bool) : State :=
  match s.fxg.variant with
  | none => s
  | some v =>
    let x := s.region r
    let sample := if test then 0 else x.held.id
    let tLast := rd x.held.hdr 16 8
    let s := (s.passUntil t).setWord64 Reg.FXG_LAST_START t
    let s := if test then s else s.setRegion r { x with started := true }
    -- R50: the engines of the running mask are not gated
    let s := (List.range 16).foldl (fun s e => if s.isFixed e then s.setEng e { s.eng e with gated := false } else s) s
    let jobs := (decisionJobs s.fxg.image v).map fun j => (j, tLast + ((Image.job? s.fxg.image j).elim 0 Image.jDeadline))
    { s with fxg := { s.fxg with
      iter := some { region := r, sample, tLast, hdr := x.held.hdr, start := t, variant := v, paced := s.fxg.paced, test }
      cadence := if test then s.fxg.cadence else s.fxg.cadence ++ [{ sample, tLast, opened := jobs }]
      testTurn := if test then false else s.fxg.testTurn } }

/-- A frame boundary comes at which R283 may start an iteration. A change that waits for a frame boundary takes effect first (R282). -/
def State.frameBoundary (s : State) : State :=
  if s.iterationRunning then s
  else
    let s := if s.fxg.changePending then (s.passUntil (s.boundaryAt s.now)).changeNow else s
    if !s.variantRuns || s.fxg.halted || s.fxg.resuming then s
    else if s.testReady then s.iterStart (Image.testRegion s.fxg.image) (s.boundaryAt s.now) true
    else
      let t0 := s.boundaryAt s.now
      let t := if (s.startable t0).isSome then t0
        else s.boundaryAt ((List.range 16).foldl (fun t r => if s.regionUsed r && (s.region r).flag then max t ((s.region r).setAt + 1) else t) (t0 + 1))
      match s.startable t, s.fxg.variant with
      | some r, some v =>
        if s.shapeOk r then s.iterStart r t false
        else
          let id := (s.region r).held.id
          (((s.passUntil t).raise Cause.INPUT_SHAPE).freeRegion r).sampleMissed v id
      | _, _ => s

/-- A region's result for a job in one half is withheld for the rest of the iteration (R293). -/
def State.withhold (s : State) (job half : Nat) : State :=
  match s.fxg.iter with
  | none => s
  | some i => if i.withheld.contains (job, half) then s else { s with fxg := { s.fxg with iter := some { i with withheld := i.withheld ++ [(job, half)] } } }

/-- Every job in one half is withheld. -/
def State.withholdHalf (s : State) (half : Nat) : State :=
  (Image.jobs s.fxg.image).foldl (fun s j => s.withhold (Image.jJob j) half) s

/-- Is a result withheld at a checkpoint: by a fault of this iteration, or because its half, engine or job is out of service? (R292, Table 18.4) -/
def State.isWithheld (s : State) (job half engine : Nat) : Bool :=
  (s.fxg.iter.any fun i => i.withheld.contains (job, half)) || s.brk.outRegions.contains (5, half) || s.brk.outRegions.contains (4, engine) ||
    s.brk.outRegions.contains (6, job)

/-- The entries of a chain that join the queue of an iteration: in pair mode those that the mirror engine has queued already are the same entries. -/
def joinPosts (pair : Bool) (q ps : List Posting) : List Posting :=
  q ++ ps.filter fun p => !(pair && q.any fun x => decide (x.engine = (p.engine + 8) % 16) && x.list == p.list && x.bytes == p.bytes)

/-- The tensor that an iteration reads: that of its region, or for a test iteration the one that the image supplies in a FIXED window (R283, R287). -/
def State.iterTensor (s : State) (i : Iter) : List Byte :=
  if i.test then s.dramRead (Config.testTensor s.fxg.image).toNat ((Image.region? s.fxg.image i.region).elim 0 Image.rBytes) else (s.region i.region).tensor

/-- The work of a stripe group in an iteration: its entries join the iteration's queue, its output is written, and a row that came too late withholds the result of its job in that half
(R234, R241, R259). -/
def State.iterWork (s : State) (i : Iter) (w : GroupWork) : State :=
  let img := s.fxg.image
  match (Image.groups img)[w.group]? with
  | none => s
  | some g =>
    let half := w.engine.val / 8
    let at0 := bits (w.addr.getD 0).toNat 40 0
    let j := s.fxg.iter.getD i
    let feed : Feed := { free := false, hdr := i.hdr, tensor := s.iterTensor i, start := i.start, plan := Image.vPlan i.variant, posts := j.posts, limited := j.limited }
    let (s, d) := s.groupWork img (Image.partAround img w.group) g feed w fun k => s.mem.byte (at0 + k)
    let s := match s.fxg.iter with
      | some j => { s with fxg := { s.fxg with iter := some { j with posts := joinPosts (Image.pair img) j.posts d.posts, limited := d.limited } } }
      | none => s
    let s := if d.late then s.withhold (Image.jobOfGroup img w.group) half else s
    let out := if w.addr.isSome then d.out else []
    let bad := d.bad.or (out.findSome? fun q => s.accessFault true true (at0 + q.1) q.2.length)
    let s := out.foldl (fun s q => s.memWrite true (at0 + q.1) q.2) s
    match bad with
    | some c => (s.raiseIn c 5 half).withholdHalf half
    | none => s

/-- What one half has done at a checkpoint: the work of its chains since the last one, the cycle at which the named chain's last write ended, and whether it has ended (R291). -/
structure HalfSeen where
  work : List GroupWork
  cycle : Nat
  placed : Bool
  deriving DecidableEq, Repr

/-- One half at a checkpoint: what its chains did, with the signature that they place, and SEQUENCE_DEVIATION; a half that is withheld here stays so (R235, R241, R291, R293). -/
def State.halfAt (s : State) (i : Iter) (c : List Byte) (half engine : Nat) (x : HalfSeen) : State :=
  let job := Image.cJob c
  let s := if x.placed then x.work.foldl (fun s w => s.iterWork i w) s else s
  let s := if !i.paced && (!x.placed || x.cycle != Image.cCycle c) then ((s.bump Fld.FXG_WITHHELD_DEVIATIONS).raiseIn Cause.SEQUENCE_DEVIATION 5 half).withhold job half else s
  if s.isWithheld job half engine then s.withhold job half else s

/-- The outcome of a checkpoint (Table 11.6): whether the result passes, and what is raised. -/
def State.pairOutcome (s : State) (job n e : Nat) (same : Bool) : State × Bool :=
  let north := s.isWithheld job 0 n
  let south := s.isWithheld job 1 e
  if north && south then (((s.bump Fld.FXG_WITHHELD_BOTH).raiseIn Cause.BOTH_WITHHELD 6 job), false)
  else if north || south then (((s.bump Fld.FXG_PAIR_EVENTS_SINGLE).raiseIn Cause.SINGLE_HALF 6 job), true)
  else if same then (s, true)
  else ((((s.bump Fld.FXG_PAIR_EVENTS_MISMATCH).raiseIn Cause.PAIR_MISMATCH 6 job).withhold job 0).withhold job 1, false)

/-- The next checkpoint of the running iteration (R287, R291 to R294). `hand` is the time from the checkpoint to the hand-over of a decision, in ns, of at most the
20 µs of t5 → t6 (R18). -/
def State.checkpoint (s : State) (north south : HalfSeen) (warn : Bool) (hand : Nat) : State :=
  match s.fxg.iter with
  | none => s
  | some i =>
    match (Image.checkpoints s.fxg.image i.variant)[i.next]? with
    | none => s
    | some c =>
      let pair := Image.pair s.fxg.image
      let job := Image.cJob c
      let e := Image.cEngine c
      let cyc := if i.paced then (if pair then max north.cycle south.cycle else north.cycle) else Image.cCycle c
      let s := s.passUntil (i.start + cyclesNs (Image.vPlan i.variant) cyc)
      let h := if pair then 0 else e / 8
      let s := s.halfAt i c h e north
      let s := if pair then s.halfAt i c 1 (e + 8) south else s
      let sig := fun n => s.word (Reg.ENG_n_SIG_k n (Image.cSlot c))
      let (s, ok) := if pair then s.pairOutcome job e (e + 8) (sig e == sig (e + 8)) else (s, !s.isWithheld job h e)
      let s := if ok then s else if pair then (s.withhold job 0).withhold job 1 else s.withhold job h
      let s := match s.fxg.iter with
        | some j => { s with fxg := { s.fxg with iter := some { j with
            next := j.next + 1
            sigs := if Image.cDecision c then j.sigs ++ leBytes 4 (sig e) else j.sigs
            testOk := j.testOk && ok && (!pair || sig e == sig (e + 8)) } } }
        | none => s
      if i.test || !Image.cDecision c then s
      else if ok then (s.passUntil (s.now + min 20000 hand)).handOver i.variant i.sample job warn
      else s.jobMisses i.variant i.sample job

/-- A test RUN leaves the queue of tests. -/
def State.dropTest (s : State) : State := { s with fxg := { s.fxg with tests := s.fxg.tests.drop 1 } }

/-- The 16 signature slots of an engine. -/
def State.slotBytes (s : State) (e : Nat) : List Byte := (List.range 16).flatMap fun k => leBytes 4 (s.word (Reg.ENG_n_SIG_k e k))

/-- Write bytes at an address of host or module memory, as far as there is room. -/
def State.writeOut (s : State) (addr room : Nat) (b : List Byte) : State :=
  let b := b.take room
  if b.isEmpty then s
  else if bitOn addr 63 then s.memWrite false (bits addr 40 0) b else s.hostWrite addr b

/-- The end of a test iteration (R287, R288): TEST_MISMATCH, the signature slots, and the RUN's completion. -/
def State.testEnd (s : State) (i : Iter) (ns : Nat) : State :=
  let ok := i.testOk && decide (crc32c i.sigs = Image.testSig s.fxg.image)
  let s := if ok then s else s.raise Cause.TEST_MISMATCH
  match s.fxg.tests with
  | [] => s
  | (qp, d) :: _ =>
    let e := ((Image.checkpoints s.fxg.image i.variant).getLast?).elim 0 Image.cEngine
    let out := rd d 40 8
    let s := if out = 0 then s else s.writeOut out 128 (s.slotBytes e ++ s.slotBytes ((e + 8) % 16))
    let result := (if out = 0 then 0 else 128) + 2 ^ 32 * min 0xFFFFFFFF ns
    s.dropTest.complete qp d (if ok then St.OK else St.FAULTED) (if ok then 0 else Cause.TEST_MISMATCH) result

/-- Contained records of the halves and jobs leave handling at the end of the iteration (Table 18.4). -/
def State.endIterHandling (s : State) : State :=
  { s with brk := { s.brk with handling := s.brk.handling.filter fun h => !((h.kind == 5 || h.kind == 6) && h.cls == 2) } }

/-- The running iteration ends (R283, R285, R287): what its chains did, its region and arrival flags, posting, the length; a sample that arrived meanwhile is skipped. -/
def State.iterEnd (s : State) (cycles : Nat) (work : List GroupWork) : State :=
  match s.fxg.iter with
  | none => s
  | some i =>
    if i.next < Image.vCheckCount i.variant then s
    else
      let n := if i.paced then cycles else Image.vCycles i.variant
      let ns := cyclesNs (Image.vPlan i.variant) n
      let s := s.passUntil (i.start + ns)
      let s := work.foldl (fun s w => s.iterWork i w) s
      let j := s.fxg.iter.getD i
      let s := { s with fxg := { s.fxg with
        iter := none, cadence := s.fxg.cadence.filter fun c => c.sample != i.sample
        testTurn := if i.test then s.fxg.testTurn else !s.fxg.tests.isEmpty } }
      let s := ((s.bump64 Reg.FXG_ITERATIONS).setWord Reg.FXG_LAST_CYCLES n).endIterHandling
      let s := s.clearArrivals false fun _ => true
      let s := if i.test then s else s.freeRegion i.region
      let s := if !i.test && j.withheld.isEmpty then (s.postAll j.posts).1 else s
      let s := if i.test then s.testEnd j ns else s
      (List.range 16).foldl (fun s r =>
        let x := s.region r
        if x.flag && !x.started && decide (x.setAt < s.now) then
          ((s.freeRegion r).bump Fld.FXG_SKIPPED_COUNT).sampleMissed i.variant x.held.id
        else s) s

/-- ST21 runs a test iteration under the PL0 variant (R287): `work` is what its chains did. -/
def State.st21 (s : State) (work : List GroupWork) : State :=
  match Image.variantFor s.fxg.image 0 with
  | none => s
  | some v =>
    let t := s.boundaryAt s.start.stepAt
    let i : Iter := { region := Image.testRegion s.fxg.image, sample := 0, tLast := 0, hdr := [], start := t, variant := v, paced := false, test := true }
    let s := ({ s with fxg := { s.fxg with iter := some i } }).setWord64 Reg.FXG_LAST_START t
    let s := (work.foldl (fun s w => s.iterWork i w) s).passUntil (t + cyclesNs (Image.vPlan v) (Image.vCycles v))
    (({ s with fxg := { s.fxg with iter := none } }).bump64 Reg.FXG_ITERATIONS).setWord Reg.FXG_LAST_CYCLES (Image.vCycles v)

/-- The running iteration is abandoned without a decision (R282, R289, R318), and test RUNs end with a status: `all` those that wait as well. -/
def State.fxgAbandon (s : State) (status fault : Nat) : State :=
  let s := match s.fxg.iter with
    | none => s
    | some i =>
      let s := { s with fxg := { s.fxg with iter := none, cadence := s.fxg.cadence.filter fun c => c.sample != i.sample } }
      let s := s.bump Fld.FXG_ABANDONED_COUNT
      let s := s.clearArrivals false fun _ => true
      (if i.test then s else s.freeRegion i.region).endIterHandling
  let ts := s.fxg.tests
  let s := { s with fxg := { s.fxg with tests := [], testTurn := false } }
  (ts.foldl (fun s t => s.complete t.1 t.2 status fault) s).nextFixed

/-- The Stem has folded: the partition halts until the next start (R289). -/
def State.fxgHalt (s : State) : State :=
  if s.fxg.halted || s.fxg.image.isEmpty then s
  else
    let s := (s.raise Cause.PARTITION_HALTED).fxgAbandon St.FAULTED Cause.PARTITION_HALTED
    { s with fxg := { s.fxg with halted := true } }

/-- Samples that wait in regions are discarded while no variant runs (R281). -/
def State.dropRegions (s : State) : State :=
  if s.variantRuns then s
  else (List.range 16).foldl (fun s r => if (s.region r).held.id ≠ 0 ∧ (s.region r).started = false then s.freeRegion r else s) s

/-- When a read of an engine's arrays by the patrol rules can take place, from time t on: on a Fixed-gear engine while an iteration runs, in the next declared patrol window, if one
is left; otherwise at once (R186, R286). -/
def State.patrolFrom (s : State) (e t : Nat) : Option Nat :=
  match s.fxg.iter with
  | some i =>
    if s.isFixed e && decide (i.start ≤ t) then
      let ns := fun c => i.start + cyclesNs (Image.vPlan i.variant) c
      ((Image.recs s.fxg.image (Image.vPatrolOff i.variant) (Image.vPatrolCount i.variant) 8).find? fun w =>
        decide (t < ns (rd w 0 4 + rd w 4 4))).map fun w => max t (ns (rd w 0 4))
    else some t
  | none => some t

/-- When a patrol read of an engine can take place (R186). -/
def State.patrolAt (s : State) (e : Nat) : Option Nat := s.patrolFrom e s.now

end Sys2Proof.Machine
end

