-- ==== Sys2Proof/Machine/Fwh.lean ====
section
/-! DEFINITION. Freewheel: runs, contexts, placement, pre-emption, teardown and deadlines (chapter 12). -/
namespace Sys2Proof.Machine

/-! ### Access -/

/-- Replace a run. -/
def State.putRun (s : State) (r : Run) : State := { s with fwh := { s.fwh with runs := s.fwh.runs.map fun x => if x.id == r.id then r else x } }
/-- The run of a number. -/
def State.run? (s : State) (id : Nat) : Option Run := s.fwh.runs.find? fun r => r.id == id
/-- The runs of a context, oldest first. -/
def State.ctxRuns (s : State) (c : Nat) : List Run := s.fwh.runs.filter fun r => r.ctx == c
/-- Context c's teardown. -/
def State.tearing (s : State) (c : Nat) : Option Teardown := s.fwh.tear.get (fun _ => none) c
/-- Set context c's teardown. -/
def State.setTear (s : State) (c : Nat) (t : Option Teardown) : State := { s with fwh := { s.fwh with tear := s.fwh.tear.put (fun _ => none) c t } }
/-- The task records of a run, in the order of its task states. -/
def Run.recs (r : Run) : List (List Byte) := Image.jobTasks r.image r.job
/-- Its tasks with their records. -/
def Run.each (r : Run) : List (List Byte × TaskSt) := r.recs.zip r.tasks
/-- Members of the run's job: none for a job on one module (13.2). -/
def Run.members (r : Run) : List Nat := Image.jobMembers r.image r.job
/-- The start barrier's ID. -/
def Run.barrier (r : Run) : Nat := ((Image.jobPhases r.image r.job).head?).elim 0 Image.phBarrier
/-- The engine that a task occupies. -/
def TaskSt.engine? : TaskSt → Option Nat
  | .running e _ => some e
  | .saving e _ => some e
  | .restoring e _ => some e
  | _ => none
/-- The save frame that a task holds. -/
def TaskSt.frame? : TaskSt → Option Nat
  | .saving _ f => some f
  | .saved _ f => some f
  | .restoring _ f => some f
  | _ => none
/-- Is engine e free for a Freewheel task? It is in service, and no task or teardown occupies it. -/
def State.engineIdle (s : State) (e : Nat) : Bool :=
  !s.brk.outRegions.contains (4, e) && !(s.fwh.runs.any fun r => r.tasks.any fun t => t.engine? == some e) &&
    !(s.fwh.tear.any fun t => t.2.any fun x => x.engines.contains e)
/-- A save frame's number of bytes, and its offset in DRAM (R305). -/
def State.frameBase (s : State) (f : Nat) : Nat := s.word64 Reg.FWH_SAVE_BASE + f * 0x300000

/-! ### The end of a run (R300, R304) -/

/-- Hold or post a bound run's completion on BIND_QP (R304). -/
def State.boundCpl (s : State) (r : Run) (epoch status fault result : Nat) : State :=
  let n := s.fget Fld.FWH_CONFIG_BIND_QP
  let q := s.qp n
  let c : Cpl := {
    tag := r.sample % 2 ^ 32, status, fault, time := s.now, epoch, sqHead := q.sqHead % 2 ^ 16, phase := 0
    quality := s.tb.quality, timeEpoch := s.tb.timeEpoch, qspec := r.job, result, noIrq := false }
  if q.state ≠ .active then s.bump Fld.FWH_CPL_LOST_COUNT
  else if s.cqFull n || !q.waiting.isEmpty || !s.fwh.cplHeld.isEmpty then
    if 64 ≤ s.fwh.cplHeld.length then s.bump Fld.FWH_CPL_LOST_COUNT
    else { s with fwh := { s.fwh with cplHeld := s.fwh.cplHeld ++ [(n, c)] } }
  else s.writeCpl n c

/-- Write the held completions of bound runs, oldest first, while there is room (R304). -/
def State.boundFlush (s : State) : Nat → State
  | 0 => s
  | fuel + 1 =>
    match s.fwh.cplHeld with
    | [] => s
    | (n, c) :: t =>
      let q := s.qp n
      let rest := { s with fwh := { s.fwh with cplHeld := t } }
      if q.state ≠ .active then (rest.bump Fld.FWH_CPL_LOST_COUNT).boundFlush fuel
      else if s.cqFull n || !q.waiting.isEmpty then s
      else (rest.writeCpl n c).boundFlush fuel

/-- The RESULT of a run that ends (R304, R313, Table 4.7). -/
def State.runResult (s : State) (r : Run) (status : Nat) : Nat :=
  if status = St.OK ∨ status = St.FAULTED then r.written + 2 ^ 32 * min 0xFFFFFFFF (s.now - r.admitted)
  else if status = St.DEADLINE_MISSED then r.written + 2 ^ 32 * min 0xFFFFFFFF ((s.now - r.deadline) / 1000)
  else 0

/-- The job entry's SILENT_OK. -/
def Run.silent (r : Run) : Bool := (Image.job? r.image r.job).any Image.jSilentOk

/-- The engine that a task has begun on and not ended. -/
def TaskSt.begun? : TaskSt → Option Nat
  | .saved e _ => some e
  | t => t.engine?
/-- The arrival regions that the begun tasks of a run read, with their engines. -/
def Run.reads (r : Run) : List (Nat × List Nat) :=
  r.each.filterMap fun x => x.2.begun?.map fun e => (e, chainRegions r.image r.job (Image.tGroup x.1))

/-- A run ends: its tasks stop, its frames are freed, and its completion is written (R300, R304). -/
def State.endRun (s : State) (r : Run) (status : Nat) (fault : Nat := 0) : State :=
  let frames := r.tasks.filterMap TaskSt.frame?
  let begun := r.tasks.any fun t => t != .idle
  let active := r.tasks.any fun t => t != .idle && t != .ended
  let epoch := if begun then r.epoch else s.hif.epoch
  let s := { s with fwh := { s.fwh with
    runs := s.fwh.runs.filter fun x => x.id != r.id
    frames := s.fwh.frames.filter fun f => !frames.contains f
    xfers := s.fwh.xfers.filter fun x => x.run != r.id
    taskEnded := s.fwh.taskEnded || active } }
  let s := s.bump (Fld.FWH_CTXc_RUNS_COUNT r.ctx)
  let s := { s with ihx := { s.ihx with peers := s.ihx.peers.map fun (p : Nat × Peer) => (p.1, { p.2 with
    wait := p.2.wait.filter fun f => match f.src with | .piece id _ _ => id != r.id | .push _ _ => true }) } }
  -- R240: the flags of the regions that its tasks read are cleared with them
  let s := s.clearArrivals true fun a => r.reads.any fun x => x.1 == Image.aEngine a && x.2.contains (Image.aRegion a)
  let res := s.runResult r status
  let s := if r.image = s.fwh.image then s else s.rebind
  match r.origin with
  | some (qp, d) => s.completeE qp d epoch status fault res
  | none => if status = St.OK ∧ r.silent = true ∧ r.report = false then s else s.boundCpl r epoch status fault res

/-- JOB_MISSED for a run (R313). -/
def State.jobMissed (s : State) (sample job : Nat) : State :=
  let s := (s.raise Cause.JOB_MISSED sample).bump Fld.CAD_MISSES_RUN
  (s.setWord64 Reg.CAD_LAST_MISS sample).setWord Reg.CAD_LAST_JOB (65536 * job)

/-- A run's deadline has passed (R313): without CONTINUE it ends. -/
def State.runMisses (s : State) (r : Run) : State :=
  if r.missed then s
  else
    let s := s.jobMissed r.sample r.job
    if r.continues then s.putRun { r with missed := true } else s.endRun { r with written := 0 } St.DEADLINE_MISSED

/-- The deadline of a run that has none yet: its RUN gives none, and its sample has not been emitted (R312). -/
def noDeadline : Nat := 2 ^ 64

/-! ### Samples of runs (R169, R210) -/

/-- Where the sample of a run is: held (its header), not emitted yet, or gone. -/
inductive SampleAt where
  | held (hdr : List Byte)
  | future
  | gone
  deriving DecidableEq, Repr

/-- Look a sample up (R169). -/
def State.sampleAt (s : State) (id : Nat) : SampleAt :=
  let n := id / 2 ^ 59
  let c := s.ctx n
  if c.nextSeq ≤ id % 2 ^ 59 then .future
  else
    match (List.range (s.poolSlots n)).find? fun k => (c.slot k).id == id with
    | some k => .held (c.slot k).hdr
    | none => .gone

/-! ### Barriers (R325, R326, R330) -/

/-- MAP_MISMATCH for a discarded tile or join. -/
def State.mapError (s : State) (key : Option (Nat × Nat × Nat)) : State :=
  let s := s.bump Fld.FWH_MAP_ERRORS_MISMATCH
  match key with
  | none => s.raise Cause.MAP_MISMATCH
  | some k =>
    if s.fwh.mapNoted.contains k then s
    else ({ s with fwh := { s.fwh with mapNoted := s.fwh.mapNoted ++ [k] } }).raise Cause.MAP_MISMATCH

/-- The wait from a join to its release counts (Table 13.7). -/
def State.barrierWait (s : State) (joined : Nat) : State :=
  s.setWord Reg.FWH_MAP_BARRIER_MAX (max (s.word Reg.FWH_MAP_BARRIER_MAX) (min 0xFFFFFFFF ((s.now - joined) / 1000)))

/-- Does a run await the release of a generation from a coordinator? -/
def Run.awaits (r : Run) (coord id gen : Nat) : Bool :=
  decide (r.state = .active) && r.joinedAt.isSome && !r.released && r.members.head? == some coord && r.barrier == id && r.number == gen

/-- A release arrives: the runs and the host barriers that await it go on (R326, R330). -/
def State.released (s : State) (coord id gen : Nat) : State :=
  let s := s.fwh.runs.foldl (fun s r => if r.awaits coord id gen then (s.barrierWait (r.joinedAt.getD s.now)).putRun { r with released := true } else s) s
  let (hit, rest) := s.fwh.hostWaits.partition fun h => h.coordinator == coord && h.id == id && h.gen == gen
  let s := { s with fwh := { s.fwh with hostWaits := rest } }
  hit.foldl (fun s h => (s.barrierWait h.joinedAt).complete h.qp h.d St.OK) s

/-- A join arrives at this module as coordinator (R330). -/
def State.coordJoin (s : State) (src id gen count : Nat) : State :=
  let me := s.moduleId
  let go := fun (s : State) (g : BarrierGen) =>
    if g.count ≤ g.joined.length then
      let s := { s with fwh := { s.fwh with gens := s.fwh.gens.map fun x => if x.id == id && x.gen == gen then { g with released := true } else x } }
      g.joined.foldl (fun s m => if m = me then s.released me id gen else s.ihxSend 5 m { run := gen, barrier := id, image := s.imageLow } []) s
    else { s with fwh := { s.fwh with gens := s.fwh.gens.map fun x => if x.id == id && x.gen == gen then g else x } }
  match s.fwh.gens.find? fun g => g.id == id && g.gen == gen with
  | some g =>
    if g.released then s
    else if g.count ≠ count then s.mapError none
    else go s { g with joined := if g.joined.contains src then g.joined else g.joined ++ [src] }
  | none =>
    if 256 ≤ (s.fwh.gens.filter fun g => !g.released).length then s.mapError none
    else
      let g : BarrierGen := ⟨id, gen, count, [src], false⟩
      go { s with fwh := { s.fwh with gens := s.fwh.gens ++ [g] } } g

/-- Join a barrier at its coordinator: a JOIN frame, or at once when that is this module (R326, R330, R410). -/
def State.joinAt (s : State) (coord id gen count job : Nat) : State :=
  if coord = s.moduleId then s.coordJoin coord id gen count
  else s.ihxSend 4 coord { job, run := gen, barrier := id, count, image := s.imageLow } []

/-- Numbering of a job's runs restarts at 1, and the generations of its barrier are forgotten (R325). -/
def State.renumber (s : State) (p : Nat → Bool) : State :=
  let ids := ((Image.jobs s.fwh.image).filter fun j => p (Image.jJob j)).filterMap fun j => ((Image.jobPhases s.fwh.image (Image.jJob j)).head?).map Image.phBarrier
  { s with fwh := { s.fwh with
    numbers := s.fwh.numbers.keep fun j => !p j
    gens := s.fwh.gens.filter fun g => !ids.contains g.id } }

/-! ### Admission (R298, R299, R312, R325) -/

/-- Admit a run to a context. -/
def State.admitRun (s : State) (job ctx prio sample : Nat) (origin : Option (Nat × List Byte)) (deadline : Nat) : State :=
  let img := s.fwh.image
  let far := decide (1 < (Image.jobMembers img job).length)
  let no := s.fwh.numbers.get (fun _ => 0) job + 1
  let r : Run := {
    id := s.fwh.nextId, job, ctx, prio, sample, origin, deadline, continues := (Image.job? img job).any Image.jContinue
    admitted := s.now, epoch := s.hif.epoch, tasks := (Image.jobTasks img job).map fun _ => .idle
    number := if far then no else 0, image := img }
  { s with fwh := { s.fwh with
    runs := s.fwh.runs ++ [r], nextId := s.fwh.nextId + 1
    numbers := if far then s.fwh.numbers.put (fun _ => 0) job no else s.fwh.numbers } }

/-- May a context take a run? It holds fewer than 16, is in service and is not in teardown. -/
def State.ctxOut (s : State) (c : Nat) : Bool := s.brk.outRegions.contains (7, c)

/-- ADMIT_OVERFLOW (R299). -/
def State.admitOverflow (s : State) (sample job : Nat) : State :=
  let s := (s.raise Cause.ADMIT_OVERFLOW sample).bump Fld.CAD_MISSES_RUN
  (s.setWord64 Reg.CAD_LAST_MISS sample).setWord Reg.CAD_LAST_JOB (65536 * job)

/-- Does Freewheel run? ST16 was not skipped, an image is accepted, and the level is PL0 (R298, R311). -/
def State.fwhOn (s : State) : Bool := !s.fwh.skipped && !s.fwh.image.isEmpty && decide (s.sup.level = 0) && s.operational

/-- An emitted sample admits one run of each job bound to its context, but of a job that a drain holds (R105, R298, R299); a deadline that has passed by
then is missed at once (R313). -/
def State.boundAdmit (s : State) (ctx sample tLast : Nat) : State :=
  if !s.fwhOn then s
  else
    ((Image.jobs s.fwh.image).filter fun j => Image.jBind j == ctx && !s.fwh.held.contains (Image.jJob j)).foldl (fun s j =>
      let c := Image.jContext j
      let job := Image.jJob j
      if 16 ≤ (s.ctxRuns c).length ∨ s.ctxOut c = true ∨ (s.tearing c).isSome then s.admitOverflow sample job
      else
        let dl := tLast + Image.jDeadline j
        let s := s.admitRun job c (Image.jPriority j) sample none dl
        if dl < s.now then
          match s.fwh.runs.getLast? with
          | some r => s.runMisses r
          | none => s
        else s) s

/-- The oldest run of a context becomes WAITING or ACTIVE, or ends (R300, R169, R210, R326, R329). -/
def State.advanceRun (s : State) (r : Run) : State :=
  let img := if (Image.job? s.fwh.image r.job).isSome ∧ r.state = .queued then s.fwh.image else r.image
  let r := { r with image := img, tasks := if r.state = .queued then (Image.jobTasks img r.job).map fun _ => .idle else r.tasks }
  let begin := fun (s : State) =>
    if 1 < r.members.length ∧ r.members.any (fun m => m != s.moduleId && s.isLost m) = true then (s.raise Cause.MEMBER_LOST).endRun r St.FAULTED Cause.MEMBER_LOST
    else if 1 < r.members.length then
      let s := s.putRun { r with state := .active, joinedAt := some s.now }
      s.joinAt (r.members.headD 0) r.barrier r.number r.members.length r.job
    else s.putRun { r with state := .active, released := true }
  if r.sample = 0 then begin s
  else
    match s.sampleAt r.sample with
    | .held h =>
      if (Image.firstGroup? img r.job).all (Image.shapeMatches h) then begin s
      else (s.raise Cause.INPUT_SHAPE).endRun r St.FAULTED Cause.INPUT_SHAPE
    | .future =>
      if (s.ctx (r.sample / 2 ^ 59)).state = .free then (s.raise Cause.SAMPLE_NEVER).endRun r St.FAULTED Cause.SAMPLE_NEVER
      else s.putRun { r with state := .waiting }
    | .gone => (s.raise Cause.SAMPLE_EXPIRED).endRun r St.FAULTED Cause.SAMPLE_EXPIRED

/-- Every context's oldest run moves on, but one of a job that a drain holds (R105); `fuel` covers the runs that end at once. -/
def State.advanceCtx (s : State) (c : Nat) : Nat → State
  | 0 => s
  | fuel + 1 =>
    match s.ctxRuns c with
    | [] => s
    | r :: _ => if r.state = .active ∨ (s.tearing c).isSome ∨ s.fwh.held.contains r.job then s else (s.advanceRun r).advanceCtx c fuel

/-! ### Placement (R300, R301) -/

/-- A task that could run on an engine: its run and index, and the frame it is saved in. -/
structure Ready where
  run : Run
  idx : Nat
  saved : Option Nat
  any : Bool
  deriving DecidableEq, Repr

/-- Have all tasks of the waves before `w` ended? -/
def Run.waveOpen (r : Run) (w : Nat) : Bool := r.each.all fun (t, st) => decide (w ≤ Image.tWave t) || decide (st = .ended)

/-- Does a job's task use an array whose backing waits to move? Until it has, no such task begins (R196). -/
def State.moveHolds (s : State) (r : Run) : Bool :=
  (List.range 16).any fun e => !s.isFixed e && (s.eng e).move.any fun v => Config.jobUsesArray r.image r.job (16 * e + v.arr)

/-- The ready tasks that may use engine e (R196, R300, R301). -/
def State.readyFor (s : State) (e : Nat) : List Ready :=
  (s.fwh.runs.filter fun r => decide (r.state = .active) && bitOn (Image.mask r.image) e).flatMap fun r =>
    r.each.zipIdx.filterMap fun ((t, st), i) =>
      match st with
      | .idle => if !s.moveHolds r && r.waveOpen (Image.tWave t) && (Image.tEngine t == e || Image.tEngine t == 0xFF) then some ⟨r, i, none, Image.tEngine t == 0xFF⟩ else none
      | .saved e' f => if e' = e then some ⟨r, i, some f, false⟩ else none
      | _ => none

/-- Does `a` run before `b`? Higher priority, earlier deadline, earlier admission, lower context (R301). -/
def Run.before (a b : Run) : Bool :=
  if a.prio ≠ b.prio then decide (b.prio < a.prio)
  else if a.deadline ≠ b.deadline then decide (a.deadline < b.deadline)
  else if a.admitted ≠ b.admitted then decide (a.admitted < b.admitted)
  else if a.ctx ≠ b.ctx then decide (a.ctx < b.ctx) else decide (a.id < b.id)

/-- The best of a list of ready tasks. -/
def bestReady : List Ready → Option Ready
  | [] => none
  | x :: t => match bestReady t with | some y => some (if y.run.before x.run then y else x) | none => some x

/-- Set a task's state. -/
def Run.setTask (r : Run) (i : Nat) (t : TaskSt) : Run := { r with tasks := setAt r.tasks i t }

/-- The group record that a run's task names. -/
def Run.group? (r : Run) (i : Nat) : Option (List Byte) := (Image.partOf r.image r.job).group? (Image.tGroup (r.recs.getD i []))

/-- A run's task runs on engine e: the engine's registers show its group (R221, R243). -/
def State.showTask (s : State) (r : Run) (i e : Nat) : State :=
  match r.group? i with
  | some g => s.showGroup r.image (Image.partOf r.image r.job) e g
  | none => s

/-- A task begins on engine e, or its restore is decided (R301, R303, R306). -/
def State.startTask (s : State) (e : Nat) (x : Ready) : State :=
  let s := s.setEng e { s.eng e with gated := false }
  match x.saved with
  | some f =>
    let s := { s with fwh := { s.fwh with xfers := s.fwh.xfers ++ [(⟨true, e, f, x.run.id, x.idx, s.now⟩ : Xfer)] } }
    s.putRun (x.run.setTask x.idx (.restoring e f))
  | none =>
    let first := x.run.tasks.all fun t => t == .idle
    let s := s.showTask x.run x.idx e
    s.putRun { x.run.setTask x.idx (.running e s.now) with epoch := if first then s.hif.epoch else x.run.epoch }

/-- Every idle engine takes its best ready task (R301). -/
def State.dispatch (s : State) : State :=
  (List.range 16).foldl (fun s e =>
    if s.engineIdle e then
      match bestReady (s.readyFor e) with
      | some x =>
        match x.run.origin with
        | some (n, d) =>
          -- R83: a first task reads its run's input in host memory; with the link down the run ends there without a completion
          if x.saved.isNone && !s.hif.linkUp && rd d 32 8 != 0 && !bitOn (rd d 32 8) 63 && x.run.tasks.all (fun t => t == .idle) then
            (s.endDesc n d).endRun x.run St.DMA_ERROR 0
          else s.startTask e x
        | none => s.startTask e x
      | none => s
    else s) s

/-- Freewheel moves on: runs advance, and idle engines take tasks. -/
def State.fwhAdvance (s : State) : State :=
  if s.fwhOn then ((List.range 32).foldl (fun s c => s.advanceCtx c ((s.ctxRuns c).length + 2)) s).dispatch else s

/-! ### Pre-emption (R302, R305 to R307) -/

/-- The running task of an engine: its run, index and start. -/
def State.runningOn (s : State) (e : Nat) : Option (Run × Nat × Nat) :=
  s.fwh.runs.findSome? fun r => r.tasks.zipIdx.findSome? fun (t, i) =>
    match t with
    | .running e' since => if e' = e then some (r, i, since) else none
    | _ => none

/-- Would a run of priority `p` pre-empt the task on engine e (R302), leaving out time and frames? -/
def State.lowerOn (s : State) (e p : Nat) : Option Nat :=
  match s.runningOn e with
  | some (r, _, _) => if r.prio < p then some r.prio else none
  | none => none

/-- The engine on which a task with ENGINE 0xFF pre-empts: the lowest priority, then the lowest number (R301). -/
def State.anyTarget (s : State) (p : Nat) : Option Nat :=
  (List.range 16).foldl (fun b e =>
    match s.lowerOn e p, b with
    | some q, some e0 => if (s.lowerOn e0 p).any fun q0 => decide (q < q0) then some e else b
    | some _, none => some e
    | none, _ => b) none

/-- The task that pre-empts on engine e. -/
def State.preemptor (s : State) (e : Nat) : Option Ready :=
  bestReady ((s.readyFor e).filter fun x => (s.lowerOn e x.run.prio).isSome && (!x.any || s.anyTarget x.run.prio == some e))

/-- A pre-emption is decided on engine e (R302): with no frame free it is deferred. -/
def State.preempt (s : State) (e : Nat) : State :=
  match s.runningOn e, s.preemptor e with
  | some (r, i, since), some _ =>
    if s.fget Fld.FWH_CONFIG_PREEMPT_EN = 0 ∨ s.fget Fld.FWH_SAVE_FRAMES_FRAMES = 0 then s
    else
      let s := s.passUntil (since + 1000 * s.fget Fld.FWH_CONFIG_MIN_RUN_US)
      match (List.range (s.fget Fld.FWH_SAVE_FRAMES_FRAMES)).find? fun f => !s.fwh.frames.contains f with
      | none => s.bump Fld.FWH_NO_FRAME_COUNT
      | some f =>
        let s := (s.bump64 Reg.FWH_PREEMPTIONS).putRun (r.setTask i (.saving e f))
        { s with fwh := { s.fwh with frames := s.fwh.frames ++ [f], xfers := s.fwh.xfers ++ [(⟨false, e, f, r.id, i, s.now⟩ : Xfer)] } }
  | _, _ => s

/-- Bytes of a frame's content after its header. -/
def frameContent : Nat := 0x2E0FC0

/-- A frame's header without its CRC: bytes 16 to 63 (Table 12.5). -/
def frameTail (r : Run) (now : Nat) : List Byte := leBytes 8 r.sample ++ leBytes 2 r.epoch ++ leBytes 6 0 ++ leBytes 8 now ++ leBytes 24 0

/-- The 64 header bytes of a frame (Table 12.5). -/
def frameHeader (r : Run) (e idx now : Nat) (content : List Byte) : List Byte :=
  let tail := frameTail r now
  leBytes 4 0x53465743 ++ leBytes 1 r.ctx ++ leBytes 1 e ++ leBytes 2 r.job ++ leBytes 1 idx ++ leBytes 3 0 ++ leBytes 4 (crc32c (tail ++ content)) ++ tail

/-- The transfer that may progress on engine e: one of the first two decided (R306). -/
def State.xferOn (s : State) (e : Nat) (restore : Bool) : Option Xfer := (s.fwh.xfers.take 2).find? fun x => x.engine == e && x.restore == restore

/-- The shortest save or restore in ns: 3,018,752 bytes at the engine's 32 GB/s (R305, Table 12.6). -/
def xferMin : Nat := 94336

/-- The longest save or restore. -/
def State.xferTook (s : State) (ns : Nat) : State := s.setWord Reg.FWH_SAVE_MAX_NS (max (s.word Reg.FWH_SAVE_MAX_NS) (min 0xFFFFFFFF ns))

/-- A save ends: the frame holds the task (R305). -/
def State.saveDone (s : State) (e took : Nat) (content : List Byte) : State :=
  let ns := max xferMin took
  match s.xferOn e false with
  | none => s
  | some x =>
    match s.run? x.run with
    | none => s
    | some r =>
      let s := (s.passUntil (x.since + ns)).xferTook ns
      let b := slice content 0 frameContent
      let s := s.memWrite false (s.frameBase x.frame) (frameHeader r e (Image.tIndex (r.recs.getD x.task [])) s.now b ++ b)
      let s := { s with fwh := { s.fwh with xfers := s.fwh.xfers.filter fun y => y != x } }
      s.putRun (r.setTask x.task (.saved e x.frame))

/-! ### Teardown (R309, R310) -/

/-- A context is torn down: `fault` names the run that faulted and its code; every other run is killed. -/
def State.tearDown (s : State) (c : Nat) (fault : Option (Nat × Nat)) : State :=
  let rs := s.ctxRuns c
  let tasks := rs.flatMap fun r => r.tasks.filter fun t => t != .idle && t != .ended
  let engines := tasks.filterMap TaskSt.engine?
  let old := (s.tearing c).getD ⟨0, [], []⟩
  let s := (s.bump Fld.FWH_TEARDOWNS_COUNT).setTear c (some { old with stopped := old.stopped + tasks.length, engines := old.engines ++ engines })
  rs.foldl (fun s r =>
    match fault with
    | some (id, code) => if r.id = id then s.endRun r St.FAULTED code else s.endRun r St.KILLED
    | none => s.endRun r St.KILLED) s

/-- A fault of a run: its record in its context's region, and the teardown (R309). -/
def State.runFault (s : State) (r : Run) (code : Nat) : State := (s.raiseIn code 7 r.ctx).tearDown r.ctx (some (r.id, code))

/-- The run whose task occupies an engine. -/
def State.runOn (s : State) (e : Nat) : Option Run := s.fwh.runs.find? fun r => r.tasks.any fun t => t.engine? == some e

/-- A contained fault of the Freewheel task on engine e (R309). -/
def State.taskFault (s : State) (e code : Nat) : State := match s.runOn e with | some r => s.runFault r code | none => s

/-- The teardown of a context ends; the CONTEXT_KILLs that joined it complete (R309, R310, Table 18.4). -/
def State.teardownDone (s : State) (c : Nat) : State :=
  match s.tearing c with
  | none => s
  | some t =>
    let s := (s.setTear c none).endHandling 7 c
    t.kills.foldl (fun s k => s.complete k.1 k.2 St.OK 0 t.stopped) s

/-- A restore ends: a frame that fails its checks, or is poisoned, is not restored (R307). -/
def State.restoreDone (s : State) (e took : Nat) : State :=
  let ns := max xferMin took
  match s.xferOn e true with
  | none => s
  | some x =>
    match s.run? x.run with
    | none => s
    | some r =>
      let s := (s.passUntil (x.since + ns)).xferTook ns
      let base := s.frameBase x.frame
      let h := s.dramRead base 64
      let ok := decide (rd h 0 4 = 0x53465743) && decide (rd h 4 1 = r.ctx) && decide (rd h 5 1 = e) && !s.poisoned base (64 + frameContent) &&
        decide (rd h 12 4 = crc32c (h.drop 16 ++ s.dramRead (base + 64) frameContent))
      if ok then
        let s := { s with fwh := { s.fwh with xfers := s.fwh.xfers.filter (fun y => y != x), frames := s.fwh.frames.filter fun f => f != x.frame } }
        (s.showTask r x.task e).putRun (r.setTask x.task (.running e s.now))
      else s.runFault r Cause.SAVE_CORRUPT

/-- CONTEXT_KILL of a context (R310). -/
def State.contextKill (s : State) (qp : Nat) (d : List Byte) : State :=
  let c := rd d 8 1
  if 31 < c then s.malformed qp d 8
  else
    let jobs := (s.ctxRuns c).map (·.job)
    let s := s.renumber fun j => jobs.contains j || (Image.job? s.fwh.image j).any fun e => Image.jContext e == c && Image.jBind e != 0xFF
    match s.tearing c with
    | some t => s.setTear c (some { t with kills := t.kills ++ [(qp, d)] })
    | none =>
      if (s.ctxRuns c).isEmpty then s.complete qp d St.OK
      else
        let s := s.raise Cause.CONTEXT_KILLED
        let s := s.tearDown c none
        s.setTear c ((s.tearing c).map fun t => { t with kills := t.kills ++ [(qp, d)] })

/-- Every run ends with a status: a level of PL1 or above, a sleep, or safe state (R311, R54, R455). -/
def State.fwhStopAll (s : State) (status fault : Nat) : State :=
  let s := s.fwh.runs.foldl (fun s r => s.endRun r status fault) s
  let ts := s.fwh.tear
  let s := { s with fwh := { s.fwh with tear := [], xfers := [], frames := [] } }
  let s := (List.range 32).foldl (fun s c => s.endHandling 7 c) s
  ts.foldl (fun s t => (t.2.elim [] (·.kills)).foldl (fun s k =>
    if status = St.FAULTED then s.complete k.1 k.2 status fault else s.complete k.1 k.2 St.OK 0 (t.2.elim 0 (·.stopped))) s) s

/-! ### The end of a task (R300, R304) -/

/-- The address in OUT_ADDR of a RUN at an offset, with the room left. -/
def Run.outAt (r : Run) (k : Nat) : Option (Nat × Nat) :=
  match r.origin with
  | some (_, d) => if rd d 40 8 = 0 then none else some (rd d 40 8 + k, rd d 48 4 - k)
  | none => none

/-- The fault of writing pieces at an address: only module memory can refuse them (R259). -/
def State.outFault (s : State) (a : Nat) (out : List (Nat × List Byte)) : Option Nat :=
  if bitOn a 63 then out.findSome? fun q => s.accessFault true false (bits a 40 0 + q.1) q.2.length else none

/-- The record of a task's phase; empty when its job has no phases. -/
def Run.phaseOf (r : Run) (i : Nat) : List Byte :=
  ((Image.jobPhases r.image r.job).find? fun p =>
    decide (Image.phFirst p ≤ Image.tWave (r.recs.getD i [])) && decide (Image.tWave (r.recs.getD i []) ≤ Image.phLast p)).getD []

/-- What the groups of a task read beside the sample: its phase, and the place of this module among the members. -/
def State.taskFeed (s : State) (r : Run) (i : Nat) : Feed :=
  { free := true, hdr := [], posts := [], limited := false, phase := r.phaseOf i, member := r.members.idxOf s.moduleId }

/-- The work of task i of a run: its entries join the run's queue and its output is written, the bytes of one tensor at OUT_ADDR as far as there is room; the code of an access that failed. No FRC tensor
goes to OUT_ADDR (R217). -/
def State.taskWork (s : State) (id i : Nat) (w : GroupWork) : State × Option Nat :=
  match s.run? id with
  | none => (s, none)
  | some r =>
    match r.group? i with
    | none => (s, none)
    | some g =>
      let p := Image.partOf r.image r.job
      let hdr := match s.sampleAt r.sample with | .held h => h | _ => []
      let inAddr := r.origin.elim 0 fun o => rd o.2 32 8
      let dst := if Image.outRatio p.chains g = 0 then w.out.bind r.outAt else none
      let a := match dst with | some (a, _) => a | none => (w.addr.getD 0).toNat
      let old := fun k => if bitOn a 63 then s.mem.byte (bits a 40 0 + k) else (Config.freeValue (s.freeCount + k)).truncate 8
      let (s, d) := s.groupWork r.image p g { s.taskFeed r i with hdr, inAddr, posts := r.posts, limited := r.limited } w old
      let r := { r with posts := r.posts ++ d.posts, limited := d.limited }
      match dst with
      | some (a, room) =>
        let out := d.out.map fun q => (q.1, q.2.take (room - q.1))
        let s := out.foldl (fun s q => s.writeOut (a + q.1) (room - q.1) q.2) s
        ((s.putRun { r with written := r.written + (out.map (·.2.length)).sum }), d.bad.or (s.outFault a (out.filter fun q => !q.2.isEmpty)))
      | none =>
        let out := if w.addr.isSome then d.out else []
        ((out.foldl (fun s q => s.memWrite false (bits a 40 0 + q.1) q.2) (s.putRun r)), d.bad.or (s.outFault (2 ^ 63 + bits a 40 0) out))

/-- The work of a task, until an access fails. -/
def State.taskWorks (s : State) (id i : Nat) : List GroupWork → State × Option Nat
  | [] => (s, none)
  | w :: t =>
    match s.taskWork id i w with
    | (s, some c) => (s, some c)
    | (s, none) => s.taskWorks id i t

/-- Does a row of a task's group still wait for an arrival flag? The task cannot have ended then (R241). -/
def State.taskWaits (s : State) (r : Run) (i : Nat) (e : Fin 16) : Bool :=
  (r.group? i).any fun g => !(s.lateRows r.image (Image.partOf r.image r.job) g (s.taskFeed r i) { engine := e }).isEmpty

/-- The last wave of a run has ended: its entries are posted, and it completes (R300, R304, R313). -/
def State.finishRun (s : State) (r : Run) : State :=
  let (s, late) := s.postAll r.posts
  s.endRun r (if r.missed then St.DEADLINE_MISSED else St.OK) (if late then Cause.LATE_ACTUATION else 0)

/-- The running task of engine e ends (R300): what its chains did, the flags of the regions they read, and its run if that was the last task. A deadline that has
passed is noticed first (R313). -/
def State.taskEnd (s : State) (e : Fin 16) (work : List GroupWork) (report : Bool) : State :=
  match s.runningOn e with
  | none => s
  | some (r, i, _) =>
    if r.deadline < s.now ∧ r.missed = false ∧ r.continues = false then s.runMisses r
    else if s.taskWaits r i e then s
    else
      let s := if r.deadline < s.now then s.runMisses r else s
      let (s, bad) := s.taskWorks r.id i (work.map fun w => { w with engine := e })
      match bad, s.run? r.id with
      | some c, some r => s.runFault r c
      | none, some r =>
        let r := { r.setTask i .ended with report := r.report || report }
        let rg := chainRegions r.image r.job (Image.tGroup (r.recs.getD i []))
        let s := (s.putRun r).clearArrivals true fun a => rg.contains (Image.aRegion a) && Image.aEngine a == e
        let s := { s with fwh := { s.fwh with taskEnded := true } }
        if r.tasks.all fun t => t == .ended then s.finishRun r else s
      | _, none => s

/-! ### Loss of a peer (R329, R417) -/

/-- Has every wave up to `w` ended? -/
def Run.waveDone (r : Run) (w : Nat) : Bool := r.each.all fun (t, st) => decide (w < Image.tWave t) || decide (st = .ended)

/-- The arrival region of a phase. -/
def Run.region? (r : Run) (p : List Byte) : Option (List Byte) := Image.arrival? r.image (Image.phRegion p)

/-- Does a run await a unit from member a? A phase with an exchange has not ended, and a unit of its piece is not flagged (R329). -/
def State.awaitsUnit (s : State) (r : Run) (a : Nat) : Bool :=
  let me := r.members.idxOf s.moduleId
  (Image.jobPhases r.image r.job).any fun p =>
    Image.phExchange p && !r.waveDone (Image.phLast p) &&
      match r.region? p with
      | none => false
      | some g =>
        let n := (pieceBytes p a me + Image.aUnitBytes g - 1) / max 1 (Image.aUnitBytes g)
        let first := a * Image.pieceUnits p (Image.aUnitBytes g)
        (List.range n).any fun k => !(s.arrival (65536 + Image.aRegion g)).flags.contains (first + k)

/-- A peer is declared lost (R417, R329, R420). -/
def State.peerLost (s : State) (dst : Nat) : State :=
  if s.isLost dst then s
  else
    let s := ((s.setLost dst true).raise Cause.IHX_PEER_LOST).msix 67
    let s := s.dropFrames dst fun _ => true
    let ps := s.ihx.pushes.filter fun p => p.dest == dst
    let s := ps.foldl (fun s p => s.endPush p St.FAULTED Cause.IHX_PEER_LOST) s
    let (hit, rest) := s.fwh.hostWaits.partition fun h => h.coordinator == dst
    let s := { s with fwh := { s.fwh with hostWaits := rest } }
    let s := hit.foldl (fun s h => s.complete h.qp h.d St.FAULTED Cause.IHX_PEER_LOST) s
    s.fwh.runs.foldl (fun s r =>
      if r.state = .active ∧ r.members.contains dst = true ∧ (r.released = false ∨ s.awaitsUnit r (r.members.idxOf dst) = true) then
        (s.raise Cause.MEMBER_LOST).endRun r St.FAULTED Cause.MEMBER_LOST
      else s) s

end Sys2Proof.Machine
end

