-- ==== Sys2Proof/Machine/Tru.lean ====
section
/-! DEFINITION. The Truing engine: problems, the iteration and its end, correction sections, the values they set, the Truing store (chapter 14). -/
namespace Sys2Proof.Machine

/-- FP64. -/
def fp64 : FpFmt := ⟨11, 52⟩

/-! ### Problems (R334 to R336, R343) -/

/-- PROBLEM of a SOLVE. -/
def Solve.number (x : Solve) : Nat := rd x.d 8 2
/-- KIND 0 names an array: 0x8000 + 16 × engine + array. -/
def Solve.isArray (x : Solve) : Bool := decide (0x8000 ≤ x.number)
/-- The engine of a KIND 0 problem. -/
def Solve.engine (x : Solve) : Nat := (x.number - 0x8000) / 16
/-- The logical array of a KIND 0 problem. -/
def Solve.array (x : Solve) : Nat := (x.number - 0x8000) % 16
/-- KIND of a problem record, or 0. -/
def Solve.kind (x : Solve) : Nat := if x.isArray then 0 else rd x.problem 0 1
/-- Parameters of the problem: 512 blocks of two for KIND 0. -/
def Solve.params (x : Solve) : Nat := if x.isArray then 1024 else rd x.problem 12 4

/-- The record of an image problem of the Freewheel image in effect. -/
def State.problem? (s : State) (n : Nat) : Option (List Byte) := if s.fwh.image.isEmpty then none else (Image.truRecs s.fwh.image)[n]?

/-- PROBLEM names a problem: of the directory, or an array. -/
def State.problemOk (s : State) (n : Nat) : Bool := (s.problem? n).isSome || (decide (0x8000 ≤ n) && decide (n < 0x8100))

/-- A finite FP32 value between 0 and 1, both excluded. -/
def toleranceOk (t : Nat) : Bool := Image.fpPositive t && flt t 0x3F800000

/-- The observation records of a solve (Table 14.5). -/
def obsRecs (d obs : List Byte) : List (List Byte) := (List.range (rd d 24 4 / 48)).map fun i => slice obs (48 * i) 48

/-- A record that R343 refuses: a reserved TYPE, an INDEX out of range, a negative or non-finite WEIGHT (ignored for TYPE 1). -/
def badObs (p r : List Byte) : Bool :=
  let t := rd r 4 1
  decide (1 < t) || (if t = 0 then decide (rd p 8 4 ≤ rd r 0 4) || fnonFinite (rd r 8 4) || flt (rd r 8 4) 0 else decide (rd p 4 2 ≤ rd r 0 4))

/-- The first field of SOLVE that breaks a rule (R343, step 2). -/
def State.solveFault (s : State) (x : Solve) : Option Nat :=
  let d := x.d
  if !s.problemOk x.number then some 8
  else if 1 < rd d 10 1 then some 10
  else if rd d 11 1 = 0 then some 11
  else if !toleranceOk (rd d 12 4) then some 12
  else if (if x.isArray then rd d 16 8 ≠ 0 else rd d 16 8 = 0 ∨ hostAddr (rd d 16 8) = false) then some 16
  else if rd d 24 4 % 48 ≠ 0 then some 24
  else if !hostAddr (rd d 32 8) then some 32
  else if 1 < rd d 44 1 then some 44
  else if 3 < rd d 45 1 then some 45
  else none

/-- The reason for which a SOLVE is refused (R343, step 3); `x` holds its problem record. -/
def State.solveRefused (s : State) (x : Solve) : Option Nat :=
  let work := s.fget Fld.TRU_WORK_SIZE_MIB * 2 ^ 20
  let a := s.arr x.engine x.array
  if 5 ≤ s.tru.queue.length then some 1
  else if work < (if x.isArray then 65536 else rd x.problem 28 4) then some 2
  else if rd x.d 40 4 < 64 + 4 * x.params then some 3
  else if x.isArray && ((a.state != .loaded && a.state != .bound) || a.suspect) then some 4
  else if !x.isArray && (obsRecs x.d x.obs).any (badObs x.problem) then some 5
  else none

/-! ### Where a solve starts from (R341) -/

/-- The contexts whose poses a KIND 1 or 2 problem solves for, in block order (Table 14.1). -/
def Solve.cameras (x : Solve) : List Nat := if x.kind = 1 then [rd x.problem 2 1] else (List.range 24).filter (bitOn (rd x.problem 44 4))

/-- Parameters of block i (Table 14.1). -/
def Solve.blockSize (x : Solve) (i : Nat) : Nat :=
  if x.isArray then 2
  else if x.kind = 3 then 1
  else if i < x.cameras.length then 8
  else if x.kind = 2 then 3
  else Config.blockSize x.problem i + 1

/-- Where the parameters of block i begin. -/
def Solve.blockAt (x : Solve) (i : Nat) : Nat := ((List.range i).map x.blockSize).sum

/-- Parameter j of a camera's block by the pose in effect (Table 14.7): rotation, translation, crop shift. -/
def poseParam (pose : List Byte) (j : Nat) : Nat := if j < 6 then rd pose (4 * j) 4 else fofInt (rdInt pose (24 + 2 * (j - 6)) 2)

/-- K in counts per mm from counts per metre in 32.32. -/
def countsPerMm (cpm : Nat) : Nat := fp32.packQuot false cpm 1000 (-32)

/-- The parameter's value in effect; 0 where there is none, and the nominal K (R341, R370). -/
def State.paramInEffect (s : State) (x : Solve) (i : Nat) : Nat :=
  if x.isArray then 0
  else if x.kind = 3 then
    let n := rd x.problem 2 1
    if i = 0 then
      let v := s.word64 (Reg.SPK_ENCn_CPM_EFFECT n)
      countsPerMm (if v = 0 then s.word64 (Reg.SPK_ENCn_CPM n) else v)
    else 0
  else match x.cameras[i / 8]? with
    | some c => poseParam (s.tru.poses.get (fun _ => []) c) (i % 8)
    | none => 0

/-- A TYPE 1 record sets the parameters of its block (Table 14.5). -/
def Solve.initialise (x : Solve) (l : List (BitVec 32)) (r : List Byte) : List (BitVec 32) :=
  if rd r 4 1 = 1 then
    let i := rd r 0 4
    let a := x.blockAt i
    l.take a ++ ((List.range (x.blockSize i)).map fun j => BitVec.ofNat 32 (rd r (12 + 4 * j) 4)) ++ l.drop (a + x.blockSize i)
  else l

/-- The parameters a solve starts from: values in effect, and in their place the initial values that records give, the later for the same block (R341). -/
def State.startParams (s : State) (x : Solve) : List (BitVec 32) :=
  let l := (List.range x.params).map fun i => BitVec.ofNat 32 (s.paramInEffect x i)
  if x.isArray then l else ((obsRecs x.d x.obs).foldl x.initialise l).take x.params

/-! ### Column reads (R350) -/

/-- Rows that column read j of 64 drives: 8 to 128 in steps of 8, four times over. -/
def columnDepth (j : Nat) : Nat := 8 * (j % 16 + 1)

/-- The rows themselves, by the fixed plan. -/
def columnRows (j : Nat) : List Nat := (orderBy (fun r => (Config.columnPlan j r).toNat) (List.range 512)).take (columnDepth j)

/-- Residual of column c in read j, in sixteenths of a unit: y − S_c, where y is the fine code × 2^k / 16 and S_c the exact sum of the weight image's cells. -/
def columnResidual (cells : List Byte) (j : Nat) (r : ColumnRead) (c : Nat) : Int :=
  (r.codes.getD c 0).toInt * (2 ^ MvmMath.stepExp (columnDepth j) : Nat) - 16 * MvmMath.colSum cells (columnRows j) c

/-- F at the start of a KIND 0 solve, where a = b = 0: half the sum of the squared residuals, exact in FP64. -/
def columnCost (cells : List Byte) (reads : List ColumnRead) : BitVec 64 :=
  let sum := ((reads.zipIdx).map fun (r, j) => ((List.range 512).map fun c => columnResidual cells j r c ^ 2).sum).sum
  BitVec.ofNat 64 (fp64.packInt sum (-9))

/-- The reads are 64, each in a slot of 5 ns of its own that the patrol rules and the budget allow, all over before the set-up ends and within one PATROL_MS (R180, R186, R350). `t` is
when the next may begin, `n` how many are still to come. -/
def State.readsOk (s : State) (e start last : Nat) : Nat → Nat → List ColumnRead → Bool
  | n, _, [] => n == 0
  | n, t, r :: l =>
    let a := start + r.start
    decide (0 < n) && decide (t ≤ a) && decide (a + 5 ≤ last) && s.patrolFrom e a == some a && s.readsOk e start last (n - 1) (a + 5) l

/-- The column reads of the running solve, if it is one of KIND 0, can have taken place as its trace says. -/
def State.columnsRead (s : State) (x : Solve) (t : SolveTrace) : Bool :=
  let start := x.start.getD s.now
  !x.isArray || (decide (0 < s.sup.budget) &&
    s.readsOk x.engine start (start + min t.setup (s.fget (Fld.ENG_n_CFG_PATROL_MS x.engine) * 1000000)) 64 start t.reads)

/-- The longest time of an iteration of the running solve in ns, twice: ITER_NS, half as much again at CP1 and twice at CP2 (R340). -/
def State.iterLimit2 (s : State) (x : Solve) : Nat := (if x.isArray then 40000 else rd x.problem 32 4) * (2 + s.sup.plan)

/-- No iteration takes longer than R340 lets it, and the set-up after the column reads no longer than 50 µs. -/
def State.timesOk (s : State) (x : Solve) (t : SolveTrace) : Bool :=
  (t.steps.all fun p => decide (2 * p.ns ≤ s.iterLimit2 x)) && (!x.isArray || decide (t.setup ≤ (t.reads.getLast?.elim 0 (·.start)) + 50005))

/-- F(x) at the start: of the columns read, or as the trace says. -/
def State.startCost (s : State) (x : Solve) (t : SolveTrace) : BitVec 64 :=
  if x.isArray then columnCost ((s.eng x.engine).phy x.backing).cells t.reads else t.cost0

/-! ### Running solves -/

/-- Replace the queue of solves. -/
def State.setSolves (s : State) (q : List Solve) : State := { s with tru := { s.tru with queue := q } }

/-- The front solve starts, under the directory in effect now; one whose PROBLEM no longer exists completes MALFORMED at offset 8 (14.8). `fuel` covers the queue. -/
def State.startSolve (s : State) : Nat → State
  | 0 => s
  | fuel + 1 =>
    match s.tru.queue with
    | [] => s
    | x :: t =>
      if x.start.isSome then s
      else if !s.problemOk x.number then ((s.setSolves t).malformed x.qp x.d 8).startSolve fuel
      else
        let e := s.eng x.engine
        let x := { x with problem := (s.problem? x.number).getD [] }
        s.setSolves ({ x with
          start := some s.now, x0 := s.startParams x
          backing := e.backing x.array, cycles := (e.phy (e.backing x.array)).cycles } :: t)

/-- SOLVE (R343). -/
def State.solve (s : State) (qp : Nat) (d obs : List Byte) : State :=
  let n := rd d 8 2
  let x : Solve := { qp, d, obs, problem := (s.problem? n).getD [] }
  if 2 ≤ s.sup.level ∨ (n < 0x8000 ∧ s.fwh.image = []) then s.complete qp d St.NOT_AVAILABLE
  else match s.solveFault x with
    | some off => s.malformed qp d off
    | none => s.reads qp d (rd d 24 4 != 0) fun s => match s.solveRefused x with
      | some r => s.refuse qp d r
      | none => (s.setSolves (s.tru.queue ++ [x])).startSolve (s.tru.queue.length + 1)

/-- The running solve and every queued one end without staging (R345, R455). -/
def State.truEnd (s : State) (status fault : Nat) : State :=
  s.tru.queue.foldl (fun s x => s.complete x.qp x.d status fault) (s.setSolves [])

/-! ### The iteration and its end (R338, R339) -/

/-- A finite value as m × 2^e. -/
def Fv.exact (a : Fv) : Int × Int :=
  match a with
  | .fin n m e => (signedM n m, e)
  | _ => (0, 0)

/-- Exact difference. -/
def exSub (a b : Int × Int) : Int × Int :=
  let e := min a.2 b.2
  (a.1 * 2 ^ (a.2 - e).toNat - b.1 * 2 ^ (b.2 - e).toNat, e)

/-- Exact a ≤ b. -/
def exLe (a b : Int × Int) : Bool := decide ((exSub a b).1 ≤ 0)

/-- Where a solve stands: x, F(x) in FP64, λ as a power of ten, iterations, the outlier blocks of the last one, time since the start. -/
structure SolveAt where
  x : List (BitVec 32)
  cost : BitVec 64
  lambda : Int := -4
  iters : Nat := 0
  outliers : Nat := 0
  ns : Nat
  deriving DecidableEq, Repr

/-- The exact value of an FP64 cost. -/
def costOf (c : BitVec 64) : Int × Int := (fp64.read c.toNat).exact

/-- Is an FP64 value finite? -/
def finite64 (c : BitVec 64) : Bool := decide (bits c.toNat 62 52 ≠ 2047)

/-- One iteration (R338), and the reason at which the solve ends after it, if any (Table 14.4, the first row that holds). `lm` is METHOD 1, `tol` the TOLERANCE, `stale` whether a
KIND 0 array changed, `limit` TIME_LIMIT in ns. -/
def SolveAt.step (a : SolveAt) (lm : Bool) (maxIter tol limit : Nat) (stale : Bool) (p : SolveStep) : SolveAt × Option Nat :=
  let fin := p.finite && finite64 p.cost && finite64 a.cost && !(p.params.any fun v => fnonFinite v.toNat)
  let f := costOf a.cost
  let f' := costOf p.cost
  let lower := if lm then !exLe f f' else exLe f' f
  let ok := fin && p.pivotOk && lower
  let lambda := if !lm then a.lambda else if ok then max (a.lambda - 1) (-10) else a.lambda + 1
  let tolF := ((fp32.read tol).exact.1 * f.1, (fp32.read tol).exact.2 + f.2)
  let b : SolveAt := { a with
    x := if ok then p.params else a.x, cost := if ok then p.cost else a.cost
    lambda, iters := a.iters + 1, outliers := p.outliers, ns := a.ns + p.ns }
  let reason :=
    if ok && (exLe (exSub f f') tolF || f'.1 == 0) then some 1
    else if maxIter ≤ b.iters then some 2
    else if !lm && fin && p.pivotOk && !lower then some 3
    else if lm && decide (10 < lambda) then some 4
    else if !lm && fin && !p.pivotOk then some 5
    else if !fin then some 6
    else if limit ≤ b.ns then some 8
    else if stale then some 9
    else none
  (b, reason)

/-- The iterations up to the end. -/
def SolveAt.run (lm : Bool) (maxIter tol limit : Nat) (stale : Bool) : SolveAt → List SolveStep → Option (SolveAt × Nat)
  | _, [] => none
  | a, p :: t =>
    match a.step lm maxIter tol limit stale p with
    | (b, some r) => some (b, r)
    | (b, none) => SolveAt.run lm maxIter tol limit stale b t

/-- Does a residual block have an observation of non-zero weight? The later record for an INDEX stands (R341). -/
def observed (recs : List (List Byte)) (i : Nat) : Bool :=
  match (recs.filter fun r => rd r 4 1 == 0 && rd r 0 4 == i).getLast? with
  | some r => rd r 8 4 % 2 ^ 31 != 0
  | none => false

/-- TOO_FEW (Table 14.4): for KIND 3 from the records, whose blocks have one component each. -/
def Solve.tooFew (x : Solve) (t : SolveTrace) : Bool :=
  if x.isArray then false
  else if x.kind = 3 then
    decide (((List.range (rd x.problem 8 4)).filter (observed (obsRecs x.d x.obs))).length < x.params)
  else t.tooFew

/-- The KIND 0 array's backing or program count changed since the start (reason 9). -/
def State.solveStale (s : State) (x : Solve) : Bool :=
  let e := s.eng x.engine
  x.isArray && (e.backing x.array != x.backing || (e.phy (e.backing x.array)).cycles != x.cycles)

/-- How the solve ends: the last state and the reason. -/
def State.solveOutcome (s : State) (x : Solve) (t : SolveTrace) : Option (SolveAt × Nat) :=
  let a : SolveAt := { x := x.x0, cost := s.startCost x t, ns := t.setup }
  if x.tooFew t then some (a, 7)
  else SolveAt.run (rd x.d 10 1 == 1) (rd x.d 11 1) (rd x.d 12 4) (s.fget Fld.TRU_CONFIG_TIME_LIMIT_MS * 1000000) (s.solveStale x) a t.steps

/-- FP64 to FP32. -/
def costF32 (c : BitVec 64) : Nat := fp32.round (fp64.read c.toNat)

/-- λ in FP32 (Table 14.6). -/
def lambdaF32 (k : Int) : Nat := if 0 ≤ k then fp32.packQuot false (10 ^ k.toNat) 1 0 else fp32.packQuot false 1 (10 ^ (-k).toNat) 0

/-- Parameter i of a solution. -/
def SolveAt.param (a : SolveAt) (i : Nat) : Nat := (a.x.getD i 0).toNat

/-- The solution at OUT_ADDR (Table 14.6): header and PARAMS values. -/
def solution (x : Solve) (a : SolveAt) (cost0 : BitVec 64) (reason start stop : Nat) : List Byte :=
  leBytes 2 x.number ++ leBytes 1 x.kind ++ leBytes 1 reason ++ leBytes 4 x.params ++ leBytes 4 (costF32 cost0) ++ leBytes 4 (costF32 a.cost) ++
    leBytes 4 (if rd x.d 10 1 = 1 then lambdaF32 a.lambda else 0) ++ leBytes 4 a.outliers ++ leBytes 8 start ++ leBytes 8 stop ++ leBytes 2 a.iters ++
    List.replicate 22 0 ++ (List.range x.params).flatMap fun i => leBytes 4 (a.param i)

/-! ### Sections (R347) -/

/-- Do two sections name the same target? -/
def Section.same (a b : Section) : Bool := a.type == b.type && a.a == b.a && a.b == b.b

/-- The sections with new ones staged: a section replaces one for the same TYPE and target. -/
def addSections (l new : List Section) : List Section := new.foldl (fun l x => l.filter (fun y => !y.same x) ++ [x]) l

/-- A section, with the backing and the program count of its array noted (R347). -/
def State.noteSection (s : State) (x : Section) : Section :=
  if x.type = 1 then
    let e := s.eng x.a
    { x with backing := e.backing x.b, cycles := (e.phy (e.backing x.b)).cycles }
  else x

/-- A value × 2^k to the nearest integer, ties away from zero (R347). -/
def scaledRound (v : Nat) (k : Int) : Int :=
  match fp32.read v with
  | .fin n m e => if 0 ≤ e + k then signedM n m * 2 ^ (e + k).toNat else rndShift (signedM n m) (-(e + k)).toNat true
  | _ => 0

/-- Trims by column: gain and offset, signed (7.7); an empty list is all zero. -/
def trimOf (trims : List Byte) (c : Nat) : Int × Int := (rdInt trims (2 * c) 1, rdInt trims (2 * c + 1) 1)

/-- TRIM_LIMIT, once per array (R194). -/
def State.trimLimit (s : State) (e k m : Nat) : State :=
  let x := s.eng e
  if (x.phy k).trimLimit then s
  else (s.setEng e (x.setPhy k { x.phy k with trimLimit := true })).raiseArr Cause.TRIM_LIMIT e m

/-- The new trims of column c (R347), and whether one was clamped. -/
def newTrim (trims : List Byte) (a : SolveAt) (c : Nat) : (Int × Int) × Bool :=
  let t := trimOf trims c
  let g := t.1 - scaledRound (a.param (2 * c)) 12
  let o := t.2 - scaledRound (a.param (2 * c + 1)) 5
  let cl := fun (v : Int) => max (-127) (min 127 v)
  ((cl g, cl o), decide (cl g ≠ g) || decide (cl o ≠ o))

/-- A crop shift parameter in pixels, 16-bit signed; a free value where it does not fit. -/
def State.cropPixels (s : State) (v : Nat) : State × Nat :=
  let p := scaledRound v 0
  if -32768 ≤ p ∧ p ≤ 32767 then (s, ofSigned 16 p) else (s.useFree, s.free 16)

/-- The CAMERA_POSE section of block `i` of a solution (R347). -/
def State.poseSection (s : State) (a : SolveAt) (ctx i : Nat) : State × Section :=
  let pose := (List.range 6).flatMap fun j => leBytes 4 (a.param (8 * i + j))
  let (s, dx) := s.cropPixels (a.param (8 * i + 6))
  let (s, dy) := s.cropPixels (a.param (8 * i + 7))
  (s, { type := 2, a := ctx, b := 0, payload := pose ++ leBytes 2 dx ++ leBytes 2 dy ++ leBytes 4 0 })

/-- COUNTS_PER_M: round(K × 1,000 × 2^32); a free value where it does not fit 64 bits. -/
def State.wheelValue (s : State) (k : Nat) : State × Nat :=
  let v := match fp32.read k with
    | .fin n m e => if 0 ≤ e + 32 then signedM n (1000 * m) * 2 ^ (e + 32).toNat else rndShift (signedM n (1000 * m)) (-(e + 32)).toNat true
    | _ => 0
  if 0 ≤ v ∧ v < 2 ^ 64 then (s, v.toNat) else (s.useFree, s.free 64)

/-- |s_i| lies above TRU_CONFIG.SLIP × 0.1 %. -/
def slips (v slip : Nat) : Bool := !exLe (((fp32.read v).exact.1.natAbs : Int) * 1000, (fp32.read v).exact.2) ((slip : Int), 0)

/-- The sections that a solve stages (R347), with TRIM_LIMIT and SLIP_DETECTED. -/
def State.solveSections (s : State) (x : Solve) (a : SolveAt) : State × List Section :=
  if x.isArray then
    let e := s.eng x.engine
    let k := e.backing x.array
    let ts := (List.range 512).map (newTrim (e.phy k).trims a)
    let s := if ts.any (·.2) then s.trimLimit x.engine k x.array else s
    (s, [{ type := 1, a := x.engine, b := x.array, payload := ts.flatMap fun t => leBytes 1 (ofSigned 8 t.1.1) ++ leBytes 1 (ofSigned 8 t.1.2) }])
  else if x.kind = 3 then
    let (s, v) := s.wheelValue (a.param 0)
    let s := if (List.range (rd x.problem 6 2)).any fun i => slips (a.param (i + 1)) (s.fget Fld.TRU_CONFIG_SLIP) then s.raise Cause.SLIP_DETECTED else s
    (s, [{ type := 3, a := rd x.problem 2 1, b := 0, payload := leBytes 8 v }])
  else
    x.cameras.zipIdx.foldl (fun (s, l) (c, i) => let (s, p) := s.poseSection a c i; (s, l ++ [p])) (s, [])

/-- The solve's staging, and the status it ends with (R344, R347). -/
def State.stageSolve (s : State) (x : Solve) (a : SolveAt) : State × Nat :=
  let k := rd x.d 45 1
  if (s.set k).outstanding then (s, St.SET_BUSY)
  else
    let (s, new) := s.solveSections x a
    let l := addSections (s.set k).sections (new.map s.noteSection)
    if 1024 < l.length then (s, St.FULL) else (s.setSet k { s.set k with sections := l }, St.OK)

/-- The running solve ends as its trace says (R339, R342, R344); a trace that meets no condition leaves it running. Poisoned data ends it FAULTED with TRU_DATA_FAULT. -/
def State.solveEnd (s : State) (t : SolveTrace) : State :=
  match s.tru.queue with
  | [] => s
  | x :: rest =>
    let start := x.start.getD s.now
    let next := fun (s : State) => (s.setSolves rest).startSolve (rest.length + 1)
    let stop := fun (s : State) (a : SolveAt) => s.passUntil (start + a.ns)
    let result := fun (a : SolveAt) (reason : Nat) => a.iters % 65536 + 65536 * reason + 2 ^ 32 * costF32 a.cost
    match if s.columnsRead x t && s.timesOk x t then s.solveOutcome x t else none with
    | none =>
      if t.poisoned then
        let r := s.free 64
        next (((s.useFree.bump Fld.TRU_SOLVES_FAILED).raise Cause.TRU_DATA_FAULT).complete x.qp x.d St.FAULTED Cause.TRU_DATA_FAULT r)
      else s
    | some (a, reason) =>
      let s := stop s a
      let s := s.hostWrite (rd x.d 32 8) (solution x a (s.startCost x t) reason start s.now)
      if reason = 1 ∨ reason = 2 then
        let s := if reason = 1 then s.bump Fld.TRU_SOLVES_CONVERGED else s
        let (s, status) := if reason = 1 ∧ rd x.d 44 1 = 1 then s.stageSolve x a else (s, St.OK)
        next (s.complete x.qp x.d status 0 (if status = St.OK then result a reason else 0))
      else
        next (((s.bump Fld.TRU_SOLVES_FAILED).raise Cause.SOLVE_FAILED).complete x.qp x.d St.FAULTED Cause.SOLVE_FAILED (result a reason))

/-! ### Correction blocks (R346) -/

/-- The payload length of a section type (Table 14.7). -/
def sectionBytes (type : Nat) : Nat := if type = 1 then 1024 else if type = 2 then 32 else 8

/-- A section's TYPE and targets. -/
def sectionOk (type a b : Nat) : Bool :=
  (type == 1 && decide (a ≤ 15) && decide (b ≤ 15)) || (type == 2 && decide (a ≤ 23) && b == 0) || (type == 3 && decide (a ≤ 3) && b == 0)

/-- The sections that follow a header; none if one breaks R346 or they do not end with the block. -/
def readSections (b : List Byte) : Nat → Option (List Section)
  | 0 => if b.isEmpty then some [] else none
  | n + 1 =>
    let type := rd b 0 1
    let len := sectionBytes type
    if b.length < 8 + len ∨ sectionOk type (rd b 1 1) (rd b 2 1) = false ∨ rd b 4 4 ≠ len then none
    else (readSections (b.drop (8 + len)) n).map fun l => { type, a := rd b 1 1, b := rd b 2 1, payload := slice b 8 len } :: l

/-- The sections of a correction block; none if it fails a rule of R346. -/
def readBlock (b : List Byte) (length : Nat) : Option (List Section) :=
  let n := rd b 6 2
  if b.length ≠ length ∨ length < 32 ∨ rd b 0 4 ≠ 0x54434233 ∨ rd b 4 2 ≠ 1 ∨ n = 0 ∨ 1024 < n ∨ rd b 8 4 ≠ length ∨
      rd b 12 4 ≠ crc32c (b.take 12 ++ [0, 0, 0, 0] ++ b.drop 16) then none
  else readSections (b.drop 32) n

/-! ### Values in effect (R348, R349, R351, R370) -/

/-- SPK_ENCn_CPM_EFFECT is set. -/
def State.setCpm (s : State) (ch v : Nat) : State := s.setWord64 (Reg.SPK_ENCn_CPM_EFFECT ch) v

/-- A committed section takes effect (R348). -/
def State.sectionEffect (s : State) (x : Section) : State :=
  if x.type = 1 then
    let e := s.eng x.a
    let k := e.backing x.b
    if k ≠ x.backing ∨ (e.phy k).cycles ≠ x.cycles then s.raise Cause.TRUING_STALE
    else
      let s := s.setEng x.a (e.setPhy k { e.phy k with trims := x.payload })
      let s := if x.payload.any fun b => b.toInt.natAbs ≥ 127 then s.trimLimit x.a k x.b else s
      let due := s.fget (Fld.TRU_DUE_n_MASK x.a)
      let s := if bitOn due x.b then s.fset (Fld.TRU_DUE_n_MASK x.a) (due - 2 ^ x.b) else s
      { s with tru := { s.tru with dirty := true } }
  else if x.type = 2 then
    { s with tru := { s.tru with poses := s.tru.poses.put (fun _ => []) x.a x.payload, dirty := true } }
  else
    let s := s.setCpm x.a (rd x.payload 0 8)
    { s with tru := { s.tru with dirty := true } }

/-- The sections of a set take effect. -/
def State.sectionsEffect (s : State) (l : List Section) : State := l.foldl State.sectionEffect s

/-- The trims of every physical array, by 32 × engine + array. -/
def State.allTrims (s : State) : Tbl (List Byte) :=
  (List.range 16).foldl (fun t e => (List.range 17).foldl (fun t k => t.put (fun _ => []) (32 * e + k) ((s.eng e).phy k).trims) t) []

/-- The counts per metre in effect of every channel. -/
def State.allWheels (s : State) : Tbl Nat := (List.range 4).foldl (fun t n => t.put (fun _ => 0) n (s.word64 (Reg.SPK_ENCn_CPM_EFFECT n))) []

/-- Is copy B the valid copy with the higher generation? -/
def Tru.usesB (t : Tru) : Bool := t.copyB.valid && (!t.copyA.valid || decide (t.copyA.generation < t.copyB.generation))

/-- Every value in effect is written to the copy with the lower generation (R349); `ok` tells whether the write succeeded. -/
def State.storeWrite (s : State) (ok : Bool) : State :=
  if !s.tru.dirty then s
  else if !ok then ({ s with tru := { s.tru with dirty := false } }).raise Cause.STORE_WRITE_FAILED
  else
    let b := decide (s.tru.copyB.generation < s.tru.copyA.generation)
    let g := max s.tru.copyA.generation s.tru.copyB.generation + 1
    let c : TruCopy := { valid := true, generation := g, trims := s.allTrims, poses := s.tru.poses, wheels := s.allWheels }
    { s with tru := { s.tru with
      dirty := false, generation := g, copyA := if b then s.tru.copyA else c, copyB := if b then c else s.tru.copyB } }

/-- Values take effect at ST17: trims, poses and counts per metre. -/
def State.truLoad (s : State) (trims : Nat → List Byte) (poses : Tbl (List Byte)) (wheels : Nat → Nat) : State :=
  let s := (List.range 16).foldl (fun s e => (List.range 17).foldl (fun s k =>
    let x := s.eng e
    s.setEng e (x.setPhy k { x.phy k with trims := trims (32 * e + k) })) s) s
  let s := { s with tru := { s.tru with poses } }
  (List.range 4).foldl (fun s n => s.setCpm n (wheels n)) s

/-- ST17 has passed with its primary action (the valid copy with the higher generation, source 0), with its alternate action (factory values, source 1), or was skipped
(neutral values, source 2) (R349, Table 3.1). -/
def State.st17 (s : State) (source : Nat) : State :=
  let c := if s.tru.usesB then s.tru.copyB else s.tru.copyA
  let s := { s with tru := { s.tru with source, dirty := false, generation := if source = 0 then c.generation else s.tru.generation } }
  if source = 0 then s.truLoad (fun k => c.trims.get (fun _ => []) k) c.poses (fun n => c.wheels.get (fun _ => 0) n)
  else if source = 1 then
    s.truLoad (fun k => (List.range 512).flatMap fun c => leBytes 2 (Config.factoryTrim k c).toNat)
      ((List.range 24).map fun n => (n, (List.range 32).map fun i => Config.factoryPose n i))
      (fun n => (Config.factoryWheel n).toNat)
  else s.truLoad (fun _ => []) [] (fun _ => 0)

end Sys2Proof.Machine
end

