-- ==== Sys2Proof/Machine/Time.lean ====
section
/-! DEFINITION. The time base: references, acquisition, holdover, steps, PPS output, the launch queues (chapter 16). -/
namespace Sys2Proof.Machine

/-! ### Quality and PPS output (R384, R390, R393) -/

/-- The quality of a state (Table 16.3): 0 TRACEABLE, 1 HOLDOVER, 2 UNSYNCED. -/
def TimeBase.qualityOf (t : TimeBase) : Nat :=
  match t.st with
  | .tracking => 0
  | .holdover => 1
  | .unsynced => 2
  | _ => if t.holdStart.isSome then 1 else 2

/-- PPS_OUT may be high: enabled, and not gated off (R393). -/
def State.ppsAllowed (s : State) : Bool :=
  s.tb.running && (decide (s.sup.power = .ready) || decide (s.sup.power = .active)) && s.fget Fld.TB_PPS_CFG_OUT_EN == 1 &&
    !(s.fget Fld.TB_CONFIG_PPS_GATE == 1 && s.tb.quality == 2)

/-- A running pulse ends where PPS_OUT may not be high (R393). -/
def State.ppsCheck (s : State) : State := if s.ppsAllowed then s else { s with tb := { s.tb with ppsHigh := none } }

/-- PPS_OUT rises at a whole second of module time, for OUT_WIDTH_MS (R393). -/
def State.ppsRise (s : State) (t : Nat) : State :=
  if s.ppsAllowed then
    { s with tb := { s.tb with ppsEdges := t :: s.tb.ppsEdges, ppsHigh := some (t + 1000000 * s.fget Fld.TB_PPS_CFG_OUT_WIDTH_MS) } }
  else s

/-- The quality follows the state; vector 66 fires at a change, which is also the change of TB_TIME_VALID (R384, R390). -/
def State.tbQuality (s : State) : State :=
  let q := s.tb.qualityOf
  if s.tb.quality = q then s else ((({ s with tb := { s.tb with quality := q } }).msix 66).ppsCheck)

/-- The time base enters a state. -/
def State.tbEnter (s : State) (st : TbState) : State := ({ s with tb := { s.tb with st, ds := [] } }).tbQuality

/-- Entry to TRACKING: the holdover timer stops, REF_ACQUIRED (Table 16.2). -/
def State.tbTrack (s : State) : State :=
  if s.tb.st = .tracking then { s with tb := { s.tb with ds := [], due := false } }
  else (({ s with tb := { s.tb with holdStart := none, due := false } }).raise Cause.REF_ACQUIRED).tbEnter .tracking

/-! ### References (R381 to R383) -/

/-- The reference that SOURCES selects among the qualified ones: 1 PTP, 2 PPS input, 0 none (R383). -/
def State.tbSelectable (s : State) : Nat :=
  let ptp := s.tb.ptpOk
  let pps := decide (4 ≤ s.tb.ppsCount)
  match s.fget Fld.TB_CONFIG_SOURCES with
  | 0 => if ptp then 1 else if pps then 2 else 0
  | 1 => if pps then 2 else if ptp then 1 else 0
  | 2 => if ptp then 1 else 0
  | _ => if pps then 2 else 0

/-- A reference is taken in UNSYNCED and HOLDOVER (Table 16.2). -/
def State.tbSelect (s : State) : State :=
  if s.tb.st ≠ .unsynced ∧ s.tb.st ≠ .holdover then s
  else
    let r := s.tbSelectable
    if r = 0 then s else ({ s with tb := { s.tb with source := r } }).tbEnter .acquiring

/-- A step back is no longer due: what waits for it completes with a step of 0 (R387). -/
def State.backCancel (s : State) : State :=
  let w := s.tb.back
  w.foldl (fun s (qp, d) => s.complete qp d St.OK) { s with tb := { s.tb with due := false, back := [] } }

/-- The reference in use is lost (Table 16.2): steps that were pending for it lapse. -/
def State.refLost (s : State) : State :=
  if s.tb.source = 0 then s
  else
    let valid := decide (s.tb.quality ≠ 2)
    let s := (s.raise Cause.REF_LOST).backCancel
    let s := { s with tb := { s.tb with holdStart := s.tb.holdStart.or (some s.now), fwd := false, source := 0 } }
    let r := s.tbSelectable
    if r ≠ 0 then ({ s with tb := { s.tb with source := r } }).tbEnter .acquiring
    else s.tbEnter (if valid then .holdover else .unsynced)

/-- The reference in use no longer counts: not qualified, or SOURCES does not allow it (R383). -/
def State.tbCheckSource (s : State) : State :=
  let ok := match s.tb.source with
    | 1 => s.tb.ptpOk && s.fget Fld.TB_CONFIG_SOURCES != 3
    | 2 => decide (4 ≤ s.tb.ppsCount) && s.fget Fld.TB_CONFIG_SOURCES != 2
    | _ => true
  (if ok then s else s.refLost).tbSelect

/-! ### Offsets (R384 to R387) -/

/-- The decision on the mean of four offsets, given as their sum (Table 16.4). -/
def State.tbDecide (s : State) (sum : Int) : State :=
  if sum.natAbs ≤ 4000 then s.tbTrack
  else if sum.natAbs ≤ 400000 then s.tbEnter .slewing
  else if sum < 0 then { s with tb := { s.tb with fwd := true, ds := [] } }
  else if sum ≤ 4000000000 then s.tbEnter .slewing
  else (({ s with tb := { s.tb with due := true } }).tbEnter .slewing).raise Cause.STEP_BACK_DUE

/-- The last measured offset, as TB_OFFSET holds it. -/
def State.offset (s : State) : Int := toSigned 64 (s.word64 Reg.TB_OFFSET)

/-- The servo learns from an offset while it slews or tracks: the frequency that it then holds is a free value (R376, R385, R388). -/
def State.tbLearn (s : State) : State := if s.tb.st = .slewing ∨ s.tb.st = .tracking then s.useFree.setWord Reg.TB_FREQ (s.free 32) else s

/-- An offset D of the reference in use is measured (Table 16.2, R387). -/
def State.tbMeasure (s : State) (d : Int) : State :=
  let s := s.tbLearn.setWord64 Reg.TB_OFFSET (ofSigned 64 d)
  if s.tb.fwd then s
  else
    let next := s.tb.ds ++ [d]
    match s.tb.st with
    | .acquiring => if next.length < 4 then { s with tb := { s.tb with ds := next } } else s.tbDecide next.sum
    | .slewing =>
      if d.natAbs ≤ 1000 then s.backCancel.tbTrack
      else if d < -100000 then { s.backCancel with tb := { s.backCancel.tb with fwd := true } }
      else if d ≤ 1000000000 then s.backCancel
      else { s with tb := { s.tb with due := true } }
    | .tracking =>
      if d.natAbs ≤ 100000 then { s with tb := { s.tb with ds := [] } }
      else if next.length < 4 then { s with tb := { s.tb with ds := next } }
      else s.tbDecide next.sum
    | _ => s

/-- The sync interval in ns that LOG_SYNC gives. -/
def State.syncNs (s : State) : Nat :=
  let k := s.fget Fld.TB_PTP_CFG_LOG_SYNC
  if k < 8 then 1000000000 * 2 ^ k else 1000000000 / 2 ^ (16 - k)

/-- The ordinary clock's port takes a state, 9 being SLAVE; a complete Sync in SLAVE measures an offset (R381). -/
def State.ptpState (s : State) (st : Nat) (sync : Option Int) : State :=
  let s := { s with tb := { s.tb with portState := st } }
  if st ≠ 9 then (({ s with tb := { s.tb with ptpOk := false, syncLast := none } }).tbCheckSource)
  else match sync with
    | none => s
    | some d =>
      let s := ({ s with tb := { s.tb with ptpOk := true, syncLast := some s.now } }).tbSelect
      if s.tb.source = 1 then s.tbMeasure d else s

/-- The offset of a PPS edge at `t`: in −0.5 s exclusive to +0.5 s inclusive (R382). -/
def ppsOffset (t : Nat) : Int :=
  let r := t % 1000000000
  if r ≤ 500000000 then r else (r : Int) - 1000000000

/-- A PPS input edge at `t`, `wide` telling whether its pulse lasted 1 µs (R382). -/
def State.ppsEdge (s : State) (t : Nat) (wide : Bool) : State :=
  let inTime := match s.tb.ppsLast with
    | none => true
    | some u => decide (u + 999000000 ≤ t) && decide (t ≤ u + 1001000000)
  if wide && inTime then
    let at' := t - s.fget Fld.TB_PPS_CFG_IN_DELAY_NS
    let s := ({ s with tb := { s.tb with ppsLast := some t, ppsCount := s.tb.ppsCount + 1 } }).setWord64 Reg.TB_PPS_IN_LAST at'
    let s := s.tbSelect
    if s.tb.source = 2 then s.tbMeasure (ppsOffset at') else s
  else
    let s := if s.tb.ppsCount < 4 then { s with tb := { s.tb with ppsCount := 0 } } else s
    match s.tb.ppsRejected with
    | some u => if t < u + 60000000000 then s else ({ s with tb := { s.tb with ppsRejected := some t } }).raise Cause.PPS_IN_REJECTED
    | none => ({ s with tb := { s.tb with ppsRejected := some t } }).raise Cause.PPS_IN_REJECTED

/-! ### Launches (R394 to R397) -/

/-- LAUNCH + TOLERANCE of an entry. -/
def LaunchEntry.limit (e : LaunchEntry) : Nat := e.launch + rd e.d 12 4

/-- Insert in order of LAUNCH, after entries with an equal one (R395). -/
def addLaunch (e : LaunchEntry) : List LaunchEntry → List LaunchEntry
  | [] => [e]
  | x :: t => if x.launch ≤ e.launch then x :: addLaunch e t else e :: x :: t

/-- An entry completes LATE, with the module time of its drop (R394, R396). -/
def State.launchDrop (s : State) (e : LaunchEntry) : State :=
  (s.bump Fld.TB_LAUNCH_LATE_COUNT).complete e.qp e.d St.LATE 0 s.now

/-- LAUNCH_LATE with its count and port (Table 18.5). -/
def State.raiseLaunchLate (s : State) (count port : Nat) : State := s.raise Cause.LAUNCH_LATE (count + 2 ^ 32 * port)

/-- TIMED_SEND (R394). -/
def State.timedSend (s : State) (qp : Nat) (d frame : List Byte) : State :=
  let p := rd d 8 1
  let len := rd d 10 2
  let launch := rd d 16 8
  if 5 < p then s.malformed qp d 8
  else if 7 < rd d 9 1 then s.malformed qp d 9
  else if len < 60 ∨ 9216 < len ∨ s.fget (Fld.SW_Pp_CFG_MAX_FRAME p) < len then s.malformed qp d 10
  else if !hostAddr (rd d 24 8) then s.malformed qp d 24
  else if 64 ≤ (s.swPort p).launches.length then s.complete qp d St.FULL
  else if s.now + 100000000000 < launch then s.refuse qp d 1
  else if s.fget Fld.TB_CONFIG_SEND_VALID_ONLY = 1 ∧ s.tb.quality = 2 then s.refuse qp d 2
  else s.reads qp d true fun s =>
    let e : LaunchEntry := ⟨qp, d, slice frame 0 len, launch⟩
    if e.limit < s.now then (s.launchDrop e).raiseLaunchLate 1 p
    else
      let x := s.swPort p
      s.setSwPort p { x with launches := addLaunch e x.launches }

/-- The front entry of a port is launched as soon as the port is free at or after LAUNCH, if that is within its tolerance (R395). -/
def State.launch (s : State) (p : Nat) : State :=
  match (s.swPort p).launches with
  | [] => s
  | e :: t =>
    let x := s.swPort p
    let at' := max (max e.launch x.freeAt) s.now
    if !s.swUp p || !s.swOn || decide (e.limit < at') then s
    else
      let s := (s.passUntil at').setSwPort p { x with launches := t }
      let s := (s.sentFrame p at' e.frame).bump Fld.TB_LAUNCH_SENT_COUNT
      s.complete e.qp e.d St.OK 0 at'

/-- The front entry of a port cannot be launched: its link is down at LAUNCH, or LAUNCH + TOLERANCE passes first (R396). -/
def State.launchDeadline (s : State) (p : Nat) : State :=
  match (s.swPort p).launches with
  | [] => s
  | e :: t =>
    let x := s.swPort p
    if !s.swUp p then
      let s := (s.passUntil e.launch).setSwPort p { x with launches := t }
      (s.complete e.qp e.d St.FAULTED Cause.LAUNCH_LINK_DOWN).raise Cause.LAUNCH_LINK_DOWN
    else if e.limit < max x.freeAt s.now then
      let s := (s.passUntil e.limit).setSwPort p { x with launches := t }
      (s.launchDrop e).raiseLaunchLate 1 p
    else s

/-- Every launch entry completes with a status (R54, R455). -/
def State.launchesEnd (s : State) (status fault : Nat) : State :=
  (List.range 6).foldl (fun s p =>
    let x := s.swPort p
    x.launches.foldl (fun s e => s.complete e.qp e.d status fault) (s.setSwPort p { x with launches := [] })) s

/-- After a forward step, entries whose tolerance has passed are dropped, with one LAUNCH_LATE (R397). -/
def State.launchStep (s : State) : State :=
  let ports := (List.range 6).map fun p => (p, (s.swPort p).launches.filter fun e => decide (e.limit < s.now))
  let late := ports.flatMap (·.2)
  match ports.find? fun p => !p.2.isEmpty with
  | none => s
  | some (p, _) =>
    let s := (List.range 6).foldl (fun s p =>
      let x := s.swPort p
      s.setSwPort p { x with launches := x.launches.filter fun e => !decide (e.limit < s.now) }) s
    (late.foldl State.launchDrop s).raiseLaunchLate late.length p

/-! ### Steps (R386, R387, R389, R397) -/

/-- A time moved by a step. -/
def mv (k : Int) (t : Nat) : Nat := ((t : Int) + k).toNat
/-- An optional time moved by a step. -/
def mvo (k : Int) : Option Nat → Option Nat := Option.map (mv k)

/-- The times of a run that count down or measure it. -/
def Run.shift (k : Int) (r : Run) : Run :=
  { r with deadline := if r.deadline = noDeadline then noDeadline else mv k r.deadline, admitted := mv k r.admitted, joinedAt := mvo k r.joinedAt
           tasks := r.tasks.map fun t => match t with | .running e u => .running e (mv k u) | t => t }

/-- The times of an Ihlex peer. -/
def Peer.shift (k : Int) (p : Peer) : Peer :=
  { p with wait := p.wait.map fun f => { f with sentAt := mv k f.sentAt }, unacked := p.unacked.map fun f => { f with sentAt := mv k f.sentAt }
           lastTx := mv k p.lastTx, lastRx := mv k p.lastRx, idleSince := mv k p.idleSince, rxAt := mv k p.rxAt }

/-- Deadlines and timers of the scheduling blocks move with a step. -/
def State.shiftWork (s : State) (k : Int) : State :=
  { s with
    hif := { s.hif with
      vecs := s.hif.vecs.map fun v => (v.1, { v.2 with since := mvo k v.2.since })
      commits := s.hif.commits.map fun c => { c with notAfter := if c.notAfter = 0 then 0 else mv k c.notAfter } }
    brk := { s.brk with
      shownTLast := mvo k s.brk.shownTLast, shownAt := mv k s.brk.shownAt, wdogSince := mv k s.brk.wdogSince, testPulse := s.brk.testPulse.map fun p => (p.1, mv k p.2)
      opAt := mv k s.brk.opAt, emitted := s.brk.emitted.map fun e => (e.1, mv k e.2), tests := s.brk.tests.map fun e => (e.1, mv k e.2) }
    fxg := { s.fxg with
      regions := s.fxg.regions.map fun r => (r.1, { r.2 with setAt := mv k r.2.setAt })
      iter := s.fxg.iter.map fun i => { i with start := mv k i.start, tLast := mv k i.tLast }
      cadence := s.fxg.cadence.map fun c => { c with tLast := mv k c.tLast, opened := c.opened.map fun o => (o.1, mv k o.2) } }
    fwh := { s.fwh with
      runs := s.fwh.runs.map (Run.shift k)
      xfers := s.fwh.xfers.map fun x => { x with since := mv k x.since }
      hostWaits := s.fwh.hostWaits.map fun h => { h with joinedAt := mv k h.joinedAt } }
    tru := { s.tru with queue := s.tru.queue.map fun x => { x with start := mvo k x.start } }
    start := { s.start with stepAt := mv k s.start.stepAt, began := mv k s.start.began }
    mem := { s.mem with
      frameAt := mv k s.mem.frameAt, reads := s.mem.reads.map fun x => (x.1, mv k x.2), scrubs := s.mem.scrubs.map fun x => (x.1, { x.2 with since := mv k x.2.since })
      arrivals := s.mem.arrivals.map fun a => (a.1, { a.2 with times := a.2.times.map fun t => (t.1, mv k t.2) }) }
    sup := { s.sup with
      dwell := s.sup.dwell.map fun d => (d.1, mvo k d.2), vOkSince := mvo k s.sup.vOkSince, goodSince := mvo k s.sup.goodSince
      levelAt := mv k s.sup.levelAt, sleptAt := mv k s.sup.sleptAt, wakeAt := mv k s.sup.wakeAt
      budgetAt := mvo k s.sup.budgetAt } }

/-- Timers of the Spoke unit, the switch, the Ihlex engine, the serial ports, the arrays and the time base move with a step. -/
def State.shiftUnits (s : State) (k : Int) : State :=
  { s with
    spk := { s.spk with
      chans := s.spk.chans.map fun c => (c.1, { c.2 with at' := mv k c.2.at', tA := mv k c.2.tA, exitT := mv k c.2.exitT, nearT := mv k c.2.nearT, faultAt := mv k c.2.faultAt })
      outs := s.spk.outs.map fun o => (o.1, { o.2 with
        onSince := mv (4 * k) o.2.onSince, trips := o.2.trips.map (mv k), testing := mvo k o.2.testing, tested := mv k o.2.tested
        pulses := o.2.pulses.map fun p => match p with | .time u => .time (mv (4 * k) u) | p => p })
      gens := s.spk.gens.map fun g => (g.1, { g.2 with overAt := mvo k g.2.overAt }) }
    sw := { s.sw with
      ports := s.sw.ports.map fun p => (p.1, { p.2 with
        freeAt := mv k p.2.freeAt, dropAt := mvo k p.2.dropAt, queue := p.2.queue.map fun e => { e with at' := mv k e.at' } })
      fdb := s.sw.fdb.map fun e => { e with used := mv k e.used } }
    ihx := { s.ihx with
      peers := s.ihx.peers.map fun p => (p.1, p.2.shift k)
      fullAt := mvo k s.ihx.fullAt, badAt := mvo k s.ihx.badAt, idAt := mvo k s.ihx.idAt }
    cams := { s.cams with
      ctxs := s.cams.ctxs.map fun c => (c.1, { c.2 with fsAt := mv k c.2.fsAt })
      cxp := s.cams.cxp.map fun c => (c.1, { c.2 with queue := c.2.queue.map fun e => { e with time := mv k e.time } })
      decs := s.cams.decs.map fun d => (d.1, { d.2 with heard := mv k d.2.heard, window := d.2.window.map fun p => { p with time := mv k p.time } }) }
    ser := s.ser.map fun p => (p.1, { p.2 with collisionAt := mvo k p.2.collisionAt, rxEnd := mv k p.2.rxEnd, txEnd := mv k p.2.txEnd })
    engs := s.engs.map fun e => (e.1, { e.2 with arrs := e.2.arrs.map fun a => (a.1, { a.2 with lastMismatch := mvo k a.2.lastMismatch }) })
    tb := { s.tb with
      ppsLast := mvo k s.tb.ppsLast, ppsRejected := mvo k s.tb.ppsRejected, syncLast := mvo k s.tb.syncLast, holdStart := mvo k s.tb.holdStart } }

/-- Every time that counts down moves by the same amount as module time; launch entries and gate lists do not (R389, R397, R404). -/
def State.shiftTimes (s : State) (k : Int) : State :=
  let s := (s.shiftWork k).shiftUnits k
  if s.word64 Reg.TB_PPS_IN_LAST = 0 then s else s.setWord64 Reg.TB_PPS_IN_LAST (mv k (s.word64 Reg.TB_PPS_IN_LAST))

/-- The next whole second S of reference time (R386). -/
def State.refSecond (s : State) : Nat := (((s.now : Int) - s.offset) / 1000000000 + 1).toNat * 1000000000

/-- Module time steps by `k` to S (R386, R387, R389): TIME_STEP, TB_LAST_STEP, vector 66, the PPS output for S. -/
def State.stepTo (s : State) (sec : Nat) (k : Int) (counter : Fld) : State :=
  let s := (s.passUntil (mv (-k) sec)).shiftTimes k
  let s := { s with now := sec, tb := { s.tb with fwd := false, due := false, ppsHigh := none } }
  let s := ((s.setWord64 Reg.TB_LAST_STEP (ofSigned 64 k)).bump counter).raise Cause.TIME_STEP (ofSigned 64 k)
  ((s.tbTrack).msix 66).ppsRise sec

/-- The pending forward step is applied (R386). -/
def State.forwardStep (s : State) : State :=
  if !s.tb.fwd then s
  else
    let k := max 0 (-s.offset)
    (s.stepTo s.refSecond k Fld.TB_STEPS_FORWARD).launchStep

/-- The step back that TIME_STEP_BACKs wait for is applied, and they complete with it (R387). -/
def State.stepBack (s : State) : State :=
  if s.tb.back.isEmpty || !s.tb.due then s
  else
    let d := s.offset
    let w := s.tb.back
    let s := { s with tb := { s.tb with back := [], timeEpoch := (s.tb.timeEpoch + 1) % 256 } }
    let s := s.stepTo s.refSecond (-d) Fld.TB_STEPS_BACK
    w.foldl (fun s (qp, x) => s.complete qp x St.OK 0 d.toNat) s

/-- TIME_STEP_BACK (R387). -/
def State.timeStepBack (s : State) (qp : Nat) (d : List Byte) : State :=
  if !s.tb.due then s.complete qp d St.OK
  else if (rd d 8 8 : Int) < s.offset then s.refuse qp d 1
  else { s with tb := { s.tb with back := s.tb.back ++ [(qp, d)] } }

/-! ### ST10, sleep and wake (R377 to R379) -/

/-- ST10 has passed with its primary action (0), its alternate (1), or was skipped (2) (R379). -/
def State.st10 (s : State) (how : Nat) : State :=
  let role := s.fget Fld.TB_PTP_CFG_ROLE
  { s with tb := { s.tb with
    running := true, ptpOn := decide (how = 0), ppsOn := decide (how ≠ 2)
    portState := if how = 0 ∧ role ≠ 0 then 4 else 0 } }

/-- The time base before a start or after a sleep: UNSYNCED, without a reference (R377, R378). -/
def State.tbStop (s : State) : State :=
  { s with tb := { (({} : TimeBase)) with
    timeEpoch := s.tb.timeEpoch, ppsEdges := s.tb.ppsEdges, sent := s.tb.sent } }

end Sys2Proof.Machine
end

