-- ==== Sys2Proof/Machine/BlockRegs.lean ====
section
/-! DEFINITION. What the blocks add to a register write: conditions between fields that discard it, and what a written or committed word does at once (R120, R125, R134, R142,
R171, R181, R272, R308, R352, R370, R398, R429). -/
namespace Sys2Proof.Machine

/-! ### Conditions that discard a write -/

/-- Do `n` bytes of module DRAM from `off` lie wholly inside one HASHED or HALVED window of the layout in effect? (R308, R352) -/
def State.inWindow (s : State) (off n : Nat) : Bool :=
  (List.range 16).any fun w =>
    let e := Image.window s.mem.layout w
    (decide (Image.wMode e = 1) || decide (Image.wMode e = 2)) && decide (Image.wBase e * 2 ^ 26 ≤ off) &&
      decide (off + n ≤ (Image.wBase e + Image.wSize e) * 2 ^ 26)

/-- KiB of all pools, if the pool register of context `n` held `v`. -/
def State.poolSum (s : State) (at' v : Nat) : Nat :=
  ((List.range 24).map fun n =>
    let w := if Reg.TIN_Cn_POOL n = at' then v else s.word (Reg.TIN_Cn_POOL n)
    bits w 31 24 * bits w 16 0).sum

/-- A write to a pool register that R171 discards. -/
def State.badPool (s : State) (off v : Nat) : Bool :=
  let base := if off = Reg.TIN_POOL_BASE then v else s.word64 Reg.TIN_POOL_BASE
  let mib := if off = Reg.TIN_POOL_SIZE then bits v 15 0 else s.fget Fld.TIN_POOL_SIZE_MIB
  let cn := decide (Reg.TIN_Cn_POOL 0 ≤ off)
  ((List.range 24).any fun n => decide ((s.ctx n).state ≠ .free)) || decide (dramBytes < bits base 34 16 * 65536 + mib * 2 ^ 20) ||
    decide (mib * 1024 < s.poolSum off v) || (cn && bits v 16 0 = 0 && bits v 31 24 ≠ 0)

/-- Is the register one of R171's? -/
def poolReg (off : Nat) : Bool := off == Reg.TIN_POOL_BASE || off == Reg.TIN_POOL_SIZE || (List.range 24).any fun n => Reg.TIN_Cn_POOL n == off

/-- ENG_BUDGET below what the accepted Fixed-gear image declares for a level (R181). -/
def State.badBudget (s : State) (v : Nat) : Bool :=
  (Image.variantRecs s.fxg.image).any fun x =>
    let b := if Image.vLevel x = 0 then bits v 7 0 else if Image.vLevel x = 1 then bits v 15 8 else if Image.vLevel x = 2 then bits v 23 16 else bits v 31 24
    decide (b < Image.vMaxArrays x)

/-- Both cameras enabled while camera 0 has four links (R120). -/
def State.badCameras (s : State) (off v : Nat) : Bool :=
  let w := fun k => if Reg.CXP_CAMn_CFG k = off then v else s.word (Reg.CXP_CAMn_CFG k)
  decide (bits (w 0) 3 2 = 2) && decide (bits (w 0) 0 0 = 1) && decide (bits (w 1) 0 0 = 1)

/-- The size of a decoder context exceeds its codec's limit (R134); CODEC 1 is H.265. -/
def badRate (flow rate : Nat) : Bool :=
  decide ((if bits flow 30 30 = 1 then 34816 else 8704) < bits rate 31 24 * bits rate 23 16)

/-- TB_PTP_CFG outside its profile (R398). -/
def badPtp (v : Nat) : Bool :=
  let l := bits v 31 28
  if bits v 1 0 = 2 then decide (bits v 23 16 ≠ 0) || decide (bits v 3 2 = 1) else !(l = 0 || l = 1 || l = 15)

/-- Would a block discard register `off` going from `cur` to `v`, with its BAD_CONFIG? -/
def State.blockRejects (s : State) (off _cur v : Nat) : Bool :=
  if poolReg off then s.badPool off v
  else if off = Reg.ENG_BUDGET then s.badBudget v
  else if off = Reg.CXP_CAMn_CFG 0 ∨ off = Reg.CXP_CAMn_CFG 1 then s.badCameras off v
  else if off = Reg.FWH_SAVE_BASE then
    s.fget Fld.FWH_SAVE_FRAMES_FRAMES != 0 && !s.inWindow (bits v 34 16 * 65536) (s.fget Fld.FWH_SAVE_FRAMES_FRAMES * 0x300000)
  else if off = Reg.FWH_SAVE_FRAMES then bits v 6 0 ≠ 0 && !s.inWindow (s.word64 Reg.FWH_SAVE_BASE) (bits v 6 0 * 0x300000)
  else if off = Reg.TRU_WORK_BASE then
    s.fget Fld.TRU_WORK_SIZE_MIB != 0 && !s.inWindow (bits v 34 16 * 65536) (s.fget Fld.TRU_WORK_SIZE_MIB * 2 ^ 20)
  else if off = Reg.TRU_WORK_SIZE then bits v 10 0 ≠ 0 && !s.inWindow (s.word64 Reg.TRU_WORK_BASE) (bits v 10 0 * 2 ^ 20)
  else if off = Reg.TB_PTP_CFG then badPtp v
  else if off = Reg.IHX_LIVENESS then decide (bits v 31 16 ≤ 2 * bits v 15 0)
  else if 0x2A300 ≤ off ∧ off < 0x2A400 then bits v 31 31 = 1 && bits v 11 0 = 0
  else
    (List.range 10).any fun c =>
      (off == Reg.DEC_Cc_RATE c && badRate (s.word (Reg.DEC_Cc_FLOW c)) v) ||
        (off == Reg.DEC_Cc_FLOW c && badRate v (s.word (Reg.DEC_Cc_RATE c)))

/-! ### What a written word does -/

/-- A control mailbox transaction starts, unless one is running (R125). -/
def State.ctlStart (s : State) (write : Bool) (cam : Nat) : State :=
  if s.fget Fld.CXP_CTL_CMD_BUSY = 1 then s
  else
    let s := ((s.fset Fld.CXP_CTL_CMD_CAMERA cam).fset Fld.CXP_CTL_CMD_BUSY 1).fset Fld.CXP_CTL_CMD_OP 0
    { s with cams := { s.cams with mbox := some (write, cam) } }

/-- A write to CXP_CTL_CMD: discarded while BUSY is set, and with OP set it starts a transaction (R125). -/
def State.ctlWritten (s : State) (old new : Nat) : State :=
  if bits old 31 31 = 1 then s.setWord Reg.CXP_CTL_CMD old
  else if bits new 1 0 = 0 then s
  else s.ctlStart (bits new 1 0 == 2) (bits new 8 8)

/-- LLC_COUNT_CLEAR: the counters of the classes named return to 0 (R272). -/
def State.llcCleared (s : State) (mask : Nat) : State :=
  ((List.range 8).foldl (fun s k =>
    if bitOn mask k then (s.setWord64 (Reg.LLC_CLASSk_HITS k) 0).setWord64 (Reg.LLC_CLASSk_MISSES k) 0 else s) s).setWord Reg.LLC_COUNT_CLEAR 0

/-- The contexts of a source move to WAITING (R142). -/
def State.relink (s : State) (p : Ctx → Bool) : State :=
  (List.range 24).foldl (fun s n => if p (s.ctx n) then s.toWaiting n else s) s

/-- A link set-up field of a camera source has changed: discovery or classification starts anew, and its contexts move to WAITING (R120, R142). -/
def State.linkWritten (s : State) (off old new : Nat) : State :=
  let s := (List.range 2).foldl (fun s k =>
    if off = Reg.CXP_CAMn_CFG k ∧ (bits old 7 0 ≠ bits new 7 0) then
      let s := (List.range (2 ^ bits old 3 2)).foldl (fun s i => s.fset (cxpSpeedFld (cxpFirst k + i)) 0) s
      ((s.fset (Fld.CXP_CAMn_INFO_LINKS_UP k) 0).fset (Fld.CXP_CAMn_INFO_SPEED k) 0).relink fun c => c.path == 0 && c.port == k
    else if off = Reg.APY_PORTn_CFG k ∧ old ≠ new then
      ((s.fset (Fld.APY_PORTn_STATUS_LINK_UP k) 0).fset (Fld.APY_PORTn_STATUS_GEAR k) 0).relink fun c => c.path == 1 && c.port == k
    else s) s
  (List.range 10).foldl (fun s c =>
    if (off = Reg.DEC_Cc_MATCH c ∨ off = Reg.DEC_Cc_FLOW c ∨ off = Reg.DEC_Cc_SSRC c) ∧ old ≠ new then
      (s.setDec c { s.dec c with waitKey := true, silent := false }).relink fun x => x.path == 2 && x.port == c
    else s) s

/-- The counts per metre set by register (R370): in effect, and to be stored (R349). -/
def State.cpmWritten (s : State) (ch v : Nat) : State := { s.setCpm ch v with tru := { s.tru with dirty := true } }

/-- What a word of register `off` that was `old` and is `new` does at once. -/
def State.blockWritten (s : State) (off old new : Nat) : State :=
  if off = Reg.CXP_CTL_CMD then s.ctlWritten old new
  else if off = Reg.LLC_COUNT_CLEAR then s.llcCleared (bits new 7 0)
  else if off = Reg.ENG_BUDGET then
    if s.operational then { s with sup := { s.sup with budgetAt := some (if s.iterationRunning then s.now else s.boundaryAt s.now) } } else s
  else if off = Reg.TB_CONFIG then if s.tb.running then s.tbCheckSource else s
  else if off = Reg.TB_PPS_CFG then s.ppsCheck
  else
    match (List.range 4).find? fun c => Reg.SPK_ENCn_CPM c == off with
    | some c => s.cpmWritten c new
    | none =>
      match (List.range 4).find? fun c => Reg.SPK_ENCn_CFG c == off with
      | some c => if bits old 1 0 = bits new 1 0 then s else s.modeWritten c
      | none => s.linkWritten off old new

end Sys2Proof.Machine
end

