-- ==== Sys2Proof/Machine/ConfigOps.lean ====
section
/-! DEFINITION. Staging and committing a configuration: register lists, schedule images, correction blocks, the commit queue, drains and the effect of a commit (R98, R102 to
R108, R141, R142, R260, R278, R346). -/
namespace Sys2Proof.Machine

/-! ### Register lists (R103, R141) -/

/-- The mask of the bits of a register word whose fields take staged values: functional or ST (R103). -/
def stagedMask (h : RegHit) : Nat :=
  h.spec.fields.foldl (fun m f =>
    if f.access = .st ∨ (h.spec.functional = true ∧ f.access ≠ .ro ∧ f.access ≠ .w1c) then
      setBits m f.hi f.lo (2 ^ (f.hi + 1 - f.lo) - 1)
    else m) 0

/-- The staged mask of the word at `off`. -/
def stagedWordMask (off : Nat) : Nat :=
  match findReg off with
  | none => 0
  | some h => if h.high then stagedMask h / 2 ^ 32 else stagedMask h % 2 ^ 32

/-- One entry of a register list: offset and value. -/
def regEntry (b : List Byte) (i : Nat) : Nat × Nat := (bits (rd b (8 * i) 4) 19 0, rd b (8 * i + 4) 4)

/-- Does an entry make the list MALFORMED? (R103) -/
def badRegEntry (e : Nat × Nat) : Bool :=
  e.1 == Reg.SYS_CONTROL ||
  match findReg e.1 with
  | none => true
  | some h =>
    stagedMask h == 0 ||
    h.spec.fields.any fun f => (f.access == .st || (h.spec.functional && f.access != .ro && f.access != .w1c)) &&
      !f.allowed.isEmpty && !h.high && decide (f.hi < 32) &&
      !(f.allowed.any fun r => decide (r.1 ≤ bits e.2 f.hi f.lo) && decide (bits e.2 f.hi f.lo ≤ r.2))

/-- The set after the entries; a later entry for an offset replaces the earlier one (R103). -/
def stageEntries (t : Tbl Word) : List (Nat × Nat) → Tbl Word
  | [] => t
  | e :: r => stageEntries (t.keep (fun o => decide (o < e.1)) ++
      (e.1, BitVec.ofNat 32 e.2) :: t.keep (fun o => decide (e.1 < o))) r

/-- Is the register the source address of a pipeline table? (Table 5.9) -/
def tableReg (off : Nat) : Bool :=
  (decide (Reg.ISP_FFn_SRC 0 ≤ off ∧ off < Reg.ISP_FFn_SRC 2)) ||
    (List.range 32).any fun p => off == Reg.ISP_Pp_LSC_SRC p || off == Reg.ISP_Pp_TONE_SRC p

/-- Bytes of the table of a source register (Table 5.9). -/
def tableSize (off : Nat) : Nat :=
  if off < Reg.ISP_FFn_SRC 2 then 131072 else if (off - Reg.ISP_Pp_LSC_SRC 0) % 0x40 = 0 then 8712 else 2050

/-- The source registers that the entries of a set name, rising. -/
def sourcesOf (t : Tbl Word) : List Nat :=
  t.foldl (fun l e =>
    match findReg e.1 with
    | some h => if tableReg h.offset && !l.contains h.offset then l ++ [h.offset] else l
    | none => l) []

/-- A word of the set at `off`, or the word in effect. -/
def State.setWordOr (s : State) (t : Tbl Word) (off : Nat) : Nat := (t.get (fun o => BitVec.ofNat 32 (s.word o)) off).toNat

/-- The tables fetched into the shadow bank for the sources that a list names: address 0 selects the neutral table (R141). -/
def State.shadow (s : State) (t : Tbl Word) (old : Tbl (List Byte)) : List Nat → List (List Byte) → Tbl (List Byte)
  | [], _ => old
  | r :: rs, bs =>
    let addr := s.setWordOr t r + 2 ^ 32 * s.setWordOr t (r + 4)
    let b := if addr = 0 then [] else slice (bs.headD []) 0 (tableSize r)
    s.shadow t (old.keep (fun o => decide (o < r)) ++ (r, b) :: old.keep (fun o => decide (r < o))) rs (bs.drop 1)

/-- STAGE_CONFIG with KIND 0 (R102, R103); `tables` is what the fetches of R141 returned, one for each source register that the list names, in rising order. -/
def State.stageRegs (s : State) (n : Nat) (d list : List Byte) (tables : List (List Byte)) : State :=
  let k := rd d 8 1
  let es := (List.range (rd d 12 2)).map (regEntry list)
  if es.any badRegEntry then s.malformed n d 12
  else
    let t := stageEntries (s.set k).entries es
    if 512 < t.length then s.complete n d St.FULL
    else
      let now := sourcesOf (stageEntries [] es)
      let s := s.setSet k { s.set k with entries := t, tables := s.shadow t (s.set k).tables now tables }
      s.complete n d St.OK 0 (s.stageResult k)

/-! ### Schedule images (R104, R260, R278, R297) -/

/-- What the module knows when it checks an image (Tables 11.5, 12.3 and 13.3): `other` the masks of the other partition. -/
def State.imageEnv (s : State) (length : Nat) (persist : Bool) (other : List Nat) : Image.Env :=
  { stagedLength := length
    fwBuild := Config.fwBuild.toNat
    budgets := [s.fget Fld.ENG_BUDGET_PL0, s.fget Fld.ENG_BUDGET_PL1, s.fget Fld.ENG_BUDGET_PL2, s.fget Fld.ENG_BUDGET_PL3]
    layout := if s.mem.layout.isEmpty then none else some s.mem.layout
    persist, otherMasks := other
    unusable := ((List.range 256).filter fun k => decide ((s.arr (k / 16) (k % 16)).state = .unusable)).map fun k => (k / 16, k % 16)
    moduleId := s.moduleId
    area := (List.range 24).filter fun n => decide ((s.ctx n).state ≠ .free) && decide ((s.ctx n).path ≠ 0) }

/-- The Fixed-gear image accepted last, in effect or waiting for the running iteration. -/
def State.fixedAccepted (s : State) : List Byte := s.fxg.nextImage.getD s.fxg.image

/-- The check of an image at staging: partition 1 by Table 11.5, any other by Table 12.3. -/
def State.stagedCheck (s : State) (k : Nat) (b : List Byte) (length : Nat) (persist : Bool) : Option (Nat × Nat) :=
  let x := s.set k
  let masks := fun (l : List (List Byte)) => (l.filter fun i => !i.isEmpty).map Image.mask
  if Image.partition b = 1 then Image.checkFixed b (s.imageEnv length persist (masks (s.fwh.image :: x.freeImg.toList)))
  else Image.checkFree b (s.imageEnv length persist (masks (s.fixedAccepted :: x.fixedImg.toList)))

/-- The record of a failed image check: the row, in the causes that carry it (Table 18.5). -/
def State.raiseRow (s : State) (code row : Nat) : State :=
  s.raise code (if code = Cause.IMAGE_INVALID ∨ code = Cause.FW_IMAGE_INVALID ∨ code = Cause.TRUING_DIR_INVALID then row else 0)

/-- The preferred flash slot of a partition (Table 3.4), and its index among the four slots. -/
def State.slotPref (s : State) (fixed : Bool) : Nat := if bitOn s.jrn.header.slotPref (if fixed then 0 else 1) then 1 else 0
/-- Index in `flash` of slot `p` of a partition. -/
def slotIndex (fixed : Bool) (p : Nat) : Nat := (if fixed then 0 else 2) + p
/-- Make a slot preferred in the journal header. -/
def State.preferSlot (s : State) (fixed : Bool) (p : Nat) : State :=
  let b := if fixed then 0 else 1
  if s.slotPref fixed = p then s else { s with jrn := s.jrn.setHeader fun h => { h with slotPref := setBits h.slotPref b b p } }

/-- An array into which staging may program: BLANK or LOADED, and not programmed for another set (R104). -/
def State.arrayFree (s : State) (k e m : Nat) : Bool :=
  let a := s.arr e m
  (decide (a.state = .blank) || decide (a.state = .loaded)) &&
    !(List.range 4).any fun j => j != k && (s.set j).programmed.contains (e, m)

/-- Program placements of an image, on every engine in array order. -/
def State.programAll (s : State) (w : ProgFor) (img : List Byte) (ps : List (List Byte)) : State :=
  (List.range 16).foldl (fun s e =>
    let here := (List.range 16).flatMap fun m => ps.filter fun p => Image.pEngine p == e && Image.pArray p == m
    let items := here.map fun p => (⟨w, Image.pArray p, Image.weightAt img p⟩ : ProgItem)
    if items.isEmpty then s else s.addItems e items false) s

/-- STAGE_CONFIG with KIND 1 (R104): the image is checked and staged, written to flash with PERSIST, and its weights are programmed now if all arrays it lacks are free and the
level is PL0 or PL1. -/
def State.stageImage (s : State) (n : Nat) (d b : List Byte) : State :=
  let k := rd d 8 1
  let x := s.set k
  let persist := bitOn (rd d 10 1) 0
  let fixed := decide (Image.partition b = 1)
  if (if fixed then x.fixedImg else x.freeImg).isSome then s.complete n d St.FULL
  else match s.stagedCheck k b (rd d 24 4) persist with
  | some (code, row) => (s.complete n d St.REFUSED code (2 ^ 32)).raiseRow code row
  | none =>
    let s := s.setSet k (if fixed then { x with fixedImg := some b, persistFixed := persist } else { x with freeImg := some b, persistFree := persist })
    let s := if persist then { s with flash := s.flash.put (fun _ => []) (slotIndex fixed (1 - s.slotPref fixed)) b } else s
    let ps := s.lacking b
    if ps.isEmpty || decide (1 < s.sup.level) || !ps.all (fun p => s.arrayFree k (Image.pEngine p) (Image.pArray p)) then s.complete n d St.OK 0 (s.stageResult k)
    else ({ s with progs := s.progs ++ [(⟨n, d, 0, 0⟩ : ProgAcc)] }).programAll (.staging k n d) b ps

/-! ### Correction blocks (R346, R347) -/

/-- STAGE_CONFIG with KIND 2. -/
def State.stageBlock (s : State) (n : Nat) (d b : List Byte) : State :=
  let k := rd d 8 1
  match readBlock b (rd d 24 4) with
  | none => s.refuse n d 2
  | some l =>
    let l := addSections (s.set k).sections (l.map s.noteSection)
    if 1024 < l.length then s.complete n d St.FULL
    else
      let s := s.setSet k { s.set k with sections := l }
      s.complete n d St.OK 0 (s.stageResult k)

/-- STAGE_CONFIG (R102, Table 4.10): `data` is what the host memory at ADDR holds. -/
def State.stage (s : State) (n : Nat) (d data : List Byte) (tables : List (List Byte)) : State :=
  let k := rd d 8 1
  let kind := rd d 9 1
  if 3 < k then s.malformed n d 8
  else if 2 < kind then s.malformed n d 9
  else if kind = 0 ∧ (rd d 12 2 = 0 ∨ 512 < rd d 12 2) then s.malformed n d 12
  else if !hostAddr (rd d 16 8) then s.malformed n d 16
  else if (s.set k).outstanding then s.complete n d St.SET_BUSY
  else s.reads n d true fun s =>
    if kind = 0 then s.stageRegs n d data tables
    else if kind = 1 then s.stageImage n d data
    else s.stageBlock n d data

/-! ### The effect of a commit (R105, R106, R142) -/

/-- A set with nothing in it (R105). -/
def StageSet.isEmpty (x : StageSet) : Bool := x.entries.isEmpty && x.fixedImg.isNone && x.freeImg.isNone && x.sections.isEmpty

/-- The value of a whole register. -/
def State.regNow (s : State) (h : RegHit) : Nat := if h.spec.wide then s.word64 h.offset else s.word h.offset

/-- The register as a set stages it: fields that take staged values from the set, the others as they are (R103). -/
def State.regStaged (s : State) (t : Tbl Word) (h : RegHit) : Nat :=
  let w := fun off =>
    let m := stagedWordMask off
    let cur := s.word off
    (cur - (cur &&& m)) + (s.setWordOr t off &&& m)
  if h.spec.wide then w h.offset + 2 ^ 32 * w (h.offset + 4) else w h.offset

/-- One register of a set takes effect; a value that its block's rules discard raises BAD_CONFIG. -/
def State.commitReg (s : State) (t : Tbl Word) (off : Nat) : State :=
  match findReg off with
  | none => s
  | some h =>
    if h.high && (t.get (fun _ => 0) h.offset ≠ 0 || t.any fun e => e.1 == h.offset) then s
    else
      let cur := s.regNow h
      let v := s.regStaged t h
      if s.blockRejects h.offset cur v then s.badConfig off
      else
        let s := if h.spec.wide then s.setWord64 h.offset v else (s.setWord h.offset v).keepFront h.offset cur
        s.blockWritten h.offset cur v

/-- A Freewheel image is accepted (R297, R325). -/
def State.acceptFree (s : State) (img : List Byte) : State :=
  let s := { s with fwh := { s.fwh with image := img, skipped := false } }
  s.renumber fun _ => true

/-- Do the entries of a set touch the generators or a CPM? (R371) -/
def touchesGens (x : StageSet) : Bool :=
  (x.entries.any fun e => decide (0x28200 ≤ e.1 ∧ e.1 < 0x28300) || (List.range 4).any fun c => Reg.SPK_ENCn_CPM c / 8 == e.1 / 8) ||
    x.sections.any fun y => y.type == 3

/-- What ST words written before operation hold in the shadow takes effect at a commit boundary (Table 0.2). -/
def State.shadowEffect (s : State) : State :=
  let t := s.stWords
  (t.map (·.1)).foldl (fun s off => s.commitReg t off) { s with stWords := [] }

/-- The whole set takes effect (R105 step 5). -/
def State.setEffect (s : State) (k : Nat) : State :=
  let x := s.set k
  let s := s.shadowEffect
  let s := (x.entries.map (·.1)).foldl (fun s off => s.commitReg x.entries off) s
  let s := { s with cams := { s.cams with tables := x.tables.foldl (fun t (e : Nat × List Byte) => t.put (fun _ => []) e.1 e.2) s.cams.tables } }
  let s := match x.fixedImg with
    | some b => (if x.persistFixed then s.preferSlot true (1 - s.slotPref true) else s).acceptFixed b
    | none => s
  let s := match x.freeImg with
    | some b => (if x.persistFree then s.preferSlot false (1 - s.slotPref false) else s).acceptFree b
    | none => s
  let s := s.sectionsEffect x.sections
  let s := if touchesGens x then s.genCommits else s
  let s := (s.gatesCommitted 0).gatesCommitted 1
  let s := { s with hif := { s.hif with epoch := (s.hif.epoch + 1) % 65536 } }
  (s.setSet k {}).rebind

/-! ### The commit queue (R98, R105, R108) -/

/-- NEW_EPOCH, OLD_EPOCH and ARRAYS_PENDING where nothing changes (Table 4.11). -/
def State.commitResult (s : State) (k : Nat) : Nat := s.hif.epoch + 2 ^ 16 * s.hif.epoch + 2 ^ 48 * (s.setPending k % 2 ^ 16)

/-- A commit ends: its set is free for staging, a drain ends, and what its drain has not begun to program stays as it is. -/
def State.commitEnd (s : State) (c : Commit) (status : Nat) (fault result : Nat) : State :=
  let s := { s with
    hif := { s.hif with commits := s.hif.commits.filter fun x => !(x.set == c.set) }
    fwh := if c.phase = 0 then s.fwh else { s.fwh with held := [] } }
  let s := (List.range 16).foldl (fun s e =>
    let x := s.eng e
    s.setEng e { x with prog := x.prog.take 1 ++ (x.prog.drop 1).filter fun i => i.what != .drain c.set }) s
  (s.setSet c.set { s.set c.set with outstanding := false }).complete c.qp c.d status fault result

/-- CHECK_EPOCH with an EXPECT_EPOCH that is not the epoch in force (R105 step 2). -/
def State.staleEpoch (s : State) (c : Commit) : Bool := bitOn (rd c.d 11 1) 1 && rd c.d 12 2 != s.hif.epoch

/-- The commit takes effect at its boundary: CHECK_EPOCH is compared now (R105 steps 2 and 5). -/
def State.commitEffect (s : State) (c : Commit) : State :=
  let old := s.hif.epoch
  if s.staleEpoch c then s.commitEnd c St.STALE_EPOCH 0 (s.commitResult c.set)
  else
    let pending := s.setPending c.set
    let s := s.setEffect c.set
    s.commitEnd c St.OK (if c.verifyFailed then Cause.PROGRAM_VERIFY_FAILED else 0) (s.hif.epoch + 2 ^ 16 * old + 2 ^ 48 * (pending % 2 ^ 16))

/-- Is any Freewheel task ACTIVE: begun and not ended? (R303) -/
def State.tasksActive (s : State) : Bool := s.fwh.runs.any fun r => r.tasks.any fun t => t != .idle && t != .ended

/-- A Freewheel task boundary has come within this command, or no task is ACTIVE (R303). -/
def State.taskBoundary (s : State) : Bool := s.fwh.taskEnded || !s.tasksActive

/-- The jobs whose model uses an array that a set must reprogram (R105). -/
def State.affectedJobs (s : State) (k : Nat) : List Nat :=
  let ps := (((s.set k).freeImg.map s.lacking).getD []).map fun p => 16 * Image.pEngine p + Image.pArray p
  ((Image.jobs s.fwh.image).map Image.jJob).filter fun j => ps.any fun a => Config.jobUsesArray s.fwh.image j a

/-- A drain begins at a task boundary: the affected jobs are admitted no more (R105 step 4). -/
def State.drainStart (s : State) (c : Commit) : State :=
  ({ s with fwh := { s.fwh with held := s.affectedJobs c.set } }).markCommit c.set fun c => { c with phase := 1 }

/-- Its tasks in flight have ended: the arrays are reprogrammed in place (R105 step 4); at PL2 and above they are left untouched. -/
def State.drainProgram (s : State) (c : Commit) : State :=
  match (s.set c.set).freeImg with
  | none => s
  | some b =>
    if 1 < s.sup.level then s.commitEnd c St.REFUSED 0 (s.commitResult c.set + 2 * 2 ^ 32)
    else (s.markCommit c.set fun c => { c with phase := 2 }).programAll (.drain c.set) b (s.lacking b)

/-- The commits whose time limit has passed end TIMEOUT (R108). -/
def State.expireCommits (s : State) : State :=
  (s.hif.commits.filter fun c => c.notAfter != 0 && decide (c.notAfter < s.now)).foldl (fun s c => s.commitEnd c St.TIMEOUT 0 (s.commitResult c.set)) s

/-- The front commit goes on, and those behind it when it has ended; `fuel` covers the queue. -/
def State.commitStep (s : State) : Nat → State
  | 0 => s
  | fuel + 1 =>
    match s.hif.commits with
    | [] => s
    | c :: _ =>
      if (s.set c.set).isEmpty then (s.commitEnd c (if s.staleEpoch c then St.STALE_EPOCH else St.OK) 0 (s.commitResult c.set)).commitStep fuel
      else if c.phase = 0 ∧ s.setPending c.set ≠ 0 then
        if !c.drain then (s.commitEnd c St.NEEDS_DRAIN 0 (s.commitResult c.set)).commitStep fuel
        else if ((s.set c.set).fixedImg.map s.lacking).getD [] ≠ [] then
          (s.commitEnd c St.REFUSED 0 (s.commitResult c.set + 2 ^ 32)).commitStep fuel
        else if s.taskBoundary then (s.drainStart c).commitStep fuel
        else s
      else if c.phase = 1 then
        if s.fwh.runs.any fun r => decide (r.state = .active) && s.fwh.held.contains r.job then s else (s.drainProgram c).commitStep fuel
      else if c.phase = 2 then s
      else if c.boundary = 2 ∧ s.taskBoundary then
        let s := s.commitEffect c
        ({ s with fwh := { s.fwh with taskEnded := false } }).commitStep fuel
      else s

/-- Every commit that can go on does. -/
def State.commitsAct (s : State) : State :=
  let s := s.expireCommits
  let s := s.commitStep (4 * s.hif.commits.length + 4)
  { s with fwh := { s.fwh with taskEnded := false } }

/-- Is the commit ready for its boundary event? -/
def State.commitReady (s : State) (c : Commit) : Bool := c.phase = 3 || (c.phase = 0 && s.setPending c.set = 0)

/-- A boundary of a kind comes: the front commit takes effect if it waits for it (R105, R142, R286). -/
def State.commitAt (s : State) (kind stream : Nat) : State :=
  let s := s.expireCommits
  match s.hif.commits with
  | [] => s
  | c :: _ => if c.boundary = kind ∧ (kind ≠ 0 ∨ c.stream = stream) ∧ s.commitReady c = true then s.commitEffect c else s

/-- COMMIT_CONFIG (R105, Table 4.11). -/
def State.commit (s : State) (n : Nat) (d : List Byte) : State :=
  let k := rd d 8 1
  let b := rd d 9 1
  let x := s.set k
  if 3 < k then s.malformed n d 8
  else if 2 < b then s.malformed n d 9
  else if b = 0 ∧ 23 < rd d 10 1 then s.malformed n d 10
  else if x.outstanding then s.complete n d St.SET_BUSY
  else if bitOn (rd d 11 1) 0 then
    let s := s.setSet k {}
    s.complete n d St.OK 0 (s.commitResult k)
  else if x.fixedImg.any fun f => !s.mem.layout.isEmpty && Image.layout f != s.mem.layout then
    let s := if x.persistFixed then s.preferSlot true (1 - s.slotPref true) else s
    s.complete n d St.REFUSED 0 (s.commitResult k + 3 * 2 ^ 32)
  else if s.setPending k ≠ 0 ∧ bitOn (rd d 11 1) 2 = false then s.complete n d St.NEEDS_DRAIN 0 (s.commitResult k)
  else if ((x.fixedImg.map s.lacking).getD []) ≠ [] then s.complete n d St.REFUSED 0 (s.commitResult k + 2 ^ 32)
  else if b = 0 ∧ (s.ctx (rd d 10 1)).state = .free then s.complete n d St.ABORTED 0 (s.commitResult k)
  else
    let c : Commit := { qp := n, d, set := k, boundary := b, stream := rd d 10 1, notAfter := rd d 16 8, drain := bitOn (rd d 11 1) 2 }
    ({ s with hif := { s.hif with commits := s.hif.commits ++ [c] } }).setSet k { x with outstanding := true }

/-- NOT_AFTER of a waiting commit passes (R108). -/
def State.commitTimeout (s : State) : State :=
  let cs := s.hif.commits.filter fun c => c.notAfter != 0
  match cs.find? fun c => cs.all fun x => decide (c.notAfter ≤ x.notAfter) with
  | none => s
  | some c =>
    let s := s.passUntil (c.notAfter + 1)
    s.commitEnd c St.TIMEOUT 0 (s.commitResult c.set)

/-- A stream context is closed: the commits that name it complete ABORTED (R108). -/
def State.abortCommits (s : State) (n : Nat) : State :=
  (s.hif.commits.filter fun c => c.boundary == 0 && c.stream == n).foldl (fun s c => s.commitEnd c St.ABORTED 0 (s.commitResult c.set)) s

/-- PL1 or above stops the Freewheel work on which commits depend: those for a task boundary, and a drain that waits for runs (R108). -/
def State.refuseCommits (s : State) : State :=
  (s.hif.commits.filter fun c => (c.boundary == 2 && s.tasksActive) || c.phase == 1).foldl
    (fun s c => s.commitEnd c St.REFUSED 0 (s.commitResult c.set + 2 * 2 ^ 32)) s

/-- Every waiting commit ends POWER_STOP before a sleep or Off, or is forgotten with its set at a start (R54, R107). -/
def State.stopCommits (s : State) (status fault : Nat) : State :=
  s.hif.commits.foldl (fun s c => s.commitEnd c status fault 0) s

/-- The reprogramming of a drain has ended (R105 step 4, R104, R108): the commit goes on to its boundary, unless a power level left arrays untouched. -/
def State.drainDone (s : State) : State :=
  match s.hif.commits with
  | [] => s
  | c :: _ =>
    if c.phase ≠ 2 ∨ s.workLeft (.drain c.set) = true then s
    else if c.untouched then s.commitEnd c St.REFUSED 0 (s.commitResult c.set + 2 * 2 ^ 32)
    else s.markCommit c.set fun c => { c with phase := 3 }

end Sys2Proof.Machine
end

