-- ==== Sys2Proof/Machine/Boundary.lean ====
section
/-! DEFINITION. The boundary events of commits: a frame or tile of a stream context, and a Fixed-gear iteration (R142 to R144, R151, R286, R348). -/
namespace Sys2Proof.Machine

/-- A boundary of stream context n comes: the commit that waits for it, the source's set-up values, the intake program that waits, the crop shift and the geometry (R142, R144, R151, R155, R348). -/
def State.streamBoundary (s : State) (n : Nat) : State :=
  let s := s.commitAt 0 n
  ((s.setCtx n { s.ctx n with front := [] }).programEffect n).recheck n

/-- The boundary that COMMIT_EFFECT asserts for the front commit: a frame of its context, or a frame boundary while no iteration runs (R142, R286). -/
def State.commitBoundary (s : State) : State :=
  match s.hif.commits with
  | [] => s
  | c :: _ =>
    if c.boundary = 0 then
      if (s.ctx c.stream).state = .free ∨ (s.ctx c.stream).state = .suspended then s else s.streamBoundary c.stream
    else if c.boundary = 1 then
      if s.iterationRunning || decide (3 < s.sup.level) then s else (s.passUntil (s.boundaryAt s.now)).commitAt 1 0
    else s

end Sys2Proof.Machine
end

