-- ==== Sys2Proof/Machine/Rtp.lean ====
section
/-! DEFINITION. The depacketiser of a decoder context: RTP packets, their order, access units and NAL units (R131 to R135). -/
namespace Sys2Proof.Machine

/-! ### Packets and NAL units (Table 5.6) -/

/-- Bytes of an RTP header with its CSRC list and its extension, which are skipped. -/
def rtpHeadLen (b : List Byte) : Nat :=
  let n := 12 + 4 * (rdBe b 0 1 % 16)
  if bitOn (rdBe b 0 1) 4 then n + 4 + 4 * rdBe b (n + 2) 2 else n

/-- The packet of a UDP payload, without padding. -/
def rtpPacket (b : List Byte) (now : Nat) : RtpPacket :=
  let pad := if bitOn (rdBe b 0 1) 5 then rdBe b (b.length - 1) 1 else 0
  { seq := rdBe b 2 2, stamp := rdBe b 4 4, marker := bitOn (rdBe b 1 1) 7, payload := (b.take (b.length - pad)).drop (rtpHeadLen b), time := now }

/-- What the packets of an access unit hold: NAL units, a packet type that is not supported, or damaged packets. -/
inductive NalResult where
  | nals (l : List (List Byte))
  | unsupported
  | damaged
  deriving DecidableEq, Repr

/-- The NAL units of an aggregation packet, each behind its 16-bit size; `fuel` bounds their number. -/
def aggregated : Nat → List Byte → Option (List (List Byte))
  | _, [] => some []
  | 0, _ => none
  | fuel + 1, b =>
    let n := rdBe b 0 2
    if n = 0 ∨ b.length < n + 2 then none else (aggregated fuel (b.drop (n + 2))).map fun l => (b.drop 2).take n :: l

/-- What a payload is: whole NAL units, a fragment (first?, last?, rebuilt NAL header, bytes), an unsupported packet type, or damaged. CODEC 1 is H.265: single NAL units, AP and FU;
CODEC 0 is H.264: single NAL units, STAP-A and FU-A. -/
inductive RtpPayload where
  | whole (l : List (List Byte))
  | fragment (first last : Bool) (head body : List Byte)
  | unsupported
  | damaged
  deriving DecidableEq, Repr

/-- The NAL unit type of a header byte. -/
def nalType (h265 : Bool) (b : Nat) : Nat := if h265 then b / 2 % 64 else b % 32

/-- Reads a payload (RFC 6184 and RFC 7798, as far as Table 5.6 supports them). -/
def rtpPayload (h265 : Bool) (p : List Byte) : RtpPayload :=
  let b := rdBe p 0 1
  let type := nalType h265 b
  let agg := fun (o : Option (List (List Byte))) => match o with
    | some l => RtpPayload.whole l
    | none => .damaged
  if h265 then
    if p.length < 2 then .damaged
    else if type < 48 then .whole [p]
    else if type = 48 then agg (aggregated p.length (p.drop 2))
    else if type = 49 then
      let f := rdBe p 2 1
      .fragment (bitOn f 7) (bitOn f 6) [BitVec.ofNat 8 ((b &&& 0x81) + 2 * (f % 64)), p.getD 1 0] (p.drop 3)
    else .unsupported
  else
    if p.isEmpty then .damaged
    else if 1 ≤ type ∧ type ≤ 23 then .whole [p]
    else if type = 24 then agg (aggregated p.length (p.drop 1))
    else if type = 28 then
      let f := rdBe p 1 1
      .fragment (bitOn f 7) (bitOn f 6) [BitVec.ofNat 8 ((b &&& 0xE0) + f % 32)] (p.drop 2)
    else .unsupported

/-- The NAL units of payloads in order; `frag` is the fragmented NAL unit begun, `acc` the NAL units so far, newest first. -/
def nalsOf (h265 : Bool) : List (List Byte) → Option (List Byte) → List (List Byte) → NalResult
  | [], none, acc => .nals acc.reverse
  | [], some _, _ => .damaged
  | p :: ps, frag, acc =>
    match rtpPayload h265 p, frag with
    | .unsupported, _ => .unsupported
    | .whole l, none => nalsOf h265 ps none (l.reverse ++ acc)
    | .fragment true last head body, none =>
      if last then nalsOf h265 ps none ((head ++ body) :: acc) else nalsOf h265 ps (some (head ++ body)) acc
    | .fragment false last _ body, some f =>
      if last then nalsOf h265 ps none ((f ++ body) :: acc) else nalsOf h265 ps (some (f ++ body)) acc
    | _, _ => .damaged

/-- Is a NAL unit part of an IDR (H.264) or IRAP (H.265) picture? -/
def keyNal (h265 : Bool) (b : List Byte) : Bool :=
  let t := nalType h265 (rdBe b 0 1)
  if h265 then decide (16 ≤ t ∧ t ≤ 23) else t == 5

/-- A NAL unit without its emulation prevention bytes; `zeros` counts the zero bytes before. -/
def unescape : Nat → List Byte → List Byte
  | _, [] => []
  | z, b :: t => if 2 ≤ z ∧ b = 3 then unescape 0 t else b :: unescape (if b = 0 then z + 1 else 0) t

/-- Does a NAL unit declare a supported profile, tier and level, if it is a sequence parameter set? H.264: Constrained Baseline, Main or High, up to level 4.2; H.265: Main profile, Main
tier, up to level 5.1. -/
def spsOk (h265 : Bool) (nal : List Byte) : Bool :=
  let b := unescape 0 nal
  if h265 then
    nalType true (rdBe b 0 1) != 33 ||
      (rdBe b 3 1 / 32 % 2 == 0 && (rdBe b 3 1 % 32 == 1 || bitOn (rdBe b 4 4) 30) && decide (rdBe b 14 1 ≤ 153))
  else
    nalType false (rdBe b 0 1) != 7 ||
      (((rdBe b 1 1 == 66 && bitOn (rdBe b 2 1) 6) || rdBe b 1 1 == 77 || rdBe b 1 1 == 100) && decide (rdBe b 3 1 ≤ 42))

/-! ### The order of packets, and access units (R133, R135) -/

/-- CODEC of a decoder context: H.265. -/
def State.h265 (s : State) (c : Nat) : Bool := s.fget (Fld.DEC_Cc_FLOW_CODEC c) == 1

/-- The decoder drops pictures up to the next IDR or IRAP picture (R132, R135). -/
def State.decResync (s : State) (c code : Nat) : State :=
  (s.setDec c { s.dec c with waitKey := true }).raise code

/-- The access unit in progress has ended: one without a missing part waits to be decoded, unless the decoder still waits for an IDR or IRAP picture. -/
def State.unitEnds (s : State) (c : Nat) : State :=
  let d := s.dec c
  match d.part.getLast? with
  | none => s
  | some l =>
    let s := s.setDec c { d with part := [], broken := false }
    if d.broken then s
    else
      match nalsOf (s.h265 c) (d.part.map (·.payload)) none [] with
      | .unsupported => s.decResync c Cause.UNSUPPORTED_STREAM
      | .damaged => s.decResync c Cause.BITSTREAM_ERROR
      | .nals l' =>
        let key := l'.any (keyNal (s.h265 c))
        if d.waitKey && !key then s
        else s.setDec c { s.dec c with waitKey := false, units := d.units ++ [⟨l.stamp, l.time, key, l'⟩] }

/-- Is RTP timestamp b later than a? -/
def rtpLater (a b : Nat) : Bool :=
  let k := (b + 2 ^ 32 - a) % 2 ^ 32
  decide (0 < k ∧ k < 2 ^ 31)

/-- The next packet in order: a later timestamp ends the access unit before it, the marker bit ends its own (R133). -/
def State.rtpTake (s : State) (c : Nat) (p : RtpPacket) : State :=
  let s := if (s.dec c).part.getLast?.any fun l => rtpLater l.stamp p.stamp then s.unitEnds c else s
  let d := s.dec c
  let s := s.setDec c { d with next := some ((p.seq + 1) % 65536), part := d.part ++ [p], window := d.window.filter fun x => x.seq != p.seq }
  if p.marker then s.unitEnds c else s

/-- Packets that are next in order leave the window; `fuel` covers it. -/
def State.rtpRelease (s : State) (c : Nat) : Nat → State
  | 0 => s
  | fuel + 1 =>
    match (s.dec c).window.find? fun x => some x.seq == (s.dec c).next with
    | some p => (s.rtpTake c p).rtpRelease c fuel
    | none => s

/-- How far a sequence number lies ahead of the next one. -/
def Decoder.ahead (d : Decoder) (seq : Nat) : Nat := (seq + 65536 - d.next.getD seq) % 65536

/-- The gap before the first held packet stands (R135): DECODE_GAP; the access unit in progress and the one that goes on behind the gap are incomplete. -/
def State.gapStands (s : State) (c : Nat) : State :=
  let d := s.dec c
  match d.window.find? fun p => d.window.all fun q => decide (d.ahead p.seq ≤ d.ahead q.seq) with
  | none => s
  | some p =>
    let s := (s.setDec c { d with next := some p.seq, part := [], broken := true }).bump (Fld.DEC_Cc_STATUS_GAPS c)
    (s.decResync c Cause.DECODE_GAP).rtpRelease c 64

/-- When the hold of the packet held longest ends. -/
def Decoder.holdEnds (d : Decoder) : Option Nat := (d.window.map (·.time)).min?.map (· + 10000000)

/-- Gaps whose hold has expired by now stand. -/
def State.gapsDue (s : State) (c : Nat) : Nat → State
  | 0 => s
  | fuel + 1 => if (s.dec c).holdEnds.any fun t => decide (t ≤ s.now) then (s.gapStands c).gapsDue c fuel else s

/-- Gaps stand until a sequence number lies within 64 of the next one (DEDUCED, log entry 167). -/
def State.makeRoom (s : State) (c seq : Nat) : Nat → State
  | 0 => s
  | fuel + 1 =>
    if !((s.dec c).window.any fun x => x.seq == seq) || decide ((s.dec c).ahead seq < 64) then s
    else (s.gapStands c).makeRoom c seq fuel

/-- A packet classified to decoder context c (R133, R135): in order it is taken, up to 64 numbers ahead it is held, behind it is discarded. -/
def State.rtpIn (s : State) (c : Nat) (b : List Byte) : State :=
  let p := rtpPacket b s.now
  let s := s.gapsDue c 64
  let k := (s.dec c).ahead p.seq
  if k = 0 then (s.rtpTake c p).rtpRelease c 64
  else if 32768 ≤ k then s
  else if (s.dec c).window.any fun x => x.seq == p.seq then s
  else if k < 64 then s.setDec c { s.dec c with window := (s.dec c).window ++ [p] }
  else
    let s := s.setDec c { s.dec c with window := (s.dec c).window ++ [p] }
    (s.makeRoom c p.seq 65).rtpRelease c 64

end Sys2Proof.Machine
end

