-- ==== Sys2Proof/Machine/Cameras.lean ====
section
/-! DEFINITION. The camera front ends: mailbox, CoaXPress lines and triggers, CSI-2 frames, sensor writes, decoded pictures (chapter 5). -/
namespace Sys2Proof.Machine

/-! ### The control mailbox (R125) -/

/-- The transaction ends with a RESULT, and a value if it was a read that succeeded. -/
def State.ctlEnd (s : State) (result data : Nat) : State :=
  match s.cams.mbox with
  | none => s
  | some (write, _) =>
    let s := (s.fset Fld.CXP_CTL_CMD_RESULT result).fset Fld.CXP_CTL_CMD_BUSY 0
    let s := { s with cams := { s.cams with mbox := none } }
    if !write && result = 0 then s.setWord Reg.CXP_CTL_DATA data else s

/-! ### CoaXPress lines (R121 to R124, R161 to R163) -/

/-- Connections that a camera is set for. -/
def State.cxpLinks (s : State) (k : Nat) : Nat := 2 ^ s.fget (Fld.CXP_CAMn_CFG_LINKS k)

/-- Is a camera usable? Camera 1 is not while camera 0 is set for 4 links, enabled or not (R115, R120). -/
def State.cxpEnabled (s : State) (k : Nat) : Bool :=
  s.fget (Fld.CXP_CAMn_CFG_ENABLE k) == 1 && !(k == 1 && s.cxpLinks 0 == 4)

/-- All of a camera's links are up. -/
def State.cxpUp (s : State) (k : Nat) : Bool :=
  s.cxpEnabled k && decide (s.cxpLinks k ≤ s.fget (Fld.CXP_CAMn_INFO_LINKS_UP k))

/-- The pixel kind of a CoaXPress format code (Table 5.13): Mono8, Mono10, Mono12, Bayer GR, RG, GB, BG. -/
def cxpKind (code : Nat) : Option PixKind :=
  match code with
  | 1 => some (.raw 8 none)
  | 2 => some (.raw 10 none)
  | 3 => some (.raw 12 none)
  | 4 => some (.raw 8 (some 1))
  | 5 => some (.raw 8 (some 0))
  | 6 => some (.raw 8 (some 2))
  | 7 => some (.raw 8 (some 3))
  | _ => none

/-- Is the line format one that the module supports? (Table 5.4) -/
def cxpFormatOk (code width : Nat) : Bool := (cxpKind code).isSome && decide (64 ≤ width ∧ width ≤ 32768 ∧ width % 8 = 0)

/-- A tile in progress has ended: the boundary of a line-scan context. Where values changed since the ended tile began, tiling restarts (R142, R143). -/
def State.tileBoundary (s : State) (n epoch : Nat) (reversal : Bool := false) : State :=
  let s := s.streamBoundary n
  let s := if epoch = s.hif.epoch then s else s.restartTiling n reversal
  if reversal then s.setCtx n { s.ctx n with tiling := { (s.ctx n).tiling with reversal } } else s

/-- The epoch of the tile in progress. -/
def State.tileEpoch (s : State) (n : Nat) : Nat := ((s.ctx n).tiling.tiles.head?.map (·.epoch)).getD s.hif.epoch

/-- A slot is filled, or counted missing; a tile's end is a boundary. -/
def State.lineSlot (s : State) (n : Nat) (row : Option (List Nat)) (pos : Int) (count : Nat) (coarse arrival : Bool) : State :=
  let e := s.tileEpoch n
  let (s, ended) := s.fillSlot n row pos count coarse arrival
  if ended then s.tileBoundary n e else s

/-- A missing line occupies its slot, inside the position window (R122, R161). -/
def State.missingLine (s : State) (n : Nat) : State :=
  let c := s.ctx n
  if c.state = .running ∧ c.tiling.outside = false ∧ c.prog.isSome then s.lineSlot n none 0 0 false false else s

/-- Does a position lie in the program's window? (R162) -/
def Program.inWindow (p : Program) (pos : Int) : Bool :=
  decide (p.startPos ≤ pos) && (decide (p.endPos = 0) || decide (pos ≤ p.endPos))

/-- Does a line at `pos` move against the direction of the tile in progress? (R163) -/
def Tiling.reverses (t : Tiling) (pos : Int) : Bool :=
  match t.tiles.head?.bind (·.falling), t.lastPos with
  | some f, some p => if f then decide (p < pos) else decide (pos < p)
  | _, _ => false

/-- A line outside the position window: it is discarded, and the first one ends the tile in progress (R162). -/
def State.outsideLine (s : State) (n : Nat) : State :=
  let t := (s.ctx n).tiling
  let s := s.discarded n
  if t.outside then s
  else
    let e := s.tileEpoch n
    let had := !t.tiles.isEmpty
    let s := s.truncate n (fun x => { x with truncated := true, windowEnd := true }) false
    let s := s.setCtx n { s.ctx n with tiling := { (s.ctx n).tiling with outside := true } }
    if had then s.tileBoundary n e else s

/-- A line that begins a tile after a reversal, under the program that the boundary may have brought: its window is tested anew (R151, R162). -/
def State.turnLine (s : State) (n : Nat) (row : List Nat) (pos : Int) (count : Nat) (coarse arrival : Bool) : State :=
  let c := s.ctx n
  if c.state ≠ .running then s
  else
    match c.prog with
    | none => s.discarded n
    | some p => if p.inWindow pos then s.lineSlot n (some row) pos count coarse arrival else s.outsideLine n

/-- A line is taken (R122, R162, R163). -/
def State.takeLine (s : State) (n : Nat) (row : List Nat) (pos : Int) (count : Nat) (coarse arrival : Bool) : State :=
  match (s.ctx n).prog with
  | none => s.discarded n
  | some p =>
    let t := (s.ctx n).tiling
    if !p.inWindow pos then s.outsideLine n
    else
      let s := if t.outside then
          (s.setCtx n { s.ctx n with tiling := { t with outside := false } }).restartTiling n
        else s
      if (s.ctx n).tiling.reverses pos then
        let e := s.tileEpoch n
        let s := s.truncate n (fun x => { x with truncated := true, reversal := true }) true
        (s.tileBoundary n e true).turnLine n row pos count coarse arrival
      else s.lineSlot n (some row) pos count coarse arrival

/-- A context with its data arriving runs; a record of its region leaves handling (Table 5.2, Table 18.4). -/
def State.toRunning (s : State) (n : Nat) : State :=
  let c := s.ctx n
  if c.state = .waiting then (s.setCtx n { c with state := .running }).endHandling 2 n else s

/-- A line that has its trigger, on an open context: format, lane, completeness (R123, R124). -/
def State.triggeredLine (s : State) (n k : Nat) (code count : Nat) (complete laneFull : Bool) (row : List Nat) (pos : Int)
    (coarse arrival : Bool) : State :=
  let s := s.toRunning n
  let c := s.ctx n
  let fmtNow : Option Format := (cxpKind code).map fun kd => ⟨row.length, 0, kd⟩
  if !complete then (s.raise Cause.LINE_INCOMPLETE).missingLine n
  else
    let s := if c.format.isNone && cxpFormatOk code row.length then
        (s.setCtx n { c with format := fmtNow }).recheck n
      else s
    let c := s.ctx n
    if c.format ≠ fmtNow ∨ fmtNow.isNone ∨ !cxpFormatOk code row.length then
      let m := s.cam k
      let s := if m.noticed = some (code, row.length) then s
        else (s.setCam k { m with noticed := some (code, row.length) }).raise Cause.CXP_FORMAT
      s.missingLine n
    else
      let s := s.setCam k { s.cam k with noticed := none }
      if laneFull then
        let s := (s.fset Fld.ISP_STATUS_OVERRUN (s.fget Fld.ISP_STATUS_OVERRUN ||| 2 ^ k)).raise Cause.LINE_OVERRUN
        s.missingLine n
      else (s.bump64 (Reg.CXP_CAMn_LINES k)).takeLine n row pos count coarse arrival

/-- A line arrives: it takes the oldest trigger, or with TRIG_EN clear the present position (R114, R118, R122). -/
def State.cxpLine (s : State) (k t code count : Nat) (complete laneFull : Bool) (row : List Nat) : State :=
  if !s.cxpUp k then s
  else
    let s := s.passUntil t
    let m := s.cam k
    let trig := s.camFld k (Fld.CXP_CAMn_CFG_TRIG_EN k) == 1
    let head := m.queue.head?
    let s := if trig then s.setCam k { m with queue := m.queue.drop 1 } else s
    match s.ctxOf 0 k 0 with
    | none => s.setCam k { s.cam k with dropped := m.dropped + 1 }
    | some n =>
      if !(s.ctx n).open? then s
      else if trig then
        match head with
        | none => s.raise Cause.LINE_UNTRIGGERED
        | some e => s.triggeredLine n k code count complete laneFull row e.pos e.coarse false
      else
        let (p, coarse) := s.genPosition (s.camFld k (Fld.CXP_CAMn_CFG_TRIG_GEN k))
        s.triggeredLine n k code count complete laneFull row p coarse true

/-- The oldest queue entry has timed out (R122). -/
def State.triggerTimeout (s : State) (k : Nat) : State :=
  let m := s.cam k
  match m.queue with
  | [] => s
  | e :: q =>
    let s := s.passUntil (e.time + 10000 * s.camFld k (Fld.CXP_CAMn_CFG_LINE_TIMEOUT k))
    let s := (s.setCam k { m with queue := q }).raise Cause.TRIGGER_MISSED
    match s.ctxOf 0 k 0 with
    | some n => s.missingLine n
    | none => s

/-- A generator's edge sends a trigger packet with its time to each camera that names it, and its position joins the camera's queue; one whose queue is full gets no packet (R121). -/
def State.sendTriggers (s : State) (g : Nat) (pos : Int) (coarse : Bool) : State :=
  [0, 1].foldl (fun s k =>
    if s.cxpEnabled k && s.camFld k (Fld.CXP_CAMn_CFG_TRIG_EN k) == 1 && s.camFld k (Fld.CXP_CAMn_CFG_TRIG_GEN k) == g then
      let m := s.cam k
      if 64 ≤ m.queue.length then s.raise Cause.TRIGGER_MISSED
      else s.setCam k { m with queue := m.queue ++ [⟨pos, s.now, coarse⟩], packets := m.packets ++ [⟨pos, s.now, coarse⟩] }
    else s) s

/-- The camera front ends are configured: ST18 has passed in this start, and the module is not in Maintenance state (Table 3.1, R71). -/
def State.frontEndsOn (s : State) : Bool := s.start.passed.contains 18 && decide (s.start.phase ≠ .maintenance)

/-- One discovery of a camera (R120): the speed is limited by the camera, MAX_SPEED, and CXP-6 after ST18's alternate. -/
def State.discover (s : State) (k found speed : Nat) : State :=
  if !s.cxpEnabled k || decide (4 ≤ s.sup.level) || !s.frontEndsOn then s
  else
    let up := min found (s.cxpLinks k)
    let code := min (min speed (s.fget (Fld.CXP_CAMn_CFG_MAX_SPEED k))) (if s.cams.alt then 5 else 7)
    let s := (s.fset (Fld.CXP_CAMn_INFO_LINKS_UP k) up).fset (Fld.CXP_CAMn_INFO_SPEED k) (if up = 0 then 0 else code)
    (List.range (s.cxpLinks k)).foldl (fun s i => s.fset (cxpSpeedFld (cxpFirst k + i)) (if i < up then code else 0)) s

/-- A camera loses a connection: the line in progress is discarded, the context waits (Table 5.2, 5.8). -/
def State.cxpLoss (s : State) (k conn : Nat) (mid : Bool) : State :=
  if conn < cxpFirst k ∨ cxpFirst k + s.cxpLinks k ≤ conn ∨ s.fget (cxpSpeedFld conn) = 0 then s
  else
    let up := s.fget (Fld.CXP_CAMn_INFO_LINKS_UP k) - 1
    let s := (s.fset (Fld.CXP_CAMn_INFO_LINKS_UP k) up).fset (cxpSpeedFld conn) 0
    let s := if up = 0 then s.fset (Fld.CXP_CAMn_INFO_SPEED k) 0 else s
    let s := if mid then s.raise Cause.LINE_INCOMPLETE else s
    let s := match s.ctxOf 0 k 0 with
      | some n => s.toWaiting n
      | none => s
    s.raise Cause.LINK_DOWN

/-! ### A-PHY frames and sensor writes (R126 to R130, R145 to R147) -/

/-- The slot registers of a sensor, and its mask. -/
def State.slotWords (s : State) (k : Nat) : List Nat := (List.range 8).map fun i => s.word (Reg.APY_Sn_Wk k i)

/-- The mask of slots in use. -/
def State.slotMask (s : State) (k : Nat) : Nat := s.fget (Fld.APY_Sn_WMASK_MASK k)

/-- The next sensor write begins: the register address, then the value in one or two bytes, to the sensor's address (R145; the low byte of an 8-bit value is DEDUCED, log entry
165). -/
def State.sensorSend (s : State) (k : Nat) : State :=
  let x := s.sensor k
  match (x.queue.find? fun q => !q.left.isEmpty).bind fun q => q.left.head?.map fun i => q.words.getD i 0 with
  | none => s
  | some w =>
    let wide := s.sensorFld k (Fld.APY_Sn_CFG_VAL16 k) = 1
    s.setSensor k { x with sent := x.sent ++ [{
      addr := s.sensorFld k (Fld.APY_Sn_CFG_I2C_ADDR k), reg := w / 65536, value := if wide then w % 65536 else w % 256
      bytes := if wide then 2 else 1, fast := decide (s.sensorFld k (Fld.APY_Sn_CFG_I2C_FAST k) = 1), time := s.now }] }

/-- A boundary finds changed sensor writes: a set joins the delay queue (R145). I2C_ADDR 0 disables sensor writes. -/
def State.sensorBoundary (s : State) (k : Nat) : State :=
  let x := s.sensor k
  let w := s.slotWords k
  let m := s.slotMask k
  if (x.seenWords = w ∧ x.seenMask = m) ∨ s.sensorFld k (Fld.APY_Sn_CFG_I2C_ADDR k) = 0 then s
  else
    let left := (List.range 8).filter fun i => bitOn m i
    let set : SensorSet := {
      epoch := s.hif.epoch, words := w, mask := m, left, f := x.frames
      effective := if left.isEmpty then some (x.frames + s.sensorFld k (Fld.APY_Sn_CFG_DELAY k)) else none }
    let busy := x.queue.any fun q => !q.left.isEmpty
    let s := s.setSensor k { x with seenWords := w, seenMask := m, queue := x.queue ++ [set] }
    if busy then s else s.sensorSend k

/-- Sets that are effective for the frame that begins are in effect (R145 to R147). -/
def Sensor.advance (x : Sensor) : Sensor :=
  let (due, rest) := x.queue.span fun q => match q.effective with | some e => decide (e ≤ x.frames) | none => false
  due.foldl (fun x q =>
    if q.failed then { x with unknown := true }
    else { x with curEpoch := q.epoch, curWords := q.words, curMask := q.mask, late := q.late, unknown := false }) { x with queue := rest }

/-- The write under way is acknowledged; after the last one the set is effective from frame G + DELAY (R145). -/
def State.sensorAck (s : State) (k : Nat) : State :=
  let x := s.sensor k
  match x.queue.span (fun q => q.left.isEmpty) with
  | (_, []) => s
  | (done, q :: rest) =>
    let left := q.left.drop 1
    let late := left.isEmpty && decide (q.f < x.frames)
    let q := { q with
      left, retried := false, late
      effective := if left.isEmpty then some (x.frames + s.sensorFld k (Fld.APY_Sn_CFG_DELAY k)) else none }
    let s := (s.setSensor k { x with queue := done ++ q :: rest }).sensorSend k
    if late then s.raise Cause.SENSOR_WRITE_LATE else s

/-- The write under way fails: it is repeated once, then the set is abandoned (R146). -/
def State.sensorNak (s : State) (k : Nat) : State :=
  let x := s.sensor k
  match x.queue.span (fun q => q.left.isEmpty) with
  | (_, []) => s
  | (done, q :: rest) =>
    if q.retried then
      let q := { q with left := [], failed := true, effective := some (x.frames + s.sensorFld k (Fld.APY_Sn_CFG_DELAY k)) }
      ((s.setSensor k { x with queue := done ++ q :: rest }).sensorSend k).raise Cause.SENSOR_WRITE_NAK
    else (s.setSensor k { x with queue := done ++ { q with retried := true } :: rest }).sensorSend k

/-- The pixel kind of a CSI-2 data type; raw data is Bayer where the parameter set demosaics (Table 5.16). -/
def State.csiKind (s : State) (profile : Nat) : CsiType → Option PixKind
  | .raw b => some (.raw (8 + 2 * b.val)
      (if bitOn (s.word (Reg.ISP_Pp_CTRL profile)) 3 then some (s.fget (Fld.ISP_Pp_CTRL_BAYER profile)) else none))
  | .yuv422 => some .yuv
  | _ => none

/-- Bits and colour of a kind, without the Bayer order that the parameter set gives. -/
def PixKind.base : PixKind → Nat
  | .raw n _ => n
  | .yuv => 1
  | .rgb => 2

/-- Is a CSI-2 frame within Table 5.5? -/
def csiSizeOk (w h : Nat) : Bool :=
  decide (64 ≤ w ∧ w ≤ 4096 ∧ w % 4 = 0 ∧ 2 ≤ h ∧ h ≤ 4096 ∧ w * h ≤ 8388608)

/-- A frame of sensor context n is dropped upstream; its slot holds no sample (R168). -/
def State.dropFrame (s : State) (n code : Nat) : State :=
  let c := s.ctx n
  match c.frame with
  | none => s
  | some _ => ((s.setCtx n { c with frame := none }).bump (Fld.APY_Sn_DROPPED_COUNT c.sensorNo)).raise code

/-- A frame in progress is gone: a STREAM_CLOSE that waited for it completes (R116), and an INTAKE that came meanwhile completes ABORTED (R151). -/
def State.finishClose (s : State) (n : Nat) : State :=
  let c := s.ctx n
  match c.closing with
  | some (qp, d) =>
    if c.frame.isNone && c.ready.isEmpty then
      let last := if c.nextSeq = 1 then 0 else sampleId n (c.nextSeq - 1)
      let s := ((s.abortCommits n).abortIntake n).complete qp d St.OK 0 last
      let s := s.setCtx n { (({} : Ctx)) with
        nextSeq := c.nextSeq, progNo := c.progNo, slots := c.slots, nextSlot := c.nextSlot }
      s
    else s
  | none => s

/-- A header whose ECC error cannot be corrected drops the frame in progress on every virtual channel of the port (R129). -/
def State.headerError (s : State) (port : Nat) : State :=
  let s := (List.range 24).foldl (fun s n =>
    let c := s.ctx n
    if c.path = 1 ∧ c.port = port ∧ c.state ≠ .free then
      match c.frame with
      | none => s
      | some _ => ((s.setCtx n { c with frame := none, gone := true }).bump (Fld.APY_Sn_DROPPED_COUNT c.sensorNo)).finishClose n
    else s) s
  s.raise Cause.CSI_HEADER_ERROR

/-- What a CSI-2 packet header leads to: the context of its channel, after the ECC and the drop counters (R114, R118, R129). -/
def State.csiHeader (s : State) (port vc ecc : Nat) (f : State → Nat → State) : State :=
  if s.fget (Fld.APY_PORTn_STATUS_LINK_UP port) = 0 then s
  else if ecc = 2 then s.headerError port
  else
    let s := if ecc = 1 then s.raise Cause.CSI_ECC_CORRECTED else s
    if 4 ≤ vc then s
    else
      match s.ctxOf 1 port vc with
      | none => s.bump (Fld.APY_Sn_DROPPED_COUNT (4 * port + vc))
      | some n => if (s.ctx n).open? then f s n else s

/-- Does a context's intake go to the Fixed-gear line buffers? -/
def Ctx.toFixed (c : Ctx) : Bool := c.prog.any fun p => p.dest == 0

/-- Pixels per second that lane L2 is asked for: each A-PHY frame in progress over the time between its context's last two frame starts (R138; DESIGN CHOICE, log entry 168). -/
def State.laneDemand (s : State) : Nat :=
  ((List.range 24).map fun n =>
    let c := s.ctx n
    if c.path = 1 ∧ c.fsGap ≠ 0 then c.frame.elim 0 fun x => x.width * x.height * 1000000000 / c.fsGap else 0).sum

/-- The frame that L2 gives up: of those in progress that do not go to the Fixed-gear line buffers, the one with the latest FS (R138). -/
def State.laneVictim (s : State) : Option Nat :=
  let l := (List.range 24).filter fun n => (s.ctx n).path == 1 && (s.ctx n).frame.isSome && !(s.ctx n).toFixed
  l.find? fun n => l.all fun m => decide ((s.ctx m).fsAt ≤ (s.ctx n).fsAt)

/-- L2 has no room: a whole frame is dropped, unless what is asked of it lies within its 0.6 × 10⁹ px/s (R138). -/
def State.laneFull (s : State) : State :=
  if s.laneDemand ≤ 600000000 then s
  else
    match s.laneVictim with
    | none => s
    | some n =>
      let c := s.ctx n
      let s := (s.setCtx n { c with frame := none, gone := true }).fset Fld.ISP_STATUS_OVERRUN (s.fget Fld.ISP_STATUS_OVERRUN ||| 4)
      ((s.bump (Fld.APY_Sn_DROPPED_COUNT c.sensorNo)).raise Cause.LANE_OVERRUN).finishClose n

/-- A frame of sensor context n starts (R128, R138, R142, R145); a frame start without a recorded format claims nothing (R155). -/
def State.frameStart (s : State) (n t frame : Nat) (dt : CsiType) (w h : Nat) (overrun : Bool) : State :=
  let s := (s.passUntil t).dropFrame n Cause.FRAME_INCOMPLETE
  if (s.ctx n).closing.isSome then s.finishClose n else
  let s := s.setCtx n { s.ctx n with
    gone := false, fsGap := if (s.ctx n).state = .running then s.now - (s.ctx n).fsAt else 0, fsAt := s.now }
  let k := (s.ctx n).sensorNo
  let s := s.setSensor k { s.sensor k with frames := (s.sensor k).frames + 1 }
  let s := (s.streamBoundary n).sensorBoundary k
  let s := s.setSensor k (s.sensor k).advance
  if (s.ctx n).open? = false then s else
  let s := s.toRunning n
  let kind := s.csiKind (s.ctx n).profile dt
  let c := s.ctx n
  let fmt : Option Format := if csiSizeOk w h then kind.map fun kd => ⟨w, h, kd⟩ else none
  let s := if c.format.isNone && fmt.isSome then s.setCtx n { c with format := fmt } else s
  let s := s.recheck n
  let c := s.ctx n
  let x := s.sensor k
  let same := match c.format, kind with
    | some f, some kd => f.width == w && f.height == h && f.kind.base == kd.base
    | _, _ => false
  let base : Sample := {
    params := s.ispSet c, kind := kind.getD (.raw 8 none), width := w, height := h, tFirst := t, epoch := s.hif.epoch
    srcFrame := frame, quality := s.tb.quality, tracked := true, sensorEpoch := x.curEpoch, sensorLate := x.late, sensorUnknown := x.unknown
    sensorValues := (List.range 4).foldl (fun a i =>
      a + (if bitOn x.curMask i then x.curWords.getD i 0 % 65536 else 0) * 65536 ^ i) 0
    badType := !same }
  let s := s.setCtx n { c with frame := some base }
  let s := if overrun then s.laneFull else s
  if (s.ctx n).frame.isNone || c.format.isNone then s
  else
    let (s, y) := s.claim n base
    s.setCtx n { s.ctx n with frame := some y }

/-- Samples of a line of a kind: three a pixel for YUV. -/
def PixKind.samples (k : PixKind) (w : Nat) : Nat := match k with | .raw _ _ => w | _ => 3 * w

/-- A line packet of a frame (R128, R129). -/
def State.frameLine (s : State) (n : Nat) (crcOk : Bool) (dt : CsiType) (row : List Nat) : State :=
  let c := s.ctx n
  match c.frame with
  | none => s
  | some x =>
    if dt = .embedded then (if crcOk then s else s.setCtx n { c with frame := some { x with bad := true } })
    else
      let same := match s.csiKind c.profile dt with
        | some kd => kd.base == x.kind.base && row.length == x.kind.samples x.width
        | none => false
      s.setCtx n { c with frame := some { x with rows := x.rows ++ [some row], bad := x.bad || !crcOk, badType := x.badType || !same } }

/-- A frame ends: it is emitted to the pipeline, or dropped whole (R129). An end without its start raises FRAME_INCOMPLETE on a context that runs, unless the frame was dropped
before. -/
def State.frameEnd (s : State) (n t : Nat) : State :=
  let s := s.passUntil t
  let c := s.ctx n
  match c.frame with
  | none =>
    if c.gone then (s.setCtx n { c with gone := false }).finishClose n
    else if c.state = .running then ((s.bump (Fld.APY_Sn_DROPPED_COUNT c.sensorNo)).raise Cause.FRAME_INCOMPLETE).finishClose n
    else s
  | some x =>
    if x.bad then (s.dropFrame n Cause.CSI_CRC_ERROR).finishClose n
    else if x.badType || decide (x.rows.length ≠ x.height) then (s.dropFrame n Cause.FRAME_INCOMPLETE).finishClose n
    else
      let pend := (s.sensor c.sensorNo).queue.any fun q => q.left.isEmpty && !q.failed
      let s := (s.setCtx n { c with frame := none }).bump (Fld.APY_Sn_FRAMES_COUNT c.sensorNo)
      (s.captured n { x with tLast := t, sensorPending := pend }).finishClose n

/-- A port leaves link-up: its contexts wait. -/
def State.apyDown (s : State) (p : Nat) : State :=
  if s.fget (Fld.APY_PORTn_STATUS_LINK_UP p) = 0 then s
  else
    let s := (s.fset (Fld.APY_PORTn_STATUS_LINK_UP p) 0).fset (Fld.APY_PORTn_STATUS_GEAR p) 0
    let s := (List.range 24).foldl (fun s n =>
      let c := s.ctx n
      if c.path = 1 ∧ c.port = p ∧ c.state = .running then (s.toWaiting n).finishClose n else s) s
    s.raise Cause.APY_LINK_DOWN

/-- A port trains: the gear is limited by the far end, MAX_GEAR, and G2 after ST18's alternate (R127). -/
def State.apyUp (s : State) (p gear : Nat) : State :=
  if s.fget (Fld.APY_PORTn_CFG_ENABLE p) = 0 ∨ gear = 0 ∨ 4 ≤ s.sup.level ∨ s.frontEndsOn = false then s
  else
    let g := min (min gear (s.fget (Fld.APY_PORTn_CFG_MAX_GEAR p))) (if s.cams.alt then 2 else 4)
    (s.fset (Fld.APY_PORTn_STATUS_LINK_UP p) 1).fset (Fld.APY_PORTn_STATUS_GEAR p) g

/-! ### The decoder (R131 to R136) -/

/-- The block rate that decoder context c declares (R134). -/
def State.decRate (s : State) (c : Nat) : Nat :=
  s.decFld c (Fld.DEC_Cc_RATE_MAX_W_MB c) * s.decFld c (Fld.DEC_Cc_RATE_MAX_H_MB c) * s.decFld c (Fld.DEC_Cc_RATE_FPS c)

/-- The whole decoding capacity. -/
def decCapacity : Nat := 1958400

/-- The block rate of the open decoder contexts. -/
def State.decUsed (s : State) : Nat :=
  ((List.range 10).map fun c => if (s.ctxOf 2 c 0).isSome then s.decRate c else 0).sum

/-- A picture cannot be decoded (R132, R135): it and those up to the next IDR or IRAP picture are dropped. -/
def State.decFails (s : State) (c : Nat) (u : AccessUnit) (code : Nat) : State :=
  let d := s.dec c
  let rest := ((d.units.dropWhile fun v => v != u).drop 1).dropWhile fun v => !v.key
  (s.setDec c { d with units := rest, waitKey := d.waitKey || rest.isEmpty }).raise code

/-- The access unit of a timestamp that leaves the decoder next: none that waits is to be shown before it (R133). -/
def Decoder.unit? (d : Decoder) (stamp : Nat) : Option AccessUnit :=
  d.units.find? fun u => u.stamp == stamp && d.units.all fun v => !rtpLater v.stamp u.stamp

/-- The decoder has decoded a picture (R132, R133, R135, R136): one that is supported, whole and within DEC_Cc_RATE leaves it as R'G'B', BT.709 limited without VUI. -/
def State.picture (s : State) (c t stamp : Nat) (vui : Option Vui) (supported intact : Bool) (w : Nat) (rows : List (List Nat)) : State :=
  match s.ctxOf 2 c 0 with
  | none => s
  | some n =>
    if !(s.ctx n).open? then s
    else
      match (s.dec c).unit? stamp with
      | none => s
      | some u =>
        let s := s.passUntil t
        let h := rows.length
        if !intact then s.decFails c u Cause.BITSTREAM_ERROR
        else if !supported || !(u.nals.all (spsOk (s.h265 c))) || decide (s.decFld c (Fld.DEC_Cc_RATE_MAX_W_MB c) < (w + 15) / 16) ||
            decide (s.decFld c (Fld.DEC_Cc_RATE_MAX_H_MB c) < (h + 15) / 16) then s.decFails c u Cause.UNSUPPORTED_STREAM
        else
          let s := s.setDec c { s.dec c with silent := false, units := (s.dec c).units.filter fun v => v != u }
          let s := s.streamBoundary n
          if (s.ctx n).open? = false then s else
          let s := s.toRunning n
          let s := (s.setCtx n { s.ctx n with format := some ⟨w, h, .rgb⟩ }).recheck n
          let code : IspMath.YuvCode := match vui with | some v => ⟨v.bt601, v.full⟩ | none => ⟨false, false⟩
          let rgb := rows.map fun row => (IspMath.triples row).flatMap (IspMath.yuvPixel code)
          let base : Sample := {
            params := s.ispSet (s.ctx n), kind := .rgb, width := w, height := h, rows := rgb.map some, tFirst := u.last, tLast := u.last
            epoch := s.hif.epoch, srcFrame := stamp, quality := s.tb.quality }
          let (s, x) := s.claim n base
          ((s.bump (Fld.DEC_Cc_PICTURES_COUNT c)).captured n x).finishClose n

end Sys2Proof.Machine
end

