-- ==== Sys2Proof/Machine/Emit.lean ====
section
/-! DEFINITION. What a captured frame or tile becomes: its tensor, its metadata block and its intake block (R148, R153 to R160, R170). -/
namespace Sys2Proof.Machine

/-- The pipeline's output rows of a sample: the channels of every pixel; a missing line is zero in every channel (R140, R161). -/
def Sample.pixels (x : Sample) (c : Nat) : List (List (List Nat)) :=
  let zero := List.replicate (x.kind.samples x.width) 0
  let raw := x.rows.map fun r => r.getD zero
  let all := x.before.toList ++ raw ++ x.after.toList
  let out := IspMath.run x.params x.kind x.width (x.firstLine - x.before.toList.length) all
  let out := (out.drop x.before.toList.length).take raw.length
  (x.rows.zip out).map fun (r, o) => if r.isSome then o else List.replicate x.width (List.replicate c 0)

/-- Channels and bits of the sample's parameter set (R154). -/
def Sample.channels (x : Sample) : Nat := if IspMath.out x.params < 2 then 1 else 3
def Sample.outBits (x : Sample) : Nat := if IspMath.out x.params % 2 = 0 then 8 else 16

/-- The output tensor (R156 to R160); row padding holds free values. -/
def State.buildTensor (s : State) (x : Sample) (p : Program) : List Byte :=
  let c := x.channels
  let (cx, cy, cw, ch) := p.crop x.width x.rows.length
  let g := IntakeMath.crop (x.pixels c) cx cy cw ch
  let g := IntakeMath.flip g (bitOn p.orient 0) (bitOn p.orient 1)
  let r := p.orient / 4 % 4
  let g := IntakeMath.rotate g cw ch r
  let (aw, ah) := if r % 2 = 1 then (ch, cw) else (cw, ch)
  let g := if p.resizeMode = 0 then g else IntakeMath.resize g p.resizeMode c aw ah p.outW p.outH
  let table := if p.qparam = 0 then List.replicate c (IntakeMath.defaultQuant p.outType x.outBits) else p.table
  IntakeMath.tensor g p.outW c p.outType table fun k => (Config.freeValue (s.freeCount + k)).truncate 8

/-- Padding bytes of the tensor. -/
def Program.padBytes (p : Program) (c : Nat) : Nat := IntakeMath.rowPad p.outW c p.outType * p.outH

/-- FLAGS of the metadata block (Table 5.11). -/
def Sample.flags (x : Sample) : Nat :=
  let b := fun (c : Bool) (k : Nat) => if c then 2 ^ k else 0
  b x.tracked 0 + b x.sensorPending 1 + b x.sensorLate 2 + b x.sensorUnknown 3 + b (decide (x.missing ≠ 0)) 4 +
    b x.overlapReset 5 + b x.posAtArrival 6 + b x.posCoarse 7 + 256 * (x.quality % 4) + b x.short 10

/-- The metadata block (Table 5.10). -/
def Sample.metadata (x : Sample) (id : Nat) (lineScan : Bool) : List Byte :=
  leBytes 8 id ++ leBytes 8 x.tFirst ++ leBytes 8 x.tLast ++
    leBytes 8 (if lineScan then ofSigned 64 x.posStart else 0) ++ leBytes 8 (if lineScan then ofSigned 64 x.posEnd else 0) ++
    leBytes 2 x.epoch ++ leBytes 2 (if x.tracked then x.sensorEpoch else x.epoch) ++ leBytes 2 x.width ++ leBytes 2 x.rows.length ++
    leBytes 4 x.srcFrame ++ leBytes 2 (min 0xFFFF x.missing) ++ leBytes 2 x.flags ++ leBytes 8 (if x.tracked then x.sensorValues else 0)

/-- IFLAGS of the intake block (Table 6.3). -/
def Sample.iflags (x : Sample) (destBusy : Bool) : Nat :=
  let b := fun (c : Bool) (k : Nat) => if c then 2 ^ k else 0
  b x.truncated 0 + b x.reversal 1 + b x.windowEnd 2 + b destBusy 3 + b (x.falling = some true) 4 + b x.falling.isSome 5

/-- The intake block (Table 6.3). -/
def Sample.intakeBlock (x : Sample) (p : Program) (lineScan destBusy : Bool) (now slot : Nat) : List Byte :=
  let c := x.channels
  leBytes 2 p.number ++ leBytes 1 p.outType ++ leBytes 1 c ++ leBytes 2 p.outW ++ leBytes 2 p.outH ++
    leBytes 4 (IntakeMath.rowBytes p.outW c p.outType) ++ leBytes 4 (p.tensorBytes c) ++ leBytes 4 x.tileIndex ++ leBytes 4 x.firstLine ++
    leBytes 4 (if lineScan then x.received else x.rows.length) ++ leBytes 2 (x.iflags destBusy) ++ leBytes 2 0 ++ leBytes 8 now ++
    leBytes 8 slot ++ leBytes 16 0

/-- The 128 header bytes of a sample. -/
def Sample.header (x : Sample) (p : Program) (id : Nat) (lineScan destBusy : Bool) (now slot : Nat) : List Byte :=
  x.metadata id lineScan ++ x.intakeBlock p lineScan destBusy now slot

end Sys2Proof.Machine
end

