-- ==== Sys2Proof/Machine/Consumers.lean ====
section
/-! DEFINITION. What failed data does to the unit that consumes or requested it (R447, Table 18.6). -/
namespace Sys2Proof.Machine

/-- The Freewheel context whose run or teardown occupies an engine. -/
def State.ctxOn (s : State) (e : Nat) : Option Nat :=
  match s.runOn e with
  | some r => some r.ctx
  | none => (List.range 32).find? fun c => (s.tearing c).any fun t => t.engines.contains e

/-- The region of a consumer (Table 18.6): kind and number; `none` stands for kind 14, the raising block. -/
def State.consumerRegion (s : State) : Consumer → Option (Nat × Nat)
  | .fixedGear e _ => some (5, e.val / 8)
  | .freewheel e => (s.ctxOn e).map fun c => (7, c)
  | .host qp _ => some (1, qp.val)
  | .decoder c => (s.ctxOf 2 c 0).map fun n => (2, n)
  | .intake n => some (2, n)
  | .hub => some (0, 0)
  | _ => none

/-- The record of a failed access, in its consumer's region. -/
def State.raiseFor (s : State) (code : Nat) (c : Consumer) (detail : Nat := 0) : State :=
  match s.consumerRegion c with
  | some (k, r) => s.raiseIn code k r detail
  | none => s.raise code detail

/-- The Chainring stop of an engine (Table 10.1). -/
def engineStop (e : Nat) : Nat := [1, 2, 4, 5, 10, 11, 13, 14, 15, 16, 18, 19, 24, 25, 27, 28].getD e 0

/-- The Chainring stop of a requester (Table 10.1). The Hub has two stops and the controllers eight: which one asks is free (DESIGN CHOICE, log entry 159). -/
def requesterStop : Consumer → Nat
  | .fixedGear e _ => engineStop e
  | .freewheel e => engineStop e
  | .host _ _ => 0
  | .decoder _ => 8
  | .intake _ => 8
  | .ihlex _ _ => 29
  | .truing => 22
  | .scrub => [3, 6, 9, 12, 17, 20, 23, 26].getD Config.scrubStop.toNat 3
  | .hub => if Config.hubSouth then 21 else 7

/-- What the consumer does with failed data (Table 18.6). -/
def State.consumerActs (s : State) (code : Nat) : Consumer → State
  | .fixedGear e job => s.withhold job.toNat (e.val / 8)
  | .freewheel e =>
    match s.runOn e with
    | some r => s.tearDown r.ctx (some (r.id, code))
    | none => s
  | .host qp d =>
    let e := s.begunDesc qp d
    match s.fwh.runs.find? fun r => r.origin == some (qp.val, e) with
    | some r => s.endRun r St.FAULTED code
    | none => if descNo e = unfetched then s else s.complete qp e St.FAULTED code
  | .decoder c => s.setDec c { s.dec c with waitKey := true }
  | .intake n => s.abandonSample n
  | .ihlex qp d =>
    match s.ihx.pushes.find? fun p => p.qp == qp.val && p.d == s.begunDesc qp d with
    | some p => s.endPush p St.FAULTED code
    | none => s
  | .truing =>
    match s.tru.queue with
    | [] => s
    | _ :: _ => s.solveEnd { setup := 0, cost0 := 0, poisoned := true, steps := [] }
  | .scrub => s
  | .hub => s.raiseIn Cause.HUB_DATA_POISON 0 0

/-- Data fails for a consumer: the record, then what it does. -/
def State.consumerFails (s : State) (code : Nat) (c : Consumer) : State := (s.raiseFor code c).consumerActs code c

/-- A sequencer's fault in the Freewheel task of an engine; a second one while its context is torn down escalates (R309). -/
def State.sequencerFault (s : State) (e code : Nat) : State :=
  match s.ctxOn e with
  | none => s
  | some _ => s.consumerFails code (.freewheel (Fin.ofNat 16 e))

end Sys2Proof.Machine
end

