-- ==== Sys2Proof/Machine/Ring.lean ====
section
/-! DEFINITION. The Chainring: stops, trips, carriages, reserved slots, boarding, claims and the folded Stem (R244 to R253). -/
namespace Sys2Proof.Machine

/-! ### Stops and trips (R244) -/

/-- The stop of memory controller c. -/
def controllerStop (c : Nat) : Nat := [3, 6, 9, 12, 17, 20, 23, 26].getD c 3

/-- A unit's stop, and its place among the stop's requesters (Table 10.1). -/
def unitStop : RingUnit → Nat × Nat
  | .hostInterface => (0, 0)
  | .engine n => (engineStop n, 0)
  | .controller c => (controllerStop c, 0)
  | .slice n => (controllerStop (n / 2), 1 + n % 2)
  | .hub pair => (if pair = 0 then 7 else 21, 0)
  | .spoke => (7, 1)
  | .timeBase => (7, 2)
  | .brake => (7, 3)
  | .sprout => (7, 4)
  | .camera => (8, 0)
  | .intake => (8, 1)
  | .cadence => (21, 1)
  | .truing => (22, 0)
  | .ihlex => (29, 0)
  | .switch => (29, 1)

/-- The home of a line: its slice, or the controller of its channel where no slice caches it (R258, R266). -/
def State.homeUnit (s : State) (line : Nat) : Option RingUnit :=
  (Image.placeLine s.mem.layout (64 * line)).map fun p => match p.1 with
    | some n => .slice (Fin.ofNat 16 n)
    | none => .controller (Fin.ofNat 8 p.2.1)

/-- Where a message boards and leaves, as (stop, requester) and stop; `none` when its line has no home. -/
def State.ringRoute (s : State) (m : RingMsg) : Option ((Nat × Nat) × Nat) :=
  (match m.peer with
    | some u => some u
    | none => m.request.bind fun r => s.homeUnit r.line.toNat).map fun far =>
    if m.back then (unitStop far, (unitStop m.unit).1) else (unitStop m.unit, (unitStop far).1)

/-- Cycles from stop 0 to a stop on a ring, Stem crossings included (R244). Folded, each half is one loop of 32 cycles: `ring` 0 then gives the visit on its way out, 1 the visit on its way
back (R253). -/
def stopPos (folded : Bool) (ring k : Nat) : Nat :=
  if folded then (if ring = 0 then k % 15 else 30 - k % 15)
  else if ring = 0 then (if k < 15 then k else k + 1)
  else if k = 0 then 0 else if k < 15 then 32 - k else 31 - k

/-- Cycles of a trip on a ring. -/
def tripOn (folded : Bool) (ring src dst : Nat) : Nat :=
  if folded then
    let p := stopPos true ring src
    min ((stopPos true 0 dst + 32 - p) % 32) ((stopPos true 1 dst + 32 - p) % 32)
  else (stopPos false ring dst + 32 - stopPos false ring src) % 32

/-- The ring with the shorter trip; CW when they are equal (R250). -/
def ringFor (folded : Bool) (src dst : Nat) : Nat := if tripOn folded 1 src dst < tripOn folded 0 src dst then 1 else 0

/-- Does a trip pass stop 0? -/
def passesZero (ring src dst : Nat) : Bool :=
  if ring = 0 then decide (dst < src) && dst != 0 else decide (src < dst) && src != 0

/-! ### Carriages and slots (R246) -/

/-- The number of a ring's carriages: folded, a loop is named by its half. -/
def ringName (folded : Bool) (ring k : Nat) : Nat := if folded then stopHalf k else ring

/-- The carriage at a stop in cycle u. -/
def carAt (folded : Bool) (ring k u : Nat) : Nat := (u + 64 - stopPos folded ring k) % 32

/-- The slot that the carriage at a stop is in, in cycle u. -/
def slotAt (ring k u : Nat) : Nat := (u + 512 - stopPos false ring k) % 256

/-- The entry of a slot in the table in use; 0 where no table applies. -/
def Mem.slot (m : Mem) (ring slot : Nat) : Nat := if m.folded then 0 else rd m.slotTable (2 * (256 * ring + slot % 256)) 2

/-- Is a carriage occupied as it reaches a stop? A message that leaves there occupies it still. -/
def Mem.occupied (m : Mem) (ring car : Nat) : Bool := m.aboard.any fun a => a.ring == ring && a.car == car && decide (2 ≤ a.left)

/-! ### Boarding (R250, R251) -/

/-- Has a message spent its two cycles of boarding, and does its source hold a credit? -/
def Waiting.able (w : Waiting) : Bool := w.msg.ready == 0 && w.msg.credit == 0 && decide (2 ≤ w.waited)

/-- The message of a stop that has waited longest. -/
def Mem.oldest (m : Mem) (k : Nat) : Option Waiting :=
  (m.waiting.filter fun w => w.src == k && !w.msg.fixed && w.msg.ready == 0).foldl (fun b w => match b with
    | some x => if x.waited < w.waited then some w else b
    | none => some w) none

/-- The claim of a stop. -/
def Mem.claim? (m : Mem) (k : Nat) : Option Claim := m.claims.find? fun c => c.stop == k

/-- May a message of free traffic board the carriage that reaches stop k on a ring in cycle u? (R250) -/
def Mem.mayBoard (m : Mem) (ring k u : Nat) (w : Waiting) : Bool :=
  !bitOn (m.slot ring (slotAt ring k u)) 15 &&
    !(!m.folded && passesZero ring w.src w.dst && bitOn (m.slot ring (slotAt ring k u + 32)) 15)

/-- The message that boards among those able to: coherence responses first, then the stop's requesters in turn (R250). -/
def Mem.chosen (m : Mem) (k : Nat) (ws : List Waiting) : Option Waiting :=
  match ws.find? fun w => w.msg.coherence with
  | some w => some w
  | none =>
    let last := m.turns.get (fun _ => 15) k
    ((List.range 16).map fun i => (last + 1 + i) % 16).findSome? fun q => ws.find? fun w => w.who == q

/-- A message boards a carriage; what it waited counts (R251). -/
def State.board (s : State) (ring car : Nat) (w : Waiting) : State :=
  let s := s.setWord Reg.CRG_MAX_WAIT (max (s.word Reg.CRG_MAX_WAIT) w.waited)
  { s with mem := { s.mem with
      waiting := s.mem.waiting.erase w
      aboard := s.mem.aboard ++ [({ msg := w.msg, src := w.src, dst := w.dst, ring := ringName s.mem.folded ring w.src, car, left := tripOn s.mem.folded ring w.src w.dst + 2 } : Aboard)]
      claims := s.mem.claims.filter fun c => !(c.stop == w.src && s.mem.oldest w.src == some w)
      turns := if w.msg.coherence || w.msg.fixed then s.mem.turns else s.mem.turns.put (fun _ => 15) w.src w.who } }

/-- A stop's oldest message has waited STARVE cycles: it claims an occupied, unreserved carriage (R251). -/
def State.claimCar (s : State) (k ring car : Nat) : State :=
  let n := ringName s.mem.folded ring k
  match s.mem.claim? k with
  | some c => if c.car.isSome then s else { s with mem := { s.mem with claims := s.mem.claims.map fun x => if x.stop == k then { x with car := some (n, car) } else x } }
  | none => ({ s with mem := { s.mem with claims := s.mem.claims ++ [({ stop := k, car := some (n, car) } : Claim)] } }).bump Fld.CRG_CLAIMS_COUNT

/-- A stop in cycle u, on one ring (R246, R250, R251). -/
def State.stopCycle (s : State) (boarding : Bool) (u k ring : Nat) : State :=
  let m := s.mem
  let car := carAt m.folded ring k u
  let n := ringName m.folded ring k
  let entry := m.slot ring (slotAt ring k u)
  let here := m.waiting.filter fun w => w.src == k && w.able
  let free := here.filter fun w => !w.msg.fixed && ringFor m.folded w.src w.dst == ring
  if m.occupied n car then
    match m.oldest k with
    | some w =>
      if !bitOn entry 15 && decide (s.fget Fld.CRG_CONFIG_STARVE ≤ w.waited) && ringFor m.folded w.src w.dst == ring &&
          !(m.claims.any fun c => c.car == some (n, car)) then s.claimCar k ring car else s
    | none => s
  else if !boarding then s
  else if bitOn entry 15 then
    match here.find? fun w => w.msg.fixed && decide (bits entry 14 10 = w.src) && decide (bits entry 9 5 = w.dst) with
    | some w => s.board ring car w
    | none => if m.claims.any (fun c => c.stop == k && c.car == some (n, car)) then
        { s with mem := { m with claims := m.claims.map fun c => if c.stop == k then { c with car := none } else c } } else s
  else
    match m.claims.find? fun c => c.car == some (n, car) with
    | some c =>
      if c.stop ≠ k then s
      else
        match m.oldest k with
        | some w => if w.able && m.mayBoard ring k u w then s.board ring car w
          else { s with mem := { m with claims := m.claims.map fun c => if c.stop == k then { c with car := none } else c } }
        | none => { s with mem := { m with claims := m.claims.filter fun c => c.stop != k } }
    | none =>
      match m.chosen k (free.filter fun w => m.mayBoard ring k u w) with
      | some w => s.board ring car w
      | none => s

/-- One cycle of wait: a message becomes ready, and its source gains its credit. -/
def Waiting.tick (w : Waiting) : Waiting :=
  { w with
    waited := if w.msg.ready = 0 then w.waited + 1 else 0
    msg := { w.msg with ready := w.msg.ready - 1, credit := w.msg.credit - 1 } }

/-- One Chainring cycle: messages aboard move on, and each stop may board one on each ring. -/
def State.ringCycle (s : State) : State :=
  let u := s.mem.ringAt + 1
  let s := { s with mem := { s.mem with
    ringAt := u
    waiting := s.mem.waiting.map Waiting.tick
    aboard := s.mem.aboard.map fun a => { a with left := a.left - 1 } } }
  if s.mem.waiting.isEmpty then s
  else
    let boarding := s.mem.boardStop.all fun t => decide (u < t)
    (List.range 30).foldl (fun s k => (s.stopCycle boarding u k 0).stopCycle boarding u k 1) s

/-- The message that is due at its destination. -/
def Mem.arrived (m : Mem) : Option Aboard := m.aboard.find? fun a => a.left == 0

/-- The ring runs for up to `fuel` cycles, until a message is due or `done` holds. -/
def State.ringRun (s : State) (done : State → Bool) : Nat → State
  | 0 => s
  | fuel + 1 =>
    if s.mem.arrived.isSome || done s then s
    else if s.mem.waiting.isEmpty && s.mem.aboard.isEmpty then { s with mem := { s.mem with ringAt := s.mem.ringAt + fuel + 1 } }
    else s.ringCycle.ringRun done fuel

/-- A ring that carries nothing is at the present cycle. -/
def State.ringSync (s : State) : State :=
  if s.mem.waiting.isEmpty && s.mem.aboard.isEmpty then { s with mem := { s.mem with ringAt := s.cycleNow } } else s

/-- The rings turn: tested by ST11, and at a clock plan that runs the Chainring (Table 2.6, Table 3.1). -/
def State.ringOn (s : State) : Bool :=
  s.start.passed.contains 11 && decide (s.sup.plan ≤ 2) &&
    (decide (s.sup.power = .starting) || decide (s.sup.power = .ready) || decide (s.sup.power = .active))

/-- When a line that DRAM answers with is ready, from `now` on in cycles: not before its block slot ends (R261). -/
def State.readyIn (s : State) (m : RingMsg) : Nat :=
  match (if m.back then m.request else none) with
  | some r => match s.mem.reads.find? fun x => x.1 == r.line.toNat with
    | some (_, t) => max m.ready (cyclesIn s.mem.plan (t - s.mem.frameAt) + 1 - s.cycleNow)
    | none => m.ready
  | none => m.ready

/-- Messages are issued in the present cycle: each waits at its stop. One whose line lies in no window is not performed: its requester gets an error (R259). -/
def State.issue (s : State) (ms : List RingMsg) : State :=
  let ago := s.cycleNow - s.mem.ringAt
  ms.foldl (fun s m => match s.ringRoute m with
    | some (src, dst) =>
      let msg := { m with ready := s.readyIn m + ago, credit := m.credit + ago }
      { s with mem := { s.mem with
          waiting := s.mem.waiting ++ [({ msg, src := src.1, dst, who := src.2 } : Waiting)]
          reads := if m.back then s.mem.reads.eraseP fun x => m.request.any fun r => x.1 == r.line.toNat else s.mem.reads } }
    | none => if m.back then s else s.consumerFails Cause.NO_WINDOW m.consumer) s

/-- The ring runs from the cycle that ran last to `cycles` beyond the present one, or to the next message that is due; time passes with it. -/
def State.ringTo (s : State) (cycles : Nat) (done : State → Bool) : State :=
  let s := s.ringRun done (s.cycleNow + cycles - s.mem.ringAt)
  s.passUntil (s.cycleTime s.mem.ringAt)

/-! ### The Stem (R252, R253) -/

/-- The carriage of a message as the fold finds it: each half's carriages go on in its loop. -/
def foldCar (a : Aboard) : Aboard :=
  let south := stopHalf a.src = 1
  { a with
    ring := stopHalf a.src
    car := (a.car + if a.ring = 0 then (if south then 16 else 0) else (if south then 18 else 2)) % 32 }

/-- The Stem is folded: no table applies, CRG_UNREACHABLE is raised once, and the messages aboard whose destination lies in the other half are discarded, each source with an error (R253). -/
def State.foldStem (s : State) : State :=
  if s.mem.folded then s
  else
    let (lost, kept) := s.mem.aboard.partition fun a => stopHalf a.src != stopHalf a.dst
    let (cut, waiting) := s.mem.waiting.partition fun w => stopHalf w.src != stopHalf w.dst
    let s := ({ s with mem := { s.mem with folded := true, slotTable := [], aboard := kept.map foldCar, waiting, claims := [] } }).raise Cause.CRG_UNREACHABLE
    let s := lost.foldl (fun s a => s.consumerActs Cause.CRG_UNREACHABLE a.msg.consumer) s
    cut.foldl (fun s w => s.consumerActs Cause.CRG_UNREACHABLE w.msg.consumer) s

end Sys2Proof.Machine
end

