-- ==== Sys2Proof/Machine/Units.lean ====
section
/-! DEFINITION. What power levels, sleep, starts, safe state and unit records do to the units of the module (R35, R54, R117, R118, R455, Table 18.4, Table 3.1). -/
namespace Sys2Proof.Machine

/-! ### Descriptors that end with a transition (R54, R455) -/

/-- Every solve ends (R345, R455). -/
def State.truStopAll (s : State) (status fault : Nat) : State := s.truEnd status fault

/-- Every push ends (R420, R455). -/
def State.pushesEnd (s : State) (status fault : Nat) : State := s.ihx.pushes.foldl (fun s p => s.endPush p status fault) s

/-- Every push ends, and every host barrier that waits. -/
def State.ihxStopAll (s : State) (status fault : Nat) : State :=
  let s := s.pushesEnd status fault
  let ws := s.fwh.hostWaits
  ws.foldl (fun s h => s.complete h.qp h.d status fault) { s with fwh := { s.fwh with hostWaits := [] } }

/-- Every TIMED_SEND in a launch queue ends. -/
def State.launchStopAll (s : State) (status fault : Nat) : State := s.launchesEnd status fault

/-- The pending INTAKE of a context ends; the program in effect is kept (R54, R116, R151). -/
def State.endIntake (s : State) (n status : Nat) : State :=
  let c := s.ctx n
  match c.pend with
  | some (qp, d, _) => (s.setCtx n { c with pend := none }).complete qp d status
  | none => s

/-- Descriptors that wait on an event that a sleep or Off prevents complete POWER_STOP: commits, pending intakes, test RUNs that wait, steps back (R54). -/
def State.waitersStop (s : State) : State :=
  let s := s.stopCommits St.POWER_STOP 0
  let s := (List.range 24).foldl (fun s n => s.endIntake n St.POWER_STOP) s
  let running := s.fxg.iter.any fun i => i.test
  let ts := if running then s.fxg.tests.drop 1 else s.fxg.tests
  let s := { s with fxg := { s.fxg with tests := if running then s.fxg.tests.take 1 else [] } }
  let s := ts.foldl (fun s t => s.complete t.1 t.2 St.POWER_STOP) s
  let bs := s.tb.back
  bs.foldl (fun s b => s.complete b.1 b.2 St.POWER_STOP) { s with tb := { s.tb with back := [] } }

/-- The compare lists are cleared (R53, R455). -/
def State.cmpClearAll (s : State) : State := s.cmpClearEvery

/-- Does any compare list hold entries? (R53) -/
def State.cmpPending (s : State) : Bool := (List.range 4).any fun n => !(s.chan n).entries.isEmpty

/-- Is an enabled encoder channel not at standstill? (R53) -/
def State.channelsMoving (s : State) : Bool := (List.range 4).any fun n => s.encMode n != 0 && decide ((s.chan n).st ≠ .standstill)

/-- Every ACT and TRG output is de-energised (R63, R455). -/
def State.outputsOff (s : State) : State := s.outsOff

/-! ### Power levels (Table 2.4, Table 5.3) -/

/-- The serial ports stop: what was being received is lost, and the next frame waits for an idle gap (section 17.8). -/
def State.serStop (s : State) : State :=
  { s with ser := s.ser.foldl (fun (t : Tbl SerPort) (n, p) => t.put (fun _ => {}) n { p with frame := none, skip := true, resync := false, framing := false }) [] }

/-- Did the start that brought the module up skip a step? (Table 3.1) -/
def State.stepSkipped (s : State) (n : Nat) : Bool := s.start.skipped.contains n

/-- Compute returns, after PL4 or Doze: the cache comes back empty, if it is in service at all (R266, R271). -/
def State.cacheBack (s : State) : State := if s.stepSkipped 12 || s.brk.outRegions.contains (12, 0) then s else s.cacheOn

/-- What a level's entry does (Table 2.4): PL1 stops Freewheel, PL2 line-scan capture and Truing, PL3 all sensors but one, PL4 compute and the cache (R271). -/
def State.levelEntered (s : State) (k : Nat) : State :=
  let s :=
    if k = 1 then (s.refuseCommits).fwhStopAll St.POWER_STOP 0
    else if k = 2 then s.truEnd St.POWER_STOP 0
    else if k = 4 then
      let s := if s.iterationRunning then s.raise Cause.ITERATION_ABANDONED else s
      let s := (s.fxgAbandon St.POWER_STOP 0).pushesEnd St.POWER_STOP 0
      { s.serStop.frontEndsOff.cacheOff with brk := { s.brk with warnA := false, warnB := false } }
    else s
  s.levelCtxs k

/-- What leaving a level downwards does: contexts that the next lower level allows return (R118), and the cache with compute (R271). -/
def State.levelLeft (s : State) (k : Nat) : State := (if k = 4 then s.cacheBack else s).levelCtxs (k - 1)

/-! ### Starts, sleep and wake -/

/-- What survives in an engine: cells, sums, counts and metadata; what was being programmed is left PROGRAMMING (R192), and everything else begins anew. -/
def Engine.reset (x : Engine) : Engine :=
  { x with
    arrs := x.arrs.foldl (fun t (m, a) => t.put (fun _ => {}) m { a with mvms := 0, resid := [], acc := [], suspect := false }) []
    prog := [], move := none, gated := true, residCount := 0, product := none }

/-- The units lose power (R62): what the spec keeps in non-volatile memory stays, the records of what the module has output stay, and on a wake from Hold the generators and the
live pipeline tables. -/
def State.unitsReset (s : State) : State :=
  let hold := decide (s.sup.power = .hold)
  { s.tbStop with
    cams := { (({} : Cams)) with
      tables := if hold then s.cams.tables else []
      cxp := s.cams.cxp.foldl (fun t (k, c) => t.put (fun _ => {}) k { (({} : CxpCam)) with packets := c.packets }) []
      sensors := s.cams.sensors.foldl (fun t (k, x) => t.put (fun _ => {}) k { (({} : Sensor)) with sent := x.sent }) [] }
    engs := s.engs.foldl (fun t (e, x) => t.put (fun _ => {}) e x.reset) []
    progs := [], mem := {}, fxg := {}, fwh := {}
    tru := { (({} : Tru)) with copyA := s.tru.copyA, copyB := s.tru.copyB }
    spk := { (({} : Spk)) with edges := s.spk.edges, store := s.spk.store, storeOk := s.spk.storeOk, gens := if hold then s.spk.gens else [] }
    sw := { (({} : Sw)) with sent := s.sw.sent }
    ihx := {}, ser := [] }

/-- The fast domain loses power. -/
def State.unitsOff (s : State) : State := s.unitsReset

/-- The contexts as a sleep leaves them (R117): open ones WAITING, with binding, sequence, program and recorded format, which holds until close
(R123, R128; DEDUCED, log entry 164); what they captured is gone. -/
def State.sleepCtxs (s : State) : State :=
  (List.range 24).foldl (fun s n =>
    let c := s.ctx n
    let s := s.dropCapture n
    s.setCtx n { s.ctx n with state := if c.state = .free then .free else .waiting, ready := [], closing := none, front := [] }) s

/-- The module goes to sleep: positions are stored, generators stop, frames, tiles, iterations, learned switch entries and queues are gone, and the time base runs on the
Sprout clock alone (R356, R371, R378, R405). -/
def State.enterSleepUnits (s : State) (_hold : Bool) : State :=
  let s := (s.storePositions).sleepCtxs
  let s := (List.range 4).foldl State.stopGens s
  let t := s.tb
  let s := s.frontEndsOff.cacheOff.tbStop.fset Fld.SW_STATUS_LINK_UP 0
  { s with
    mem := { s.mem with waiting := [], aboard := [], claims := [], blocks := [], reads := [] }
    tb := { s.tb with ptpOn := t.ptpOn, ppsOn := t.ppsOn }
    fxg := { s.fxg with iter := none, regions := [], cadence := [], tests := [], testTurn := false }
    sw := { (({} : Sw)) with sent := s.sw.sent }
    ihx := {}, ser := [] }

/-- The stream contexts that the snapshot holds: binding, sequence and program (R70). -/
def State.snapshotCtxs (s : State) : Tbl Ctx :=
  ((s.sleepCtxs).cams.ctxs).foldl (fun t (n, c) => t.put (fun _ => {}) n { c with slots := [], nextSlot := 0, fsAt := 0, fsGap := 0 }) []

/-- Restore them (R70, R117). -/
def State.restoreCtxs (s : State) (c : Tbl Ctx) : State := ({ s with cams := { s.cams with ctxs := c } }).fsFresh

/-- A queue pair as the snapshot holds it: heads, tails and phase (R70). A hold ends with the next start (Table 18.4); a pair that is not ACTIVE is DISABLED, and what was fetched
or waited for a CQ entry is gone (DESIGN CHOICE, log entry 162). -/
def Qp.slept (q : Qp) : Qp :=
  { q with inflight := [], waiting := [], held := false, cause := 0, stallRaised := false, state := if q.state = .active then .active else .disabled }

/-- The queue pairs that the snapshot holds: rings, heads, tails, phases (R70). -/
def State.snapshotQps (s : State) : Tbl Qp := s.qps.foldl (fun t (n, q) => t.put (fun _ => {}) n q.slept) []

/-- The bits of a register word that the snapshot holds: its RW, LCK, ST and WO1 fields (R70). -/
def snapshotMask (off : Nat) : Nat :=
  match findReg off with
  | none => 0
  | some h =>
    let m := h.spec.fields.foldl (fun m f =>
      if f.access != .ro && f.access != .w1c then setBits m f.hi f.lo (2 ^ (f.hi + 1 - f.lo) - 1) else m) 0
    if h.high then m / 2 ^ 32 else m % 2 ^ 32

/-- The register words that the snapshot holds. -/
def State.snapshotRegs (s : State) : Tbl Word :=
  s.regs.foldl (fun t (o, v) => if snapshotMask o = 0 then t else t ++ [(o, v &&& BitVec.ofNat 32 (snapshotMask o))]) []

/-- The units of a wake from Doze resume (R117, R357, R378): positions from the store, or 0 with POS_STORE_INVALID; `phases` gives ENC0's fine phase. -/
def State.wakeUnits (s : State) (phases : List (Nat × Nat)) : State :=
  let fine := ((phases.find? fun p => p.1 == 0).map (·.2)).getD 0
  let s := s.fsFresh
  let s := if s.spk.storeOk then s.wakeChans fine else (s.raise Cause.POS_STORE_INVALID).zeroChans
  (if s.sup.level < 4 then s.cacheBack else s).st10 (if s.tb.ptpOn then 0 else if s.tb.ppsOn then 1 else 2)

/-- The settings of every sensor as the module becomes operational are those in effect (R147). -/
def State.sensorsBegin (s : State) : State :=
  (List.range 8).foldl (fun s k =>
    let w := s.slotWords k
    let m := s.slotMask k
    s.setSensor k { s.sensor k with
      queue := [], late := false, unknown := false, curEpoch := s.hif.epoch, curWords := w, curMask := m, seenWords := w, seenMask := m }) s

/-- The module becomes operational: what skipped steps leave, the gate lists and the generators as their registers set them, and the arrays in use. -/
def State.unitsOperational (s : State) : State :=
  let s := if s.tb.running then s else s.st10 2
  let s := if s.stepSkipped 17 then s.st17 2 else s
  let s := if s.stepSkipped 12 then s.cacheOff else s.cacheOn
  let s := if s.stepSkipped 16 then { s with fwh := { s.fwh with skipped := true } } else s
  (((s.sensorsBegin.gatesCommitted 0).gatesCommitted 1).genCommits).rebind

/-! ### Start steps (Table 3.1) -/

/-- The image that a start step reads from a flash slot: what the slot holds, or what the step's input says it reads. -/
def State.slotImage (s : State) (fixed alt : Bool) (x : StepInput) : List Byte :=
  let p := s.slotPref fixed
  x.slot.getD (s.flash.get (fun _ => []) (slotIndex fixed (if alt then 1 - p else p)))

/-- The check of a slot's image at ST15 or ST16: 0 stands for weight images that differ from the arrays, which only the alternate action repairs (R192, Table 3.1). -/
def State.slotFault (s : State) (fixed alt : Bool) (x : StepInput) : Option (Nat × Nat) :=
  let b := s.slotImage fixed alt x
  let c := if fixed then Image.checkFixed b { s.imageEnv (Image.length b) true [] with layout := none }
    else Image.checkFree b (s.imageEnv (Image.length b) true (if s.fxg.image.isEmpty then [] else [Image.mask s.fxg.image]))
  match c with
  | some f => some f
  | none => if !alt && !(s.lacking b).isEmpty then some (0, 0) else none

/-- What makes a start step fail by the module's own state: the cause (0 for none that the spec names) and the check row. -/
def State.stepFault (s : State) (n : Nat) (x : StepInput) : Option (Nat × Nat) :=
  let alt := s.start.alternate
  if n = 15 then s.slotFault true alt x
  else if n = 16 then s.slotFault false alt x
  else if n = 17 ∧ !alt then
    if (s.tru.copyA.valid && !bitOn x.damage.toNat 7) || (s.tru.copyB.valid && !bitOn x.damage.toNat 8) then none else some (0, 0)
  else if n = 19 ∧ !alt then if s.spk.storeOk && !bitOn x.damage.toNat 6 then none else some (Cause.POS_STORE_INVALID, 0)
  else none

/-- The alternate of ST15 or ST16 reprograms an array whose weight image differs (R189, R191). -/
def State.reprogram (s : State) (b p : List Byte) : State :=
  let e := Image.pEngine p
  let m := Image.pArray p
  let k := (s.eng e).backing m
  let s := s.erase e k
  let x := s.eng e
  let x := x.setPhy k ((x.phy k).programmed (Image.weightAt b p))
  s.setEng e (x.setArr m { x.arr m with state := .loaded, crc := Image.pCrc p })

/-- A slot's image is loaded and accepted (Table 3.1, R192, R256, R278, R297). -/
def State.loadSlot (s : State) (fixed : Bool) (x : StepInput) : State :=
  let alt := s.start.alternate
  let b := s.slotImage fixed alt x
  let s := if alt then ((s.lacking b).foldl (fun s p => s.reprogram b p) s).preferSlot fixed (1 - s.slotPref fixed) else s
  let s := if fixed then
      ({ s with mem := { s.mem with layout := Image.layout b }, fxg := { s.fxg with image := b } }).setTables 0
    else { s with fwh := { s.fwh with image := b, skipped := false } }
  s.rebind

/-- What a passed start step does in its unit. The slot frames count from the end of ST02, which starts the clocks, and the first scrub from the end of ST06 (DESIGN CHOICE, log entry 187). -/
def State.unitStep (s : State) (n : Nat) (x : StepInput) : State :=
  let alt := s.start.alternate
  if n = 2 then { s with mem := { s.mem with frameAt := s.now } }
  else if n = 6 then { s with mem := { s.mem with scrubs := (List.range 8).map fun c => (c, { since := s.now }) } }
  else if n = 8 then { s with hif := { s.hif with linkCap3 := alt } }
  else if n = 9 then if alt then (s.fset (Fld.SW_Pp_CFG_ENABLE 4) 0).fset (Fld.SW_Pp_CFG_ENABLE 5) 0 else s
  else if n = 10 then s.st10 (if alt then 1 else 0)
  else if n = 12 then s.cacheOn
  else if n = 14 then
    let img := fun (f : Bool) => s.flash.get (fun _ => []) (slotIndex f (s.slotPref f))
    (List.range 16).foldl (fun s e => s.st14 (if !(img true).isEmpty && bitOn (Image.mask (img true)) e then img true else img false) e (!x.badSpares.any fun b => b.val == e)) s
  else if n = 15 then s.loadSlot true x
  else if n = 16 then s.loadSlot false x
  else if n = 17 then
    let t := s.tru
    let s := { s with tru := { t with
      copyA := { t.copyA with valid := t.copyA.valid && !bitOn x.damage.toNat 7 }
      copyB := { t.copyB with valid := t.copyB.valid && !bitOn x.damage.toNat 8 } } }
    s.st17 (if alt then 1 else 0)
  else if n = 18 then { s with cams := { s.cams with alt } }
  else if n = 19 then if alt then s.zeroChans else if s.start.holdWake then s.wakeChans x.phase.toNat else s.startChans
  else if n = 21 then s.st21 x.test
  else s

/-! ### Unit records (Table 18.4) -/

/-- A region is out of service until the next start. -/
def State.outOfService (s : State) (kind region : Nat) : State :=
  if s.brk.outRegions.contains (kind, region) then s else { s with brk := { s.brk with outRegions := s.brk.outRegions ++ [(kind, region)] } }

/-- A context is made FREE: what waits on it ends ABORTED, and a STREAM_CLOSE that waits completes. -/
def State.freeCtx (s : State) (n : Nat) : State :=
  let s := (s.endIntake n St.ABORTED).abortCommits n
  let c := s.ctx n
  let s := s.setCtx n { (({} : Ctx)) with nextSeq := c.nextSeq, progNo := c.progNo, slots := c.slots, nextSlot := c.nextSlot }
  match c.closing with
  | some (qp, d) => s.complete qp d St.OK 0 (if c.nextSeq = 1 then 0 else sampleId n (c.nextSeq - 1))
  | none => s

/-- A pair is held in ERROR until the next start. -/
def State.holdPair (s : State) (n code : Nat) : State :=
  s.setQp n { s.qp n with state := .error, held := true, cause := bits code 5 0, waiting := [] }

/-- An engine goes out of service: a Fixed-gear engine takes its half with it, a Freewheel engine's tasks are torn down. -/
def State.engineOut (s : State) (e : Nat) : State :=
  let s := s.outOfService 4 e
  if s.isFixed e then s.outOfService 5 (e / 8)
  else match s.runOn e with
    | some r => s.tearDown r.ctx none
    | none => s

/-- The unit action of a record in a region (Table 18.4). -/
def State.unitAction (s : State) (kind region code : Nat) : State :=
  if kind = 1 then s.holdPair region code
  else if kind = 2 ∨ kind = 13 then (s.freeCtx region).outOfService 2 region
  else if kind = 3 then
    let e := region / 256
    let m := region % 256
    let s := s.setArr e m { s.arr e m with pendRetire := true }
    if s.fget (Fld.ENG_n_CFG_RETIRE_NOW_EN e) = 1 ∧ s.retireRefused e m = none ∧ (s.eng e).spare = .free ∧ (s.eng e).retiring = none then s.retireStart e m none else s
  else if kind = 4 then s.engineOut region
  else if kind = 5 ∨ kind = 6 ∨ kind = 7 then s.outOfService kind region
  else if kind = 8 then
    let c := s.chan region
    let s := (s.cmpDrops region c.entries.length).stopGens region
    let s := if c.entries.isEmpty then s else s.raise Cause.CMP_DISCARDED
    ((s.setChan region { c with fault := true, speed := 0, st := .standstill, entries := [] }).endCounts region).outOfService 8 region
  else if kind = 9 then (s.outOff region).outOfService 9 region
  else if kind = 10 then ((List.range 8).foldl State.outOff s).outOfService 10 0
  else if kind = 11 then ((s.foldStem).fxgHalt).outOfService 11 0
  else if kind = 12 then s.cacheOff.outOfService 12 0
  else s

/-- An engine has been idle for 1 µs: it is gated, unless it has a task or a Fixed-gear iteration runs on its mask (R50). -/
def State.gateEngine (s : State) (n : Nat) : State :=
  if s.sup.power ≠ .active ∨ (s.iterationRunning = true ∧ s.isFixed n = true) ∨ (s.runOn n).isSome then s
  else s.setEng n { s.eng n with gated := true }

end Sys2Proof.Machine
end

