-- ==== Sys2Proof/Machine/Levels.lean ====
section
/-! DEFINITION. Power levels (section 2.2): thresholds, triggers, the effective level and its changes, PL5 and Off. -/
namespace Sys2Proof.Machine

/-- The voltage triggers of Table 2.2. -/
abbrev VTrig := Fin 5

/-- Un in units of 10 mV by strap code (Table 2.1). -/
def unOf (strap : Nat) : Nat :=
  [2400, 3600, 4800, 7200, 9600, 11000].getD strap 0

/-- V_in lies in the band V_OK, 0.75 Un to 1.20 Un (R30). -/
def vOkOf (strap vin : Nat) : Bool := decide (75 * unOf strap ≤ 100 * vin) && decide (100 * vin ≤ 120 * unOf strap)

/-- V_in is inside V_OK. -/
def State.vOk (s : State) : Bool := vOkOf s.sup.strap s.sup.vin

/-- The threshold of a voltage trigger, in 0.01 Un: V_LOW1, V_LOW2, V_INT, V_HIGH1, V_HIGH2 (Table 2.2). -/
def vThreshold (t : VTrig) : Nat := [70, 65, 57, 127, 145].getD t 0

/-- V_in has come back past the threshold by 0.02 Un (R33). -/
def vRecovered (strap vin : Nat) (t : VTrig) : Bool :=
  if t.val < 3 then decide ((vThreshold t + 2) * unOf strap ≤ 100 * vin)
  else decide (100 * vin ≤ (vThreshold t - 2) * unOf strap)

/-- The condition of a voltage trigger holds (Table 2.2). -/
def vHolds (strap vin : Nat) (t : VTrig) : Bool :=
  if t.val < 3 then decide (100 * vin < vThreshold t * unOf strap) else decide (vThreshold t * unOf strap < 100 * vin)

/-- The dwell of a voltage trigger in ns (Table 2.2). -/
def vDwell (t : VTrig) : Nat := [150000000, 500000000, 20000, 1200000000, 10000].getD t 0

/-- The level that the energy triggers demand at bank energy `e` mJ (Table 2.3). -/
def energyDemand (e : Nat) : Nat :=
  if e < 100 then 5 else if e < 200 then 4 else if e < 450 then 3 else if e < 550 then 2 else if e < 700 then 1 else 0

/-- The highest level demanded by an active trigger (R32). -/
def Supply.demand (p : Supply) : Nat :=
  max (energyDemand p.eNow) (if p.vLow2 then 3 else if p.vLow1 then 1 else 0)

/-- The restore energy E_R in µJ: 1.45 J, or 0.95 × E_FULL when that is lower (R30). -/
def restoreEnergy (eFull : Nat) : Nat := min 1450000 (950 * eFull)

/-- The bank holds at least E_R (R30). -/
def Supply.restorable (p : Supply) : Bool := decide (restoreEnergy p.eFull ≤ 1000 * p.eNow)

/-- The input stage is disconnected, and the bank carries the load (Table 2.2). -/
def Supply.onBank (p : Supply) : Bool := p.vInt || p.vHigh1 || p.vHigh2

/-- Is a voltage trigger active? -/
def Supply.trig (p : Supply) (t : VTrig) : Bool :=
  match t.val with
  | 0 => p.vLow1
  | 1 => p.vLow2
  | 2 => p.vInt
  | 3 => p.vHigh1
  | _ => p.vHigh2

/-- Set the active flag of a voltage trigger. -/
def Supply.setTrig (p : Supply) (t : VTrig) (b : Bool) : Supply :=
  match t.val with
  | 0 => { p with vLow1 := b }
  | 1 => { p with vLow2 := b }
  | 2 => { p with vInt := b }
  | 3 => { p with vHigh1 := b }
  | _ => { p with vHigh2 := b }

/-- When the dwell count of a voltage trigger began; none when it does not run. -/
def Supply.count (p : Supply) (t : VTrig) : Option Nat := p.dwell.get (fun _ => none) t

/-- Set or clear a dwell count. -/
def Supply.setCount (p : Supply) (t : VTrig) (c : Option Nat) : Supply := { p with dwell := p.dwell.put (fun _ => none) t c }

/-- One trigger sees a sample of V_in (R33): 0.02 Un past the threshold clears its count and makes it inactive; its condition starts a count that does not run. -/
def Supply.seeOne (p : Supply) (now vin : Nat) (t : VTrig) : Supply :=
  if vRecovered p.strap vin t then (p.setTrig t false).setCount t none
  else if vHolds p.strap vin t && (p.count t).isNone then p.setCount t (some now) else p

/-- Since when V_in and E have been good (R30, R38). -/
def Supply.spells (p : Supply) (now : Nat) : Supply :=
  let ok := vOkOf p.strap p.vin
  { p with vOkSince := if ok then some (p.vOkSince.getD now) else none
           goodSince := if ok && p.restorable then some (p.goodSince.getD now) else none }

/-- The supply monitor samples V_in (R33, R43). -/
def Supply.see (p : Supply) (now vin : Nat) : Supply :=
  ((([0, 1, 2, 3, 4] : List VTrig).foldl (fun (p : Supply) t => p.seeOne now vin t) { p with vin }).spells now)

/-- PL5 is entered: ORDERLY_OFF is raised and journalled, SAFE_OK stops, and the flush runs to Off (R37, R39, R40); what starts, sleeps or wakes ends there. -/
def State.enterPl5 (s : State) : State :=
  if s.sup.flushing || decide (s.sup.power = .off) then s else
    let s := s.jrnWrite 6 (leBytes 2 s.sup.vin ++ leBytes 2 s.sup.eNow)
    let s := s.raise Cause.ORDERLY_OFF
    { s with
      sup := { s.sup with flushing := true, request := none, queued := [], sleepTarget := none, waking := false }
      start := { s.start with stepOpen := false, fastOff := false, supplyLost := true }
      brk := { s.brk with safeOkA := false, safeOkB := false, wdogOn := false } }

/-- The level actions of every level from `k + 1` up to `k + n`, in order (R35). -/
def State.shedFrom (s : State) (k : Nat) : Nat → State
  | 0 => s
  | n + 1 => ((s.levelEntered (k + 1)).shedFrom (k + 1) n)

/-- The effective level rises to `k` at once (R35, R40). -/
def State.shedTo (s : State) (k : Nat) : State :=
  let old := s.sup.level
  let s := { s with sup := { s.sup with level := k } }
  let s := ((s.raise Cause.LEVEL_SHED).bump Fld.PWR_EVENTS_SHEDS).msix 65
  let s := (s.shedFrom old (min k 4 - old)).applyPlan
  if k = 5 then s.enterPl5 else s

/-- The effective level falls one step at a time down to `k` (R38, R55); each step is a change of level (R40). -/
def State.restoreTo (s : State) (k : Nat) : Nat → State
  | 0 => s
  | n + 1 =>
    if s.sup.level ≤ k then s else
      let old := s.sup.level
      let s := { s with sup := { s.sup with level := old - 1 } }
      let s := ((s.raise Cause.LEVEL_RESTORED).msix 65).levelLeft old
      (s.applyPlan).restoreTo k n

/-- Bring the effective level to the higher-numbered of the supply level and the host cap (R32); outside Ready and Active it stands until the start or the wake ends (Table 2.7). -/
def State.setLevels (s : State) : State :=
  let k := max s.sup.supplyLevel s.sup.hostCap
  if !s.levelsAct then s
  else if s.sup.level < k then s.shedTo k
  else s.restoreTo k 6

/-- A wake from Doze ends at the level that supply and cap now allow (R46): one change of level against the level before the sleep, with its one notice (R40). -/
def State.wakeLevel (s : State) : State :=
  let k := max s.sup.supplyLevel s.sup.hostCap
  let old := s.sup.level
  let s :=
    if old < k then s.shedTo k
    else if k < old then
      let s := ({ s with sup := { s.sup with level := k } }).raise Cause.LEVEL_RESTORED
      ((List.range (old - k)).foldl (fun s i => s.levelLeft (old - i)) (s.msix 65)).applyPlan
    else s
  s.levelCtxs k

/-- A trigger may raise the supply level at once (R32, R34); it never lowers it (R38). -/
def State.supplyDemand (s : State) : State :=
  let k := max s.sup.supplyLevel s.sup.demand
  let s := { s with sup := { s.sup with supplyLevel := k, levelAt := if k = s.sup.supplyLevel then s.sup.levelAt else s.now } }
  let s := if decide (s.sup.power = .off) || s.sup.flushing then s else s.setLevels
  if k = 5 then s.enterPl5 else s

/-- A voltage trigger becomes active (Table 2.2). -/
def State.trigActive (s : State) (t : VTrig) : State :=
  let s := { s with sup := s.sup.setTrig t true, start := { s.start with supplyLost := s.start.supplyLost || t == 2 } }
  let s := if t.val = 2 then (s.raise Cause.INPUT_INTERRUPTED).bump Fld.PWR_EVENTS_INTERRUPTIONS
    else if 3 ≤ t.val then s.raise Cause.INPUT_OVERVOLTAGE else s
  s.supplyDemand

/-- An inactive voltage trigger's count has reached its dwell (R33). -/
def State.trigRipe (s : State) (t : VTrig) : Bool :=
  !s.sup.trig t && (s.sup.count t).any fun c => decide (c + vDwell t ≤ s.now)

/-- Every voltage trigger whose count has reached its dwell becomes active (R33, R43). -/
def State.trigDue (s : State) : State :=
  if s.sup.power = .off then s else
    ([0, 1, 2, 3, 4] : List VTrig).foldl (fun (s : State) t => if s.trigRipe t then s.trigActive t else s) s

/-- The supply monitor samples V_in; what has come due until then becomes active first. -/
def State.sampleVin (s : State) (vin : Nat) : State :=
  let s := s.trigDue
  { s with sup := s.sup.see s.now vin }

end Sys2Proof.Machine
end

