-- ==== Sys2Proof/Machine/StartOps.lean ====
section
/-! DEFINITION. The start sequence: step histories, attempts, Maintenance state, becoming operational;
safe state; and how records act on the module (chapters 3 and 18). -/
namespace Sys2Proof.Machine

/-! ### Step histories (R64, R74, R75) -/

/-- Write the history entry of step `n`: the copy with the lower generation, one above the other (R74); ST01's goes to the
retention area. Nothing else is written while the journal is unusable (R61). -/
def Journal.setEntry (j : Journal) (n : Nat) (e : StepHist) : Journal :=
  if n = 1 then { j with st01 := e, retOk := true }
  else if j.failed then j
  else
    let t := j.history.entries.put (fun _ => {}) n e
    if j.uses1 then { j with hist0 := ⟨true, j.hist1.generation + 1, t⟩ }
    else { j with hist1 := ⟨true, j.hist0.generation + 1, t⟩ }

/-- Steps that may be skipped (Table 3.1). -/
def skippable (n : Nat) : Bool := [7, 10, 12, 16, 17, 18].contains n

/-- Steps that have an alternate action (Table 3.1). -/
def hasAlternate (n : Nat) : Bool := [1, 2, 4, 5, 6, 7, 8, 9, 10, 15, 16, 17, 18, 19].contains n

/-- Steps that a wake from Hold omits (R68). -/
def holdOmits (n : Nat) : Bool := [3, 7, 12, 13].contains n

/-- Steps that the bring-up of Maintenance state runs (R71). -/
def maintenanceSteps : List Nat := [1, 2, 4, 5, 8, 9]

/-! ### Phase, records of a start -/

/-- SYS_START_STATUS.PHASE changes: vector 68 fires (R100). -/
def State.setPhase (s : State) (p : Phase) : State :=
  if s.start.phase = p then s else ({ s with start := { s.start with phase := p } }).msix 68

/-- Raise STEP_FAILED, STEP_ALTERNATE or STEP_SKIPPED: DETAIL byte 24 is the step (Table 18.5). -/
def State.raiseStep (s : State) (code n : Nat) : State := s.raise code n

/-- A STEP_RESULT record (Table 3.7). -/
def State.stepResult (s : State) (n action outcome code durUs detail : Nat) : State :=
  s.jrnWrite 3 (leBytes 1 n ++ leBytes 1 action ++ leBytes 1 outcome ++ leBytes 1 0 ++ leBytes 2 code ++ leBytes 2 0 ++
    leBytes 4 durUs ++ leBytes 4 detail)

/-- START_END: 0 operational or 1 Maintenance, with the duration of the start in ms (Table 3.7). -/
def State.startEnd (s : State) (what : Nat) : State :=
  s.jrnWrite 4 (leBytes 4 what ++ leBytes 4 ((s.now - s.start.began + s.start.before) / 1000000))

/-- The fast domain loses power: every pair and the link are gone, the units stop, the outputs are held (R62, R63). -/
def State.fastDomainOff (s : State) : State :=
  let s := (s.unitsOff).outputsOff
  { s with
    hif := { s.hif with linkUp := false, fetchStopped := false }
    brk := { s.brk with warnA := false, warnB := false, warnAvail := false, safeOkA := false, safeOkB := false,
                        wdogOn := false, testPulse := none, firstDecision := false }
    start := { s.start with stepOpen := false, passed := [], skipped := [], st19Passed := false, 
                            st21Passed := false } }

/-- The attempt or the wake that E4 meets is abandoned (R45, R65): a wake returns to the sleep state it left and is retried
under R49; an attempt of another start waits in the Sprout domain for R30. -/
def State.abandonStart (s : State) : State :=
  if s.sup.power = .doze then
    let s := { s with sup := { s.sup with waking := false, wakeLatched := some s.sup.wakeSrc } }
    s.raise Cause.WAKE_ABANDONED
  else if s.start.origin = 1 then
    let s := s.fastDomainOff
    let s := { s with sup := { s.sup with power := .hold, waking := false, wakeLatched := some s.sup.wakeSrc } }
    s.raise Cause.WAKE_ABANDONED
  else
    let s := s.fastDomainOff
    { s with sup := { s.sup with power := .sprout, abandoned := true }, start := { s.start with fastOff := false } }

/-- A start step begins with its primary or its alternate action (R61). -/
def State.openStep (s : State) (n : Nat) (alt : Bool) : State :=
  let s := s.jrnWrite 2 (leBytes 1 n ++ leBytes 1 (if alt then 1 else 0))
  let s := { s with start := { s.start with step := n, alternate := alt, stepOpen := true, stepAt := s.now } }
  if alt then s.raiseStep Cause.STEP_ALTERNATE n else s

/-- What Maintenance state does not keep live goes down as it is entered through a HALTED step: every unit but the Sprout domain, the journal, the switch and QP0 (R71). -/
def State.maintenanceDown (s : State) : State :=
  let sw := s.sw
  let s := s.unitsReset
  { s with sw, start := { s.start with st19Passed := false, st21Passed := false, passed := s.start.passed.filter maintenanceSteps.contains } }

/-- The step after `n` begins; what no step precedes is ST01 (R59, R61, R64, R68). A SKIPPED step is passed over with
STEP_RESULT outcome 3; a HALTED one brings the module up in Maintenance state unless this start from Off still owes it
its fresh trial. In the bring-up of Maintenance state only the steps of R71 run, without those that are HALTED. -/
def State.beginStep (s : State) (n : Nat) : Nat → State
  | 0 => s
  | fuel + 1 =>
    if s.start.bringUp then
      if 22 < n then { s with start := { s.start with stepOpen := false } }
      else if !maintenanceSteps.contains n || s.start.passed.contains n ||
          decide ((s.jrn.entry n).state = .halted) then s.beginStep (n + 1) fuel
      else
        s.openStep n (decide ((s.jrn.entry n).state = .retry) && hasAlternate n)
    else if s.start.holdWake && holdOmits n then
      -- R68: an omitted step that its history skips leaves its unit as a skipped step does (Table 3.1)
      (if (s.jrn.entry n).state = .skipped then { s with start := { s.start with skipped := n :: s.start.skipped } } else s).beginStep (n + 1) fuel
    else
      let h := s.jrn.entry n
      let fresh := s.start.fromOff && !s.start.freshTried.contains n
      match h.state with
      | .skipped =>
        let s := (s.stepResult n 0 3 0 0 0)
        let s := { s with
          jrn := s.jrn.setEntry n { h with outcome := 3 }
          start := { s.start with step := n, skipped := n :: s.start.skipped } }
        s.beginStep (n + 1) fuel
      | .halted =>
        if fresh then
          ({ s with start := { s.start with freshTried := n :: s.start.freshTried } }).openStep n false
        else
          -- R64, R71: Maintenance state; MAINTENANCE is raised as it is entered
          let s := { s.maintenanceDown with start := { s.maintenanceDown.start with bringUp := true, failedAttempts := 0 } }
          let s := ((s.setPhase .maintenance).raise Cause.MAINTENANCE).startEnd 1
          s.beginStep 1 fuel
      | st =>
        let s := s.openStep n (decide (st = .retry) && hasAlternate n)
        if n = 22 && !s.start.holdWake then s.setPhase .awaitGo else s

/-- Fuel that covers every step twice: the start steps and the bring-up of Maintenance state. -/
def stepFuel : Nat := 60

/-- Words that a wake from Hold keeps: the registers of the Sprout domain, and what SYS_LOCK_VIOLATIONS counts since the last cold start (Table 3.9). -/
def holdKeeps (o : Nat) : Bool :=
  o == Reg.PWR_CONFIG || decide (0x2000 ≤ o ∧ o < 0x3000) || o == Fld.SYS_LOCK_VIOLATIONS_COUNT.off || o == Fld.SYS_LOCK_LAST_OFFSET_OFFSET.off ||
    o == Fld.SYS_LOCK_LAST_VALUE_VALUE.off

/-- What keeps its value when the registers and the fast domain are reset for a new attempt: time, supply, journal,
flash and every store that the spec calls non-volatile (R62, R70). SYS_LOCK_VIOLATIONS counts since the last cold
start, and every other register returns to its reset value; SPR_WAKE_CAUSE keeps its bits (R64), and on a wake from Hold
the registers of the Sprout domain keep their values. The record queue is that of the start under way: an attempt of the same start keeps it, and a start from Off keeps what was
raised since Off was left (R31). -/
def State.resetForStart (s : State) (newStart keepSprout : Bool) : State :=
  let cause := s.word Reg.SPR_WAKE_CAUSE
  let seq := s.word Reg.BRK_NEXT_SEQ
  let counts := s.word Reg.BRK_COUNTS
  let handling := if decide (s.sup.power = .sprout) && !newStart then s.brk.handling else []
  let s := s.unitsReset
  let s := { s with
    regs := if keepSprout then s.regs.keep holdKeeps else []
    latches := [], holding := [], stWords := [], qps := []
    hif := { (({} : Hif)) with sent := s.hif.sent, hostWrites := s.hif.hostWrites, hostRead := s.hif.hostRead, perst := s.hif.perst }
    brk := { (({} : Brake)) with
      queue := if newStart then [] else s.brk.queue, handling
      actions := s.brk.actions, wdogLevel := s.brk.wdogLevel, safeSup := s.brk.safeSup } }
  let s := s.setWord Reg.SPR_WAKE_CAUSE cause
  if newStart then s else (s.setWord Reg.BRK_NEXT_SEQ seq).setWord Reg.BRK_COUNTS counts

/-- A new attempt begins at ST01: 0 start from Off, 1 Hold wake, 2 restart, 3 attempt after a failed step (Table 3.9).
START_COUNT counts starts, not attempts (Table 3.4). The time epoch begins at 0 after Off (R377). -/
def State.beginAttempt (s : State) (origin : Nat) : State :=
  let attempt := if origin = 3 then s.start.attempt + 1 else 1
  let failed := if origin = 0 then 0 else s.start.failedAttempts
  let cut := s.start.cut
  let fresh := if origin = 3 then s.start.freshTried else []
  let began := if origin = 3 then s.start.began else s.now
  let before := if origin = 3 then s.start.before else 0
  let fromOff := decide (origin = 0) || (decide (origin = 3) && s.start.fromOff)
  let s := s.resetForStart (decide (origin = 1 ∨ origin = 2)) (decide (origin = 1))
  let s := if origin = 3 then s
    else { s with jrn := s.jrn.setHeader (fun h => { h with startCount := h.startCount + 1 }) }
  let s := { s with
    sup := { s.sup with power := .starting, plan := 0, budget := 96, planPending := false, abandoned := false, request := none, queued := [], sleepTarget := none }
    jrn := { s.jrn with reformatted := if origin = 3 then s.jrn.reformatted else false }
    tb := { s.tb with timeEpoch := if origin = 0 then 0 else s.tb.timeEpoch }
    start := { (({} : Start)) with
      phase := .starting, origin, attempt, holdWake := decide (origin = 1), failedAttempts := failed, cut
      fromOff, freshTried := fresh, began, before, supplyLost := s.sup.vInt } }
  let s := s.jrnWrite 1 (leBytes 1 origin ++ leBytes 1 attempt)
  s.beginStep 1 stepFuel

/-- A start from Off or from the Sprout domain sets SPR_WAKE_CAUSE.SUPPLY (Table 2.21). -/
def State.startFromOff (s : State) : State :=
  (s.fset Fld.SPR_WAKE_CAUSE_SUPPLY 1).beginAttempt 0

/-- The history after a failed step (Table 3.2). A fresh trial that fails leaves the step HALTED. -/
def StepHist.fail (h : StepHist) (n outcome cause startCount : Nat) : StepHist :=
  let (st, c) := match h.state with
    | .primary => (HistState.retry, 1)
    | .retry => (if skippable n then HistState.skipped else HistState.halted, 2)
    | .skipped => (HistState.skipped, h.consec)
    | .halted => (HistState.halted, h.consec)
  { state := st, consec := c, outcome, cause, failures := satAdd 32 h.failures 1, failStart := startCount % 2 ^ 32 }

/-- A step that has become HALTED has had its turn in this start: its fresh trial comes at the next start from Off (Table 3.2, 3.7). -/
def Start.tried (x : Start) (n : Nat) (h : StepHist) : Start :=
  if h.state = .halted then { x with freshTried := n :: x.freshTried } else x

/-- The time since the running step began, in µs. -/
def State.stepUs (s : State) : Nat := (s.now - s.start.stepAt) / 1000

/-- The running step fails (R62, R64): STEP_RESULT and the history are written, STEP_FAILED is raised, and the attempt ends
with the fast domain off for 100 ms; in the bring-up of Maintenance state the step is left out and the bring-up goes on. -/
def State.failStep (s : State) (outcome cause durUs detail : Nat) : State :=
  let n := s.start.step
  let h := s.jrn.entry n
  let h' := h.fail n outcome cause s.jrn.header.startCount
  let s := s.stepResult n (if s.start.alternate then 1 else 0) outcome cause durUs detail
  let s := { s with jrn := s.jrn.setEntry n h', start := ({ s.start with stepOpen := false }).tried n h' }
  let s := s.raiseStep Cause.STEP_FAILED n
  let s := if decide (h'.state = .skipped) && decide (h.state ≠ .skipped) then s.raiseStep Cause.STEP_SKIPPED n else s
  let s := if n = 1 && decide (h'.state = .halted) then
      let s := { s with jrn := { s.jrn with failed := true } }
      if h.state = .halted then s else s.raise Cause.JOURNAL_FAILED
    else s
  if s.start.bringUp then s.beginStep (n + 1) stepFuel
  else
    let s := s.fastDomainOff
    { s with start := { s.start with fastOff := true, failedAttempts := s.start.failedAttempts + 1 } }

/-- The fast domain is lost while a step runs. A cut that the journal does not explain ends the attempt without a STEP_RESULT, and the next attempt writes it; with V_INT
active, E4 or PL5 in this attempt the step has not failed, and the attempt is abandoned (R65). -/
def State.cutStep (s : State) : State :=
  let n := s.start.step
  let a := if s.start.alternate then 1 else 0
  if s.start.supplyLost then s.abandonStart else
  let s := s.fastDomainOff
  { s with start := { s.start with cut := some (n, a), fastOff := true, failedAttempts := s.start.failedAttempts + 1 } }

/-- Once ST01 has mounted the journal, the missing STEP_RESULT of a cut step is written with outcome 2 (R65). -/
def State.settleCut (s : State) : State :=
  match s.start.cut with
  | none => s
  | some (n, a) =>
    let h := s.jrn.entry n
    let h' := h.fail n 2 0 s.jrn.header.startCount
    let s := s.stepResult n a 2 0 0 0
    let s := { s with jrn := s.jrn.setEntry n h', start := ({ s.start with cut := none }).tried n h' }
    let s := s.raiseStep Cause.STEP_FAILED n
    if decide (h'.state = .skipped) && decide (h.state ≠ .skipped) then s.raiseStep Cause.STEP_SKIPPED n else s

/-- The module becomes operational (R69, R107): the epoch of a cold start is 0x0001; the level that supply and cap demand
takes effect (R65, R46). -/
def State.becomeOperational (s : State) (restored : Bool) : State :=
  let s := { s with
    hif := { s.hif with epoch := if restored then s.hif.epoch else 1 }
    sup := { s.sup with power := .active, level := 0 }
    start := { s.start with stepOpen := false, failedAttempts := 0 }
    brk := { s.brk with wdogSince := s.now, opAt := s.now, emitted := [], tests := [] } }
  let s := ((s.setPhase .operational).startEnd 0).msix 65
  let s := s.unitsOperational
  (s.applyPlan).setLevels

/-- START_LOOP: after 8 consecutive attempts that end in a failed step the module comes up in Maintenance state (R66). -/
def State.startLoop (s : State) : State :=
  let s := s.resetForStart false false
  let s := { s with
    sup := { s.sup with power := .starting }
    start := { s.start with fastOff := false, bringUp := true, failedAttempts := 0, phase := .starting, passed := [] } }
  let s := ((s.setPhase .maintenance).raise Cause.START_LOOP).startEnd 1
  s.beginStep 1 stepFuel

/-! ### Safe state (R446, R455, R456) -/

/-- The SAFE_CAUSE records that the journal holds with a TIME within 3,600 s before `now` (R457). -/
def Journal.recentSafe (j : Journal) (now : Nat) : Nat :=
  (j.ring.filter fun r => decide (r.type = 5) && r.crcOk && bitOn (rd r.payload 10 1) 4 &&
    decide (now ≤ rd r.payload 0 8 + 3600 * 10 ^ 9)).length

/-- Entry to safe state by a module-class record of `code` (R455): the safety lines and every output drop, the record is in
BRK_SAFE_CAUSE, compute stops, and the work under way completes FAULTED with the code. -/
def State.enterSafe (s : State) (code : Nat) : State :=
  let s := (s.fset Fld.BRK_SAFE_CAUSE_CODE code).setWord64 Reg.BRK_LAST_SAFE s.now
  let auto := s.fget Fld.BRK_CONFIG_AUTO_RESTART == 1 && decide (s.jrn.recentSafe s.now < 3)
  let s := { s with brk := { s.brk with
    warnA := false, warnB := false, warnAvail := false, safeOkA := false, safeOkB := false, wdogOn := false
    testPulse := none, shownTLast := none, restartPending := auto } }
  let s := s.outputsOff
  let s := s.fxgAbandon St.FAULTED code
  let s := s.fwhStopAll St.FAULTED code
  let s := s.truStopAll St.FAULTED code
  let s := s.ihxStopAll St.FAULTED code
  let s := s.launchStopAll St.FAULTED code
  let s := s.cmpClearAll
  s.setPhase .safe

/-- A module-class record acts: safe state while operational, failure of the running start step before that, nothing in
safe state, Maintenance state and PL5 (R446). -/
def State.moduleAction (s : State) (code : Nat) : State :=
  if s.sup.flushing then s
  else if s.operational then s.enterSafe code
  else if (decide (s.start.phase = .starting) || decide (s.start.phase = .awaitGo)) && s.start.stepOpen then
    s.failStep 1 code s.stepUs 0
  else s

/-- One action of a record (R436). -/
def State.act (s : State) : Action → State
  | .module code => s.moduleAction code
  | .unit kind region code => s.unitAction kind region code

/-- Let the records raised so far act; what they raise in turn acts in the next round. -/
def State.actRounds (s : State) : Nat → State
  | 0 => s
  | n + 1 =>
    if s.brk.actions.isEmpty then s else
      ((s.brk.actions.foldl State.act { s with brk := { s.brk with actions := [] } }).actRounds n)

end Sys2Proof.Machine
end

