-- ==== Sys2Proof/Machine/PowerOps.lean ====
section
/-! DEFINITION. POWER_REQUEST: what it checks and what it does (section 2.7). -/
namespace Sys2Proof.Machine

/-- The result of a POWER_REQUEST (Table 2.13). -/
def powerResult (state level supply cap reason : Nat) : Nat :=
  state + 256 * level + 256 ^ 2 * supply + 256 ^ 3 * cap + 256 ^ 4 * reason

/-! ### POWER_REQUEST (R52 to R57) -/

/-- TARGET codes of Table 2.12. -/
def targetOk (t : Nat) : Bool := t ≤ 4 || t == 7

/-- The state code of Table 2.13 while the module is operational. -/
def State.powerCode (s : State) : Nat := if s.sup.power = .ready then 3 else 4

/-- Complete a POWER_REQUEST in the state in which the module stays. -/
def State.powerReply (s : State) (n : Nat) (d : List Byte) (status state reason : Nat) : State :=
  s.complete n d status 0 (powerResult state s.sup.level s.sup.supplyLevel s.sup.hostCap reason)

/-- Set the host cap (R55). -/
def State.setCap (s : State) (cap : Nat) : State :=
  if cap = 0xF then s else ({ s with sup := { s.sup with hostCap := cap } }).setLevels

/-- The steps of R54 before a sleep or Off: fetching stops, Freewheel work and every descriptor that waits on an event that
the entry prevents completes POWER_STOP. -/
def State.prepareSleep (s : State) : State :=
  let s := { s with hif := { s.hif with fetchStopped := true } }
  let s := s.fwhStopAll St.POWER_STOP 0
  let s := s.truStopAll St.POWER_STOP 0
  let s := s.ihxStopAll St.POWER_STOP 0
  let s := s.launchStopAll St.POWER_STOP 0
  s.waitersStop

/-- POWER_REQUEST, once no other transition is in progress. -/
def State.powerRequest (s : State) (n : Nat) (d : List Byte) : State :=
  let t := rd d 8 1
  let cap := rd d 9 1
  let cur := s.powerCode
  let sleep := decide (t = 1 ∨ t = 2)
  if !targetOk t || !(decide (cap ≤ 4) || cap == 0xF) then s.powerReply n d St.REFUSED cur 5
  else if sleep && s.channelsMoving then s.powerReply n d St.REFUSED cur 1
  else if sleep && s.cmpPending && !bitOn (rd d 10 1) 0 then s.powerReply n d St.REFUSED cur 2
  else if t = 4 ∧ s.sup.power = .ready ∧ s.vOk = false then s.powerReply n d St.REFUSED cur 3
  else
    let s := s.setCap cap
    if t = 0 ∨ t = cur then s.powerReply n d St.OK cur 0
    else if t = 4 then
      let s := ({ s with sup := { s.sup with power := .active } }).msix 65
      s.powerReply n d St.OK 4 0
    else if t = 3 then { s with sup := { s.sup with request := some (n, d, .ready) } }
    else
      let s := s.prepareSleep
      let s := if sleep && bitOn (rd d 10 1) 0 then s.cmpClearAll else s
      { s with sup := { s.sup with
        wakeMask := bits (rd d 11 1) 4 0, timerS := rd d 12 4
        request := some (n, d, if t = 1 then .hold else if t = 2 then .doze else .off) } }

end Sys2Proof.Machine
end

