-- ==== Sys2Proof/Machine/Settle.lean ====
section
/-! DEFINITION. The end of every command: records act, and what waited on other work is done. -/
namespace Sys2Proof.Machine

/-! ### What waits on other work -/

/-- A FENCE completes when every descriptor fetched before it in its scope has completed (R98). -/
def State.settleFences (s : State) : List FenceWait → State
  | [] => s
  | f :: t =>
    let open' := (List.range 64).any fun n => (s.qp n).inflight.any fun x => f.ids.contains x.id
    if open' then s.settleFences t
    else
      let s := { s with hif := { s.hif with fences := s.hif.fences.filter (fun g => !(g.qp == f.qp && g.d == f.d)) } }
      (s.complete f.qp f.d St.OK 0 f.count).settleFences t

/-- A power-state request that was waiting takes its course: Ready once no Fixed-gear iteration runs; a sleep or Off once
every earlier descriptor, and any other whose work has begun, has completed and its own completion can be written as the last (R54, R45). -/
def State.settleRequest (s : State) : State :=
  match s.sup.request with
  | none => s
  | some (n, d, .ready) =>
    if s.iterationRunning then s else
      let s := ({ s with sup := { s.sup with power := .ready, request := none } }).msix 65
      s.complete n d St.OK 0 (powerResult 3 s.sup.level s.sup.supplyLevel s.sup.hostCap 0)
  | some (n, d, t) =>
    let s := s.prepareSleep
    let queued := s.sup.queued.map fun q => descNo q.2
    let others := (List.range 64).any fun m => (s.qp m).inflight.any fun x =>
      (x.started || decide (x.id < descNo d)) && !x.is d && !queued.contains x.id
    if others || ((s.qp n).state = .active && (s.cqFull n || !(s.qp n).waiting.isEmpty)) then s
    else
      let code := match t with | .hold => 1 | .doze => 2 | _ => 7
      let level := if t = .off then 5 else s.sup.level
      let s := s.complete n d St.OK 0 (powerResult code level s.sup.supplyLevel s.sup.hostCap 0)
      let s := { s with sup := { s.sup with request := none, sleepTarget := some t } }
      if t = .off then
        ({ s with sup := { s.sup with supplyLevel := 5, sleepTarget := none } }).setLevels
      else s

/-- A POWER_REQUEST that waited for a transition is carried out once that has finished (R56). -/
def State.settleQueued (s : State) : State :=
  match s.sup.queued with
  | [] => s
  | (n, d) :: t =>
    if s.sup.request.isNone && s.sup.sleepTarget.isNone && !s.sup.flushing && s.operational then
      ({ s with sup := { s.sup with queued := t } }).powerRequest n d
    else s

/-- Work that goes on by itself once a command has acted: voltage triggers whose dwell has passed, Freewheel runs, contexts that close, commits, the next solve, WARN_AVAIL, regions without a variant, held completions,
frames and Ihlex frames that can leave. -/
def State.goOn (s : State) : State :=
  let s := (s.trigDue.budgetDue).fwhAdvance
  let s := (List.range 24).foldl (fun s n => if (s.ctx n).closing.isSome then s.finishClose n else s) s
  let s := s.commitsAct
  let s := s.startSolve (s.tru.queue.length + 1)
  let s := (s.dropRegions).updateAvail
  let s := s.boundFlush (s.fwh.cplHeld.length + 1)
  (s.drainAll).pumpEvery

/-- In safe state and in Maintenance state SAFE_OK stays stopped and every WARN, ACT and TRG output de-energised (R71, R456). -/
def State.linesHeld (s : State) : State :=
  if s.start.phase = .safe ∨ s.start.phase = .maintenance then
    ({ s with brk := { s.brk with warnA := false, warnB := false, safeOkA := false, safeOkB := false } }).outsOff
  else s

/-- The end of every command: raised records act, what waited goes on, and the safety lines follow (R450). -/
def State.settle (s : State) : State :=
  let s := (s.actRounds 8).goOn
  let s := (s.actRounds 8).settleFences s.hif.fences
  (s.settleRequest.settleQueued).linesHeld.updateAvail

end Sys2Proof.Machine
end

