-- ==== Sys2Proof/WellFormed.lean ====
section
/-! DEFINITION. Well-formed commands: a descriptor command carries a descriptor of 64 bytes whose OPCODE byte is its own
(section 4.3, Table 4.8). -/
namespace Sys2Proof

/-- A descriptor of opcode `op`: 64 bytes, OPCODE at byte 0 (Table 4.5). -/
def isDescr (op : Nat) (d : List Byte) : Bool := d.length == 64 && Machine.rd d 0 1 == op

/-- A descriptor whose OPCODE is not in Table 4.8. -/
def isBadOpcode (d : List Byte) : Bool :=
  d.length == 64 && (Machine.rd d 0 1 == 0 || decide (0x12 < Machine.rd d 0 1))

/-- A well-formed command: a descriptor command carries a descriptor of its own opcode, BAD_OPCODE one whose opcode is reserved; every term of another
row is well formed. -/
def Instr.wellFormed : Instr → Bool
  | .registerWrite _ _ _ => true
  | .unalignedAccess _ _ => true
  | .reg64LowRead _ => true
  | .sysLockSet => true
  | .go => true
  | .restart => true
  | .jrnStepClear _ => true
  | .brkRestart => true
  | .llcCountClear _ => true
  | .qpEnable _ => true
  | .qpDisable _ => true
  | .startStep _ _ _ _ _ _ => true
  | .stepTimeout => true
  | .fastDomainRestart => true
  | .sqTailDoorbell _ _ _ _ => true
  | .cqHeadDoorbell _ _ => true
  | .descriptorFetch _ => true
  | .cqStall _ => true
  | .hostDmaError _ _ _ _ => true
  | .flr => true
  | .perstNAssert => true
  | .perstNRelease => true
  | .linkLost => true
  | .linkUp _ _ => true
  | .moderationTimer _ => true
  | .stageRegisterList _ d _ _ => isDescr 0x02 d
  | .fence _ d => isDescr 0x0B d
  | .readState _ d => isDescr 0x0C d
  | .readFaultQueue _ d => isDescr 0x0C d
  | .badOpcode _ d => isBadOpcode d
  | .powerRequest _ d => isDescr 0x0F d
  | .supplyStart _ _ _ _ => true
  | .voltageTrigger _ _ => true
  | .voltageTriggerClear _ _ => true
  | .energyTrigger _ => true
  | .levelRestore _ _ => true
  | .orderlyOffDone => true
  | .bankMeasurement _ => true
  | .crystalFail => true
  | .wake _ _ _ _ _ => true
  | .latchedWakeStart _ => true
  | .dozeToHold => true
  | .sleepEntry => true
  | .dozeWakeComplete _ => true
  | .wakeRelease => true
  | .engineGate _ => true
  | .selftest _ _ => true
  | .brkCrossCheck _ => true
  | .autoRestart => true
  | .warnHold => true
  | .obstacleInputLost _ => true
  | .warnReadback _ => true
  | .warnTestPulse _ => true
  | .safeOkReadback _ => true
  | .wdogEdge _ _ => true
  | .extWatchdog => true
  | .hubLockstep => true
  | .hubWatchdog => true
  | .clockFault => true
  | .railFault => true
  | .tempMonitor _ => true
  | .stemFault => true
  | .baseplateHot _ => true
  | .powerDerate _ _ => true
  | .sleepStrobe _ _ => true
  | .safeSupChange _ => true
  | .cxpControlRead _ => true
  | .cxpControlWrite _ => true
  | .ctlResponse _ _ => true
  | .ctlTimeout => true
  | .cxpLine _ _ _ _ _ _ _ => true
  | .triggerTimeout _ => true
  | .cxpLinkLoss _ _ _ => true
  | .cxpDiscovery _ _ _ => true
  | .cxpEventPacket _ => true
  | .csi2FrameStart _ _ _ _ _ _ _ _ _ => true
  | .csi2LongPacket _ _ _ _ _ _ => true
  | .csi2FrameEnd _ _ _ _ => true
  | .sensorLost _ => true
  | .apyLinkDown _ => true
  | .apyLinkUp _ _ => true
  | .sensorWriteAck _ => true
  | .sensorWriteFail _ => true
  | .decodeGap _ => true
  | .streamSilent _ => true
  | .decodedPicture _ _ _ _ _ _ _ _ => true
  | .streamOpen _ d => isDescr 0x05 d
  | .streamClose _ d => isDescr 0x06 d
  | .intake _ d _ => isDescr 0x07 d
  | .intakeProgramEffect _ => true
  | .sampleEmit _ => true
  | .ptpMessage _ _ _ => true
  | .ptpSyncTimeout => true
  | .ptpPortTimer _ => true
  | .ppsInEdge _ _ _ => true
  | .ppsInTimeout => true
  | .ppsOutSecond => true
  | .forwardStep => true
  | .stepBackApply => true
  | .holdoverExpired => true
  | .launch _ => true
  | .launchDeadline _ => true
  | .timedSend _ d _ => isDescr 0x0A d
  | .timeStepBack _ d => isDescr 0x0E d
  | .stageScheduleImage _ d _ => isDescr 0x02 d
  | .stageCorrectionBlock _ d _ => isDescr 0x02 d
  | .commitConfig _ d => isDescr 0x03 d
  | .commitAbandon _ d => isDescr 0x03 d
  | .commitEffect => true
  | .commitTimeout => true
  | .drainReprogramDone => true
  | .programArrays _ d _ => isDescr 0x04 d
  | .verifyArrays _ d _ => isDescr 0x04 d
  | .arrayProgramDone _ _ => true
  | .mvm _ _ _ _ _ _ _ _ _ => true
  | .patrolRead _ _ _ _ _ => true
  | .patrolResolve _ _ _ => true
  | .arrayRetire _ d => isDescr 0x12 d
  | .retirementBackingMove _ => true
  | .solve _ d _ => isDescr 0x08 d
  | .solveEnd _ => true
  | .truingStoreWrite _ => true
  | .testIterationRun _ d => isDescr 0x01 d
  | .contextKill _ d => isDescr 0x0D d
  | .iterationStart => true
  | .checkpoint _ _ _ _ _ _ _ _ => true
  | .iterationEnd _ _ => true
  | .variantChange => true
  | .planChangeResume => true
  | .decisionDeadline _ => true
  | .taskEnd _ _ _ => true
  | .preemption _ => true
  | .saveComplete _ _ _ => true
  | .restoreComplete _ _ => true
  | .taskFault _ _ => true
  | .teardownComplete _ => true
  | .jobDeadline _ _ => true
  | .starveClaim _ => true
  | .carriageDelivery _ _ _ _ _ _ => true
  | .chainTimeout _ => true
  | .scrubPass _ _ _ _ => true
  | .dramOvertemp _ _ => true
  | .run _ d => isDescr 0x01 d
  | .pieceSend _ _ => true
  | .barrierTimeout _ => true
  | .ihlexTilePush _ d _ => isDescr 0x10 d
  | .remoteDoorbellPush _ d => isDescr 0x10 d
  | .hostBarrierJoin _ d => isDescr 0x10 d
  | .ihlexTile _ => true
  | .ihlexAck _ => true
  | .ihlexDoorbell _ => true
  | .ihlexJoin _ => true
  | .ihlexRelease _ => true
  | .ihlexHello _ => true
  | .ackTimer _ => true
  | .retransmitTimeout _ => true
  | .helloTimer _ => true
  | .peerLostTimeout _ => true
  | .peerSlotRelease _ => true
  | .cmpLoad _ d _ => isDescr 0x09 d
  | .encoderSample _ _ _ => true
  | .standstill _ => true
  | .settlingEnd _ => true
  | .referenceMark _ => true
  | .encSignalFault _ => true
  | .encFaultEnd _ => true
  | .encAmplitudeWarn _ => true
  | .compareFire _ _ => true
  | .cmpExpired _ => true
  | .pulseEnd _ _ _ => true
  | .generatorPoint _ _ => true
  | .actReadbackFault _ => true
  | .actTestPulse _ _ => true
  | .actOverload _ => true
  | .overloadHoldEnd _ => true
  | .actSupplyLost => true
  | .actSupplyRestored => true
  | .actMaxOn _ => true
  | .trgReadbackFault _ => true
  | .mswEdge _ _ _ => true
  | .frameReceive _ _ _ _ => true
  | .gateEntry _ => true
  | .fdbAgeing _ _ => true
  | .ethernetLinkChange _ _ => true
  | .serialCharacter _ _ _ _ _ _ => true
  | .serialIdle _ => true
  | .amplitudeStep _ _ => true
  | .serialSend _ _ => true
  | .journalRead _ d => isDescr 0x11 d

end Sys2Proof
end

