-- ==== Sys2Proof/Machine/Descr.lean ====
section
/-! DEFINITION. The gate of every descriptor command: which phase runs which opcode, and ORDERED (R71, R87, R98). -/
namespace Sys2Proof.Machine

/-- Opcodes that run before operation, in Maintenance state and in safe state: FENCE, READ_STATE, JOURNAL_READ (R87). -/
def runsEarly (op : Nat) : Bool := op == 0x0B || op == 0x0C || op == 0x11

/-- An ORDERED descriptor starts only after every earlier descriptor of its SQ has completed (Table 4.5, R98). -/
def State.held (s : State) (n : Nat) (d : List Byte) : Bool :=
  bitOn (rd d 1 1) 0 && (s.qp n).inflight.any fun f => decide (f.id < descNo d)

/-- A sleep or Off under way keeps a descriptor fetched after its POWER_REQUEST from starting, so that the request's completion is the last (R54); a POWER_REQUEST waits in
its own queue (R56). -/
def State.powerHolds (s : State) (op : Nat) (d : List Byte) : Bool :=
  op != 0x0F && (s.sup.sleepTarget.isSome || s.sup.request.any fun r => decide (r.2.2 ≠ .ready) && decide (descNo r.2.1 < descNo d))

/-- The next fetched descriptor of these bytes is taken up, unless its pair is not serviced (R71) or it has to wait (R54, R98); `f` gets it as the units carry it. -/
def State.takeUp (s : State) (op n : Nat) (d : List Byte) (f : State → List Byte → State) : State :=
  if s.start.phase = .maintenance ∧ n ≠ 0 then s
  else match s.nextDesc n d with
    | none => s
    | some e => if s.held n e || s.powerHolds op e then s else (f (s.starts n e) e).settle

/-- Run a descriptor of opcode `op` by `f`, if the phase allows it; other opcodes complete NOT_AVAILABLE, and in
Maintenance state pairs other than QP0 are not serviced (R71, R87). -/
def State.runDescr (s : State) (op n : Nat) (d : List Byte) (f : State → List Byte → State) : State :=
  s.takeUp op n d fun s e => if s.operational || runsEarly op then f s e else s.complete n e St.NOT_AVAILABLE

/-- The gate: a term that is no descriptor of this opcode is refused as ill formed. -/
def gate (op : Nat) (qp : Fin 64) (d : List Byte) (s : State) (f : State → List Byte → State) : Host.Outcome State Fault Refusal :=
  if isDescr op d then .next (s.runDescr op qp d f) else .refused (.illFormed "not a descriptor of this opcode")

end Sys2Proof.Machine
end

