-- ==== Sys2Proof/Machine/ArrayRows.lean ====
section
/-! DEFINITION. The rows of the compute-in-memory arrays: programming, products, patrol and retirement (chapter 7). -/
namespace Sys2Proof.Machine

/-! ### PROGRAM_ARRAYS (R188 to R190) -/

/-- The arrays that ARRAYS names, rising. -/
def namedArrays (d : List Byte) : List Nat := (List.range 17).filter fun m => bitOn (rd d 12 4) m

/-- PROGRAM_ARRAYS (R188, its two MALFORMED steps in turn, the address field in byte order with the first, R96): `images` is what the host memory at SRC holds, one image for each array named. -/
def State.programArrays (s : State) (n : Nat) (d images : List Byte) : State :=
  let e := rd d 8 1
  let ms := namedArrays d
  let mode := rd d 28 1
  if 15 < e then s.malformed n d 8
  else if ms.isEmpty || (mode = 0 && ms.contains 16) then s.malformed n d 12
  else if !hostAddr (rd d 16 8) then s.malformed n d 16
  else if 1 < mode then s.malformed n d 28
  else if rd d 24 4 ≠ Image.weightSize * ms.length then s.malformed n d 24
  else if 1 < s.sup.level then s.complete n d St.NOT_AVAILABLE
  else if ms.any fun m => decide ((s.arr e m).state = .bound) || decide ((s.arr e m).state = .programming) then s.refuse n d 1
  else if ms.any fun m => decide ((s.arr e m).state = .unusable) then s.refuse n d 2
  else s.reads n d true fun s =>
    let w := if mode = 0 then ProgFor.program n d else .verify n d
    let items := ms.zipIdx.map fun (m, i) => (⟨w, m, slice images (i * Image.weightSize) Image.weightSize⟩ : ProgItem)
    ({ s with progs := s.progs ++ [(⟨n, d, 0, 0⟩ : ProgAcc)] }).addItems e items false

/-- PROGRAM_ARRAYS, MODE 0 (R189). -/
def execProgramArrays (qp : Fin 64) (d images : List Byte) (s : State) : Host.Outcome State Fault Refusal :=
  gate 0x04 qp d s (fun s d => s.programArrays qp d images)

/-- VERIFY_ARRAYS: PROGRAM_ARRAYS with MODE 1 (R190). -/
def execVerifyArrays (qp : Fin 64) (d images : List Byte) (s : State) : Host.Outcome State Fault Refusal :=
  gate 0x04 qp d s (fun s d => s.programArrays qp d images)

/-- ARRAY_PROGRAM_DONE (R189, R190, R195): the array under way on an engine ends; `ok` tells what the single-row reads found. -/
def execArrayProgramDone (engine : Fin 16) (ok : Bool) (s : State) : Host.Outcome State Fault Refusal :=
  .next (s.arrayDone engine ok).settle

/-! ### The matrix-vector product (R174 to R185, R351) -/

/-- Group residuals pass the check lane: every 256th of the engine's goes to the Truing engine with its k, d, group and temperature, which keeps an array's last 4,096 (R187, R351). -/
def Engine.passResiduals (x : Engine) (m : Nat) : List Resid → Engine
  | [] => x
  | r :: t =>
    let n := x.residCount + 1
    let x := { x with residCount := n % 256 }
    let a := x.arr m
    (if n = 256 then x.setArr m { a with resid := ((r :: a.resid).take 4096) } else x).passResiduals m t

/-- TRIM_DUE, once, when the mean of the last 4,096 residuals over 64 columns exceeds DRIFT sixteenths of a unit (R351). -/
def State.trimDue (s : State) (e m : Nat) : State :=
  let r := (s.arr e m).resid.map (·.value)
  let due := bitOn (s.word (Reg.TRU_DUE_n e)) m
  if due || r.length ≠ 4096 || decide (r.sum.natAbs * 16 ≤ s.fget Fld.TRU_CONFIG_DRIFT * 64 * 4096) then s
  else (s.setWord (Reg.TRU_DUE_n e) (s.word (Reg.TRU_DUE_n e) + 2 ^ m)).raise Cause.TRIM_DUE

/-- What the check lane finds on one array: its accumulators, whether every verdict passed, and the residuals of its groups in order. -/
structure MvmResult where
  acc : List Int
  failed : Option Nat
  residuals : List Resid
  phases : Nat
  deriving DecidableEq, Repr

/-- One array's part of an MVM: codes, accumulators and the verdicts of R183 and R184. `failed` is the first group that fails, or 0xFF for the MVM check. -/
def State.mvmOn (s : State) (e m : Nat) (int4 : Bool) (x : List Int) (errs : MvmMath.Errs) : MvmResult :=
  let eng := s.eng e
  let p := eng.phy (eng.backing m)
  let tol := s.fget (Fld.ENG_n_CFG_TOL e)
  let ps := MvmMath.allPhases (s.isFixed e) int4 x
  let res : List Resid := ps.zipIdx.flatMap fun (q, i) => (List.range 8).map fun g =>
    ⟨MvmMath.residual p.cells p.sums errs i q g, MvmMath.stepExp q.rows.length, q.rows.length, g, s.fget Fld.PWR_THERMAL_DIE⟩
  let bad := res.find? fun r => decide (MvmMath.bound r.k tol < r.value.natAbs)
  { acc := (List.range 512).map fun c => MvmMath.acc p.cells int4 errs ps c
    failed := match bad with
      | some r => some r.group
      | none => if MvmMath.mvmFails p.cells p.rows int4 x errs ps tol then some 0xFF else none
    residuals := res
    phases := ps.length }

/-- One array of an MVM has run: counters, accumulators, residuals, and CHECK_MISMATCH where a verdict failed (R178, R185). -/
def State.mvmArray (s : State) (e m : Nat) (r : MvmResult) : State :=
  let s := s.bump64 (Reg.ENG_n_ROWPHASES e) r.phases
  let x := (s.eng e).passResiduals m r.residuals
  let a := x.arr m
  let s := s.setEng e (x.setArr m { a with mvms := a.mvms + 1, acc := r.acc })
  let s := s.trimDue e m
  match r.failed with
  | some g => s.mismatch e m g
  | none => s

/-- The order in which requests for a slot are granted (R180): Fixed-gear row-phases by engine and array, Fixed-gear patrol reads, then Freewheel requests from the engine whose turn it is. -/
def State.slotKey (s : State) (r : SlotReq) : Nat :=
  let e := r.engine.val
  let a := r.arrays.headD 0
  if s.isFixed e then (if r.patrol then 1024 else 0) + 32 * e + a else 2048 + 32 * ((e + 16 - s.sup.slotTurn) % 16) + a

/-- The requests that `b` arrays' worth of budget grants, in order: arrays of a request step together or not at all (R180; that a later, smaller request may still be granted is
DEDUCED, log entry 174). -/
def granted : Nat → List SlotReq → List SlotReq
  | _, [] => []
  | b, r :: t => if r.arrays.length ≤ b then r :: granted (b - r.arrays.length) t else granted b t

/-- The turn after a slot: behind the last Freewheel engine that was granted one (R180). -/
def State.turnAfter (s : State) (g : List SlotReq) : State :=
  match (g.filter fun r => !s.isFixed r.engine).getLast? with
  | some r => { s with sup := { s.sup with slotTurn := (r.engine.val + 1) % 16 } }
  | none => s

/-- An MVM takes its `n` row-phase slots against what else asks for each; a slot denied counts in ENG_n_STALLS (R180). -/
def State.takeSlots (s : State) (own : SlotReq) : Nat → List (List SlotReq) → State
  | 0, _ => s
  | _, [] => s
  | n + 1, l :: t =>
    let g := granted s.sup.budget (orderBy s.slotKey (own :: l))
    let s := s.turnAfter g
    if g.contains own then s.takeSlots own n t
    else (s.bump (Fld.ENG_n_STALLS_COUNT own.engine)).takeSlots own (n + 1) t

/-- An MVM on an array, or on a pair (R174): the product is released when every verdict passes; otherwise it is withheld, and the partition acts (R185, R293, R309). `slots`
says what else asks for its slots (R180), `job` is the job of the product on a Fixed-gear engine. -/
def State.mvm (s : State) (e : Fin 16) (hi : Nat) (lo : Option Nat) (int4 : Bool) (x : List Int) (errHi errLo : MvmMath.Errs) (slots : List (List SlotReq))
    (job : Nat) : State :=
  if s.sup.budget = 0 then s
  else
    let s := s.setEng e { s.eng e with gated := false }
    let s := s.takeSlots ⟨e, hi :: lo.toList, false⟩ (max 1 (MvmMath.allPhases (s.isFixed e) int4 x).length) slots
    let r := s.mvmOn e hi int4 x errHi
    let q := lo.map fun m => (m, s.mvmOn e m int4 x errLo)
    let s := s.mvmArray e hi r
    let s := match q with
      | some (m, r) => s.mvmArray e m r
      | none => s
    let s := s.bump64 (Reg.ENG_n_MVMS e)
    let ok := r.failed.isNone && q.all fun p => p.2.failed.isNone
    let out := match q with
      | some (_, l) => (r.acc.zip l.acc).map fun (h, l) => MvmMath.combine h l
      | none => r.acc
    let s := s.setEng e { s.eng e with product := if ok then some out else none }
    if ok then s
    else if s.isFixed e then s.withhold job (e / 8)
    else match s.runOn e with
      | some run => s.tearDown run.ctx (some (run.id, Cause.CHECK_MISMATCH))
      | none => s

/-- MVM (R178): `input` in row order, INT8 or INT4; `errHi` and `errLo` say by how much the converters' codes differ from the ideal ones, as (row-phase, column, difference). -/
def execMvm (engine hi : Fin 16) (lo : Option (Fin 16)) (int4 : Bool) (input : List (BitVec 8)) (errHi errLo : List (Nat × Nat × Int))
    (slots : List (List SlotReq)) (job : BitVec 16) (s : State) : Host.Outcome State Fault Refusal :=
  let x := (input.take 512).map fun b => toSigned (if int4 then 4 else 8) (b.toNat % (if int4 then 16 else 256))
  .next (s.mvm engine hi (lo.map Fin.val) int4 x errHi errLo slots job.toNat).settle

/-! ### The patrol (R186, R187) -/

/-- One row read of the patrol, in a slot of its own under the budget: `diffs` are what the group sums read differ by from the cells as last programmed; `fires` tells, where this read is the period's forced
comparison, whether the comparator fired. -/
def State.patrolRead (s : State) (e k row : Nat) (diffs : List Int) (fires : Option Bool) : State :=
  let p := (s.eng e).phy k
  let spare := decide (k = 16)
  let programmed := if spare then decide ((s.eng e).spare ≠ .failed) else
    !((s.arr e k).onSpare || decide ((s.arr e k).state = .blank) || decide ((s.arr e k).state = .programming))
  match s.patrolAt e with
  | none => s
  | some t =>
  if !programmed || s.sup.budget = 0 then s
  else
    let s := s.passUntil t
    let read := (List.range 8).map fun g => ((List.range 64).map fun i => MvmMath.cell p.cells row (64 * g + i)).sum + diffs.getD g 0
    let bad := ((List.range 8).any fun g => read.getD g 0 != MvmMath.groupSum p.sums row g) || read.sum != p.rows.getD row 0
    let s := if fires = some false then s.raise Cause.CHECK_LANE_FAULT else s
    if bad then s.cellError e k else s

/-- PATROL_READ (R186). -/
def execPatrolRead (engine : Fin 16) (phys : Fin 17) (row : Fin 512) (diffs : List Int) (fires : Option Bool) (s : State) :
    Host.Outcome State Fault Refusal := .next (s.patrolRead engine phys row diffs fires).settle

/-- PATROL_RESOLVE (R187): an out-of-turn patrol of a suspect array ends. -/
def execPatrolResolve (engine array : Fin 16) (seen : PatrolSeen) (s : State) : Host.Outcome State Fault Refusal :=
  .next (if (s.arr engine array).suspect then (s.resolved engine array seen).settle else s)

/-! ### ARRAY_RETIRE (R196) -/

/-- ARRAY_RETIRE (R196). An A16 that is being programmed for a retirement, or waits to take one over, is taken like one STANDING_IN for a further MODE 1 (DESIGN CHOICE, log entry
173). -/
def State.arrayRetire (s : State) (n : Nat) (d : List Byte) : State :=
  let e := rd d 8 1
  let m := rd d 9 1
  let mode := rd d 10 1
  if 15 < e then s.malformed n d 8
  else if 15 < m then s.malformed n d 9
  else if 1 < mode then s.malformed n d 10
  else if (s.eng e).spare ≠ .free then s.complete n d St.OK 0 2
  else if mode = 1 ∧ (s.eng e).retiring.isSome then s.complete n d St.OK 0 2
  else if mode = 0 then (s.setArr e m { s.arr e m with pendRetire := true }).complete n d St.OK 0 1
  else match s.retireRefused e m with
    | some r => s.refuse n d r
    | none => s.retireStart e m (some (n, d))

/-- ARRAY_RETIRE. -/
def execArrayRetire (qp : Fin 64) (d : List Byte) (s : State) : Host.Outcome State Fault Refusal :=
  gate 0x12 qp d s (fun s d => s.arrayRetire qp d)

/-- Is a task in flight that uses array m of engine e? -/
def State.arrayInUse (s : State) (e m : Nat) : Bool :=
  s.fwh.runs.any fun r => decide (r.state = .active) && Config.jobUsesArray r.image r.job (16 * e + m) && r.tasks.any fun t => t != .idle && t != .ended

/-- The backing of a retirement that is programmed moves at its boundary: for a Fixed-gear engine an iteration boundary, for a Freewheel engine a moment at which no task that uses the
array is in flight (R196). -/
def State.moveBacking (s : State) (e : Nat) : State :=
  match (s.eng e).move with
  | none => s
  | some v =>
    if (if s.isFixed e then s.iterationRunning else s.arrayInUse e v.arr) then s
    else
      let s := if s.isFixed e then s.passUntil (s.boundaryAt s.now) else s
      let s := (s.setEng e { s.eng e with move := none }).backingMoved e v.arr v.crc 1
      match v.desc with
      | some (n, d) => s.complete n d St.OK 0 0
      | none => s

/-- RETIREMENT_BACKING_MOVE (R196). -/
def execRetirementBackingMove (engine : Fin 16) (s : State) : Host.Outcome State Fault Refusal := .next (s.moveBacking engine).settle

end Sys2Proof.Machine
end

