-- ==== Sys2Proof/Machine/CameraRows.lean ====
section
/-! DEFINITION. The meanings of the camera rows (chapter 5). -/
namespace Sys2Proof.Machine

/-- CXP_CONTROL_READ (R125). -/
def execCxpControlRead (camera : Fin 2) (s : State) : Host.Outcome State Fault Refusal := .next (s.ctlStart false camera).settle

/-- CXP_CONTROL_WRITE (R125). -/
def execCxpControlWrite (camera : Fin 2) (s : State) : Host.Outcome State Fault Refusal := .next (s.ctlStart true camera).settle

/-- CTL_RESPONSE (R125): OK, camera error or not connected; RESULT codes 0, 2 and 3. -/
def execCtlResponse (result : Fin 3) (data : Word) (s : State) : Host.Outcome State Fault Refusal :=
  .next (s.ctlEnd (if result.val = 0 then 0 else result.val + 1) data.toNat).settle

/-- CTL_TIMEOUT (R125). -/
def execCtlTimeout (s : State) : Host.Outcome State Fault Refusal :=
  .next (if s.cams.mbox.isSome then ((s.ctlEnd 1 0).raise Cause.CTL_TIMEOUT).settle else s)

/-- CXP_LINE (R122). -/
def execCxpLine (camera : Fin 2) (t : BitVec 64) (fmt : BitVec 8) (count : Word) (complete laneFull : Bool) (pixels : List (BitVec 16))
    (s : State) : Host.Outcome State Fault Refusal :=
  .next (s.cxpLine camera t.toNat fmt.toNat count.toNat complete laneFull (pixels.map BitVec.toNat)).settle

/-- TRIGGER_TIMEOUT (R122). -/
def execTriggerTimeout (camera : Fin 2) (s : State) : Host.Outcome State Fault Refusal := .next (s.triggerTimeout camera).settle

/-- CXP_LINK_LOSS (R117). -/
def execCxpLinkLoss (camera : Fin 2) (conn : Fin 4) (midLine : Bool) (s : State) : Host.Outcome State Fault Refusal :=
  .next (s.cxpLoss camera conn midLine).settle

/-- CXP_DISCOVERY (R120). -/
def execCxpDiscovery (camera : Fin 2) (found : Fin 5) (speed : Fin 8) (s : State) : Host.Outcome State Fault Refusal :=
  .next (s.discover camera found speed).settle

/-- CXP_EVENT_PACKET (R119): counted and discarded. -/
def execCxpEventPacket (camera : Fin 2) (s : State) : Host.Outcome State Fault Refusal :=
  .next (s.setCam camera { s.cam camera with events := (s.cam camera).events + 1 }).settle

/-- CSI2_FRAME_START (R128). -/
def execCsi2FrameStart (port : Fin 2) (vc : BitVec 4) (t : BitVec 64) (frame : BitVec 16) (ecc : Fin 3) (dt : CsiType)
    (width height : BitVec 16) (overrun : Bool) (s : State) : Host.Outcome State Fault Refusal :=
  .next (s.csiHeader port vc.toNat ecc fun s n => s.frameStart n t.toNat frame.toNat dt width.toNat height.toNat overrun).settle

/-- CSI2_LONG_PACKET (R129). -/
def execCsi2LongPacket (port : Fin 2) (vc : BitVec 4) (ecc : Fin 3) (crcOk : Bool) (dt : CsiType) (samples : List (BitVec 16))
    (s : State) : Host.Outcome State Fault Refusal :=
  .next (s.csiHeader port vc.toNat ecc fun s n => s.frameLine n crcOk dt (samples.map BitVec.toNat)).settle

/-- CSI2_FRAME_END (R129). -/
def execCsi2FrameEnd (port : Fin 2) (vc : BitVec 4) (t : BitVec 64) (ecc : Fin 3) (s : State) : Host.Outcome State Fault Refusal :=
  .next (s.csiHeader port vc.toNat ecc fun s n => s.frameEnd n t.toNat).settle

/-- SENSOR_LOST (R130): FS_TIMEOUT passes since the last FS, or since the context last opened, returned or lost its sensor (DEDUCED, log entry 169). -/
def execSensorLost (sensor : Fin 8) (s : State) : Host.Outcome State Fault Refusal :=
  .next (match s.ctxOf 1 (sensor.val / 4) (sensor.val % 4) with
    | some n =>
      if (s.ctx n).open? then
        let s := s.passUntil ((s.ctx n).fsAt + 10000000 * s.sensorFld sensor (Fld.APY_Sn_CFG_FS_TIMEOUT sensor))
        let s := s.setCtx n { s.ctx n with fsAt := s.now, fsGap := 0 }
        (((s.toWaiting n).finishClose n).raiseIn Cause.SENSOR_LOST 2 n).settle
      else s
    | none => s)

/-- APY_LINK_DOWN. -/
def execApyLinkDown (port : Fin 2) (s : State) : Host.Outcome State Fault Refusal := .next (s.apyDown port).settle

/-- APY_LINK_UP (R127). -/
def execApyLinkUp (port : Fin 2) (gear : Fin 5) (s : State) : Host.Outcome State Fault Refusal := .next (s.apyUp port gear).settle

/-- SENSOR_WRITE_ACK (R145). -/
def execSensorWriteAck (sensor : Fin 8) (s : State) : Host.Outcome State Fault Refusal := .next (s.sensorAck sensor).settle

/-- SENSOR_WRITE_FAIL (R146). -/
def execSensorWriteFail (sensor : Fin 8) (s : State) : Host.Outcome State Fault Refusal := .next (s.sensorNak sensor).settle

/-- DECODE_GAP (R135): the 10 ms hold of the packet held longest behind a gap of an open decoder context expires. -/
def execDecodeGap (context : Fin 10) (s : State) : Host.Outcome State Fault Refusal :=
  .next (match s.ctxOf 2 context 0, (s.dec context).holdEnds with
    | some n, some t => if (s.ctx n).open? then (((s.passUntil t).gapsDue context 64)).settle else s
    | _, _ => s)

/-- STREAM_SILENT (R136): once, until a packet is classified again. -/
def execStreamSilent (context : Fin 10) (s : State) : Host.Outcome State Fault Refusal :=
  .next (match s.ctxOf 2 context 0 with
    | some n =>
      if (s.ctx n).open? && !(s.dec context).silent then
        let s := s.passUntil ((s.dec context).heard + 1000000 * s.decFld context Fld.DEC_CONFIG_SILENT_MS)
        let s := s.setDec context { s.dec context with silent := true }
        ((s.toWaiting n).raise Cause.STREAM_SILENT).settle
      else s
    | none => s)

/-- DECODED_PICTURE (R133). -/
def execDecodedPicture (context : Fin 10) (t : BitVec 64) (stamp : Word) (vui : Option Vui) (supported intact : Bool) (width : BitVec 16)
    (rows : List (List (BitVec 8))) (s : State) : Host.Outcome State Fault Refusal :=
  .next (s.picture context t.toNat stamp.toNat vui supported intact width.toNat (rows.map (·.map BitVec.toNat))).settle

end Sys2Proof.Machine
end

