-- ==== Sys2Proof/Machine/ConfigRows.lean ====
section
/-! DEFINITION. The rows of staging and committing a configuration (section 4.7). -/
namespace Sys2Proof.Machine

/-- STAGE_REGISTER_LIST (R103): `list` is what the host memory at ADDR holds, `tables` what the fetches of R141 return. -/
def execStageRegisterList (qp : Fin 64) (d : List Byte) (list : List Byte) (tables : List (List Byte)) (s : State) :
    Host.Outcome State Fault Refusal :=
  gate 0x02 qp d s (fun s d => s.stage qp d list tables)

/-- STAGE_SCHEDULE_IMAGE (R104): `image` is what the host memory at ADDR holds. -/
def execStageScheduleImage (qp : Fin 64) (d image : List Byte) (s : State) : Host.Outcome State Fault Refusal :=
  gate 0x02 qp d s (fun s d => s.stage qp d image [])

/-- STAGE_CORRECTION_BLOCK (R346): `block` is what the host memory at ADDR holds. -/
def execStageCorrectionBlock (qp : Fin 64) (d block : List Byte) (s : State) : Host.Outcome State Fault Refusal :=
  gate 0x02 qp d s (fun s d => s.stage qp d block [])

/-- COMMIT_CONFIG (R105). -/
def execCommitConfig (qp : Fin 64) (d : List Byte) (s : State) : Host.Outcome State Fault Refusal :=
  gate 0x03 qp d s (fun s d => s.commit qp d)

/-- COMMIT_ABANDON (R105 step 1): COMMIT_CONFIG with ABANDON. -/
def execCommitAbandon (qp : Fin 64) (d : List Byte) (s : State) : Host.Outcome State Fault Refusal :=
  gate 0x03 qp d s (fun s d => s.commit qp d)

/-- COMMIT_EFFECT (R105 step 5): the boundary of the front commit comes. -/
def execCommitEffect (s : State) : Host.Outcome State Fault Refusal := .next s.commitBoundary.settle

/-- COMMIT_TIMEOUT (R108): NOT_AFTER of a waiting commit passes. -/
def execCommitTimeout (s : State) : Host.Outcome State Fault Refusal := .next s.commitTimeout.settle

/-- DRAIN_REPROGRAM_DONE (R105 step 4): the reprogramming of a drain has ended. -/
def execDrainReprogramDone (s : State) : Host.Outcome State Fault Refusal := .next s.drainDone.settle

end Sys2Proof.Machine
end

