-- ==== Sys2Proof/Machine/EncRows.lean ====
section
/-! DEFINITION. The rows of the Spoke unit: encoder channels, compare lists, outputs, generators, magnetic switches (chapter 15). -/
namespace Sys2Proof.Machine

/-! ### CMP_LOAD (R362 to R364, R366) -/

/-- The entries of a buffer. -/
def cmpEntries (b : List Byte) (n : Nat) : List (List Byte) := (List.range n).map fun i => slice b (32 * i) 32

/-- RESULT of CMP_LOAD: accepted, late, free entries (Table 4.17). -/
def State.cmpResult (s : State) (ch accepted late : Nat) : Nat :=
  accepted + 2 ^ 16 * late + 2 ^ 32 * (listSize - (s.chan ch).entries.length)

/-- CMP_LOAD (R362): `buf` is what host memory at ADDR holds. -/
def State.cmpLoad (s : State) (qp : Nat) (d buf : List Byte) : State :=
  let ch := rd d 8 1
  let mode := rd d 9 1
  let n := rd d 10 2
  let es := cmpEntries buf n
  if 3 < ch then s.malformed qp d 8
  else if 2 < mode then s.malformed qp d 9
  else if listSize < n ∨ (mode = 2 ∧ n ≠ 0) then s.malformed qp d 10
  else if hostAddr (rd d 16 8) = false then s.malformed qp d 16
  else if s.encMode ch = 0 ∨ s.spokeOn = false then s.complete qp d St.NOT_AVAILABLE
  else s.reads qp d (decide (n ≠ 0)) fun s =>
  if es.any badEntry then s.malformed qp d 16
  else if (s.chan ch).fault then
    let s := (s.cmpDrops ch n).raise Cause.CMP_DISCARDED
    s.complete qp d St.OK 0 (s.cmpResult ch 0 0)
  else
    let (ok, late, noScale) := s.sortEntries ch es
    let held := if mode = 0 then (s.chan ch).entries.length else 0
    if listSize < held + ok.length then s.complete qp d St.FULL
    else
      let s := if mode = 0 then s else s.cmpClear ch
      let s := s.setChan ch { s.chan ch with entries := (s.chan ch).entries ++ ok }
      let s := (List.range noScale).foldl (fun s _ => (s.cmpDrops ch 1).raise Cause.CMP_NO_SCALE) s
      let s := s.raiseLate ch late
      s.complete qp d St.OK (if late = 0 then 0 else Cause.LATE_ACTUATION) (s.cmpResult ch ok.length late)

/-- CMP_LOAD. -/
def execCmpLoad (qp : Fin 64) (d entries : List Byte) (s : State) : Host.Outcome State Fault Refusal :=
  gate 0x09 qp d s fun s d => s.cmpLoad qp d entries

/-! ### Samples, speed, marks and faults (R353 to R360) -/

/-- ENCODER_SAMPLE (R360). -/
def execEncoderSample (channel : Fin 4) (delta : Int) (frac : BitVec 8) (s : State) : Host.Outcome State Fault Refusal :=
  .next ((s.encSample channel delta frac.toNat).encFast channel).settle

/-- STANDSTILL (Table 15.4): no movement of 2 counts for STANDSTILL_MS. -/
def State.standstillTimer (s : State) (ch : Nat) : State :=
  let c := s.chan ch
  if c.st = .standstill then s
  else (s.passUntil (c.tA + 10000000 * s.fget (Fld.SPK_ENCn_CFG_STANDSTILL_MS ch))).standstill ch

/-- STANDSTILL. -/
def execStandstill (channel : Fin 4) (s : State) : Host.Outcome State Fault Refusal := .next (s.standstillTimer channel).settle

/-- SETTLING_END (Table 15.4): the window has passed since the exit edge. -/
def State.settlingEnd (s : State) (ch : Nat) : State :=
  let c := s.chan ch
  if c.st ≠ .settling then s
  else
    let n := s.window ch
    (s.passUntil (c.exitT + 100 * n)).setChan ch { c with st := .moving, speed := c.windowed n }

/-- SETTLING_END. -/
def execSettlingEnd (channel : Fin 4) (s : State) : Host.Outcome State Fault Refusal := .next (s.settlingEnd channel).settle

/-- REFERENCE_MARK (R356): the mark input of a channel with REF_MODE 1. -/
def execReferenceMark (channel : Fin 4) (s : State) : Host.Outcome State Fault Refusal :=
  .next (if s.fget (Fld.SPK_ENCn_CFG_REF_MODE channel) = 1 then (s.mark channel).settle else s)

/-- ENC_SIGNAL_FAULT (R359). -/
def execEncSignalFault (channel : Fin 4) (s : State) : Host.Outcome State Fault Refusal := .next (s.encFault channel).settle

/-- ENC_FAULT_END (R359). -/
def execEncFaultEnd (channel : Fin 4) (s : State) : Host.Outcome State Fault Refusal := .next (s.encFaultEnd channel).settle

/-- ENC_AMPLITUDE_WARN (Table 15.3): the amplitude in MODE 1, or the mark line with REF_MODE 1. -/
def State.amplitudeWarn (s : State) (ch : Nat) : State :=
  if s.spokeOn && (s.encMode ch == 1 || (s.encMode ch == 2 && s.fget (Fld.SPK_ENCn_CFG_REF_MODE ch) == 1)) then s.raise Cause.ENC_AMPLITUDE_WARN else s

/-- ENC_AMPLITUDE_WARN. -/
def execEncAmplitudeWarn (channel : Fin 4) (s : State) : Host.Outcome State Fault Refusal := .next (s.amplitudeWarn channel).settle

/-! ### Entries and pulses (R365 to R369) -/

/-- COMPARE_FIRE (R365): `direct` is when an edge in direct mode is placed, in steps of 250 ps after the sample. -/
def execCompareFire (channel : Fin 4) (direct : BitVec 16) (s : State) : Host.Outcome State Fault Refusal :=
  .next (s.compareFire channel direct.toNat).settle

/-- The first entry of a channel whose travel exceeds its expiry is removed (R366). -/
def State.cmpExpired (s : State) (ch : Nat) : State :=
  let c := s.chan ch
  let gone := fun (e : CmpEntry) => e.expiry.any fun x => decide (x < e.travel)
  if c.entries.any gone then
    ((s.setChan ch { c with entries := dropFirst gone c.entries }).cmpDrops ch 1).raise Cause.CMP_EXPIRED
  else s

/-- CMP_EXPIRED (R366). -/
def execCmpExpired (channel : Fin 4) (s : State) : Host.Outcome State Fault Refusal := .next (s.cmpExpired channel).settle

/-- The edge of a count-width pulse that ends now, after the sample, in steps of 250 ps (R367, R369). -/
def State.countEnds (s : State) (o direct : Nat) : Pulse → Option Nat
  | .time _ => none
  | .count ch stop rising =>
    let c := s.chan ch
    let d := leadNs o false
    let pre := if rising != c.rising then none else
      match s.predicted ch stop with
      | some q => if 4 * (500 + d) ≤ q ∧ q < 4 * (600 + d) then some (4 * c.at' + q) else none
      | none => none
    pre.or (if crossed rising c.rising c.pos stop then some (4 * c.at' + direct) else none)

/-- A running pulse of an output ends: `count` says which kind (R369). -/
def State.pulseEnd (s : State) (o : Nat) (count : Bool) (direct : Nat) : State :=
  let x := s.out o
  if count then
    match x.pulses.find? fun p => (s.countEnds o direct p).isSome with
    | none => s
    | some p => s.putOut o { x with pulses := dropFirst (· == p) x.pulses } ((s.countEnds o direct p).getD 0)
  else
    match x.pulses.findSome? fun p => match p with | .time u => some u | _ => none with
    | none => s
    | some u => (s.passUntil ((u + 3) / 4)).putOut o { x with pulses := dropFirst (· == .time u) x.pulses } u

/-- PULSE_END (R369). -/
def execPulseEnd (output : Fin 12) (count : Bool) (direct : BitVec 16) (s : State) : Host.Outcome State Fault Refusal :=
  .next (s.pulseEnd output count direct.toNat).settle

/-! ### Generators (R371) -/

/-- The next point of a generator fires (R371): its pulse, its trigger packets. -/
def State.generatorPoint (s : State) (g direct : Nat) : State :=
  match s.genFires g with
  | none => s
  | some (p, rising, q) =>
    let c := s.chan (s.genChan g)
    let s := s.setGen g { s.gen g with ref2 := 2 * p + sigma rising, last := some p }
    (s.genPulse g (4 * c.at' + q.getD direct)).sendTriggers g p c.coarse

/-- GENERATOR_POINT (R371). -/
def execGeneratorPoint (generator : Fin 4) (direct : BitVec 16) (s : State) : Host.Outcome State Fault Refusal :=
  .next (s.generatorPoint generator direct.toNat).settle

/-! ### Output supervision (R372, R373) -/

/-- When an output last changed as commanded, in ns. -/
def State.changedAt (s : State) (o : Nat) : Nat := ((s.spk.edges.find? fun e => e.1 == o).elim 0 (·.2.2) + 3) / 4

/-- An ACT output reads back other than commanded: it is commanded off, and the fault raised. With the supply lost, a change to on raises nothing. -/
def State.actReadback (s : State) (o : Nat) (toOn : Bool) : State :=
  if !s.spokeOn || (s.spk.actLost && toOn) then s else (s.outOff o).raiseIn Cause.ACT_READBACK_FAULT 9 o

/-- The readback of an ACT output has differed for 100 µs, counted from 50 µs after its last change (R372). -/
def State.readbackFault (s : State) (o : Nat) : State :=
  let on := (s.out o).on
  if !s.spokeOn || (s.spk.actLost && on) then s else (s.passUntil (s.changedAt o + 150000)).actReadback o on

/-- ACT_READBACK_FAULT (R372). -/
def execActReadbackFault (output : Fin 8) (s : State) : Host.Outcome State Fault Refusal :=
  .next (s.readbackFault output).settle

/-- Is an edge of an output scheduled in the 100 µs from now: one in its delay line, the end of a pulse, or the predicted crossing of a pending entry that names it? (R372) -/
def State.edgeNear (s : State) (o : Nat) : Bool :=
  let near := fun q => decide (4 * s.now < q) && decide (q ≤ 4 * s.now + 400000)
  s.spk.edges.any (fun e => e.1 == o && near e.2.2) || (s.out o).pulses.any (fun p => match p with | .time u => near u | .count ch stop _ => (s.predicted ch stop).any fun q => near (4 * (s.chan ch).at' + q)) ||
    (List.range 4).any fun ch => (s.chan ch).entries.any fun e => bitOn e.mask o && e.up == (s.chan ch).rising && (s.predicted ch (s.trigger ch e)).any fun q => near (4 * (s.chan ch).at' + q)

/-- A test pulse of an ACT output, and whether it reads back as commanded: an on-pulse while it is off, an off-pulse while it is on; one that an edge would follow within 100 µs is
skipped for its period. -/
def State.actTest (s : State) (o : Nat) (ok : Bool) : State :=
  let x := s.out o
  if !s.spokeOn || s.fget (Fld.SPK_ACTn_CFG_TEST_EN o) = 0 || (!x.on && !s.outAllowed o) then s
  else
    let s := s.passUntil (x.tested + 1000000 * s.fget Fld.SPK_ACT_TEST_PERIOD_MS)
    if s.edgeNear o then s.setOut o { x with tested := s.now }
    else
    let s := s.setOut o { x with testing := some s.now, tested := s.now }
    if ok then s else s.actReadback o (!x.on)

/-- ACT_TEST_PULSE (R372). -/
def execActTestPulse (output : Fin 8) (ok : Bool) (s : State) : Host.Outcome State Fault Refusal := .next (s.actTest output ok).settle

/-- An overload of 100 µs trips an ACT output; the third trip within 60 s keeps it off until the next start. -/
def State.actOverload (s : State) (o : Nat) : State :=
  if !s.spokeOn || !(s.out o).on then s
  else
    let s := (s.passUntil (((s.out o).onSince + 3) / 4 + 100000)).outOff o
    let x := s.out o
    let trips := s.now :: x.trips.filter fun t => decide (s.now < t + 60000000000)
    (s.setOut o { x with hold := true, trips, latched := x.latched || decide (3 ≤ trips.length) }).raiseIn Cause.ACT_OVERLOAD 9 o

/-- ACT_OVERLOAD (R372). -/
def execActOverload (output : Fin 8) (s : State) : Host.Outcome State Fault Refusal := .next (s.actOverload output).settle

/-- The hold after an overload ends, 1 s after the trip (R372, Table 18.4). -/
def State.overloadEnd (s : State) (o : Nat) : State :=
  let x := s.out o
  if !x.hold then s
  else ((s.passUntil (x.trips.headD 0 + 1000000000)).setOut o { x with hold := false }).endHandling 9 o

/-- OVERLOAD_HOLD_END (R372). -/
def execOverloadHoldEnd (output : Fin 8) (s : State) : Host.Outcome State Fault Refusal := .next (s.overloadEnd output).settle

/-- ACT_SUPPLY_LOST (R372). -/
def execActSupplyLost (s : State) : Host.Outcome State Fault Refusal :=
  .next (if s.spokeOn && !s.spk.actLost then
      (({ s with spk := { s.spk with actLost := true } }).raiseIn Cause.ACT_SUPPLY_LOST 10 0).settle
    else s)

/-- ACT_SUPPLY_RESTORED (R372, Table 18.4). -/
def execActSupplyRestored (s : State) : Host.Outcome State Fault Refusal :=
  .next (if s.spk.actLost then (({ s with spk := { s.spk with actLost := false } }).endHandling 10 0).settle else s)

/-- An ACT output has been on for MAX_ON (R372). -/
def State.actMaxOn (s : State) (o : Nat) : State :=
  let x := s.out o
  let m := s.fget (Fld.SPK_ACTn_CFG_MAX_ON o)
  if m = 0 ∨ x.on = false then s
  else ((s.passUntil ((x.onSince + 3) / 4 + 10000000 * m)).outOff o).raise Cause.ACT_MAX_ON

/-- ACT_MAX_ON (R372). -/
def execActMaxOn (output : Fin 8) (s : State) : Host.Outcome State Fault Refusal := .next (s.actMaxOn output).settle

/-- TRG_READBACK_FAULT (R373). -/
def execTrgReadbackFault (output : Fin 4) (s : State) : Host.Outcome State Fault Refusal :=
  .next (if s.spokeOn then (s.raiseIn Cause.TRG_READBACK_FAULT 9 (8 + output.val)).settle else s)

/-! ### Magnetic switches (R374) -/

/-- A debounced edge of MSWm whose first transition was at `t`. -/
def State.mswEdge (s : State) (m : Nat) (rising : Bool) (t : Nat) : State :=
  let mode := s.fget (Fld.SPK_MSWm_CFG_MODE m)
  if !s.spokeOn || mode = 0 || (s.fget (Fld.SPK_MSWm_CFG_EDGE m) == 1) != rising then s
  else
    let s := s.passUntil (t + 1000 * s.fget (Fld.SPK_MSWm_CFG_DEBOUNCE_US m))
    if mode = 1 then
      let p := (s.chan (s.fget (Fld.SPK_MSWm_CFG_CHAN m))).pos
      ((s.setWord64 (Reg.SPK_MSWm_LAST_TIME m) t).setWord64 (Reg.SPK_MSWm_LAST_POS m) (ofSigned 64 p)).bump (Fld.SPK_MSWm_COUNT_COUNT m)
    else
      (List.range 4).foldl (fun s ch =>
        if s.fget (Fld.SPK_ENCn_CFG_REF_MODE ch) = 2 ∧ s.fget (Fld.SPK_ENCn_CFG_REF_MSW ch) = m then s.mark ch else s) s

/-- MSW_EDGE (R374). -/
def execMswEdge (input : Fin 4) (rising : Bool) (t : BitVec 64) (s : State) : Host.Outcome State Fault Refusal :=
  .next (s.mswEdge input rising t.toNat).settle

end Sys2Proof.Machine
end

