-- ==== Sys2Proof/Machine/Faults.lean ====
section
/-! DEFINITION. The rows of the safety mechanisms, the safety lines, safe state and the thermal notices (chapters 18
and 19). -/
namespace Sys2Proof.Machine

/-- The next test of a mechanism begins, in a period of 500 ms in which it has not run; periods count from the start of operation (R435, R453). -/
def State.testTurn (s : State) (k : Nat) : State :=
  let p := fun t => (t - s.brk.opAt) / 500000000
  let s := match s.brk.tests.find? fun e => e.1 == k with
    | some e => s.passUntil (s.brk.opAt + 500000000 * (p e.2 + 1))
    | none => s
  { s with brk := { s.brk with tests := (s.brk.tests.filter fun e => e.1 != k) ++ [(k, s.now)] } }

/-- SELFTEST (R435): the periodic test of a bit of BRK_SELFTEST has run; bit 7 is not of the protected path. -/
def State.selfTest (s : State) (bit : Nat) (pass : Bool) : State :=
  if s.operational ∧ s.fget Fld.BRK_CONFIG_SELFTEST_EN = 1 then
    let s := s.testTurn bit
    if pass then s.fset Fld.BRK_SELFTEST_PASSED (s.fget Fld.BRK_SELFTEST_PASSED ||| 2 ^ bit)
    else
      let s := s.fset Fld.BRK_SELFTEST_PASSED (setBits (s.fget Fld.BRK_SELFTEST_PASSED) bit bit 0)
      let s := s.fset Fld.BRK_SELFTEST_FAILED (s.fget Fld.BRK_SELFTEST_FAILED ||| 2 ^ bit)
      if bit = 7 then s.raiseIn Cause.SELFTEST_DEGRADED 12 0 bit else s.raise Cause.SELFTEST_FAILED bit
  else s

/-- SELFTEST. -/
def execSelftest (bit : Fin 12) (pass : Bool) (s : State) : Host.Outcome State Fault Refusal :=
  .next (s.selfTest bit pass).settle

/-- BRK_CROSS_CHECK (R434): every 100 µs channels A and B compare themselves. -/
def execBrkCrossCheck (agree : Bool) (s : State) : Host.Outcome State Fault Refusal :=
  .next (if agree then s else (s.raise Cause.BRK_CHANNEL_MISMATCH).settle)

/-- AUTO_RESTART (R457): 2 s after entry to safe state, if it was decided at entry. -/
def execAutoRestart (s : State) : Host.Outcome State Fault Refusal :=
  .next (if s.start.phase = .safe ∧ s.brk.restartPending = true then
      (((s.passUntil (s.word64 Reg.BRK_LAST_SAFE + 2000000000)).fastDomainOff).beginAttempt 2).settle
    else s)

/-- WARN_HOLD (R449): no decision has been shown for WARN_HOLD_MS; both lines are de-energised until the next is. -/
def execWarnHold (s : State) : Host.Outcome State Fault Refusal :=
  .next (if s.operational ∧ s.brk.firstDecision = true then
      let s := s.passUntil (s.brk.shownAt + 1000000 * s.fget Fld.BRK_CONFIG_WARN_HOLD_MS)
      ({ s with brk := { s.brk with warnA := false, warnB := false } }).settle
    else s)

/-- When the frame watch of a context falls due: FRAME_WATCH_MS after its last sample, or after operation began (R451). -/
def State.watchDue (s : State) (ctx : Nat) : Nat := max s.brk.opAt (s.brk.emitted.get (fun _ => 0) ctx) + 1000000 * s.fget Fld.BRK_CONFIG_FRAME_WATCH_MS

/-- OBSTACLE_INPUT_LOST (R451): a watched stream context has emitted no sample for FRAME_WATCH_MS. -/
def execObstacleInputLost (ctx : Fin 24) (s : State) : Host.Outcome State Fault Refusal :=
  .next (if s.operational ∧ s.watched ctx = true ∧ s.brk.lost.contains ctx.val = false then
      let s := s.passUntil (s.watchDue ctx)
      (({ s with brk := { s.brk with lost := ctx.val :: s.brk.lost } }).raiseIn Cause.OBSTACLE_INPUT_LOST 13 ctx).settle
    else s)

/-- WARN_READBACK (R453): WARN_A, WARN_B or WARN_AVAIL (0 to 2) differs from its command for more than 100 µs. -/
def execWarnReadback (_line : Fin 3) (s : State) : Host.Outcome State Fault Refusal :=
  .next (s.raise Cause.WARN_READBACK).settle

/-- WARN_TEST_PULSE (R453): an off-pulse of at most 20 µs on one energised line; a de-energised line is never pulsed, and no two lines at once. -/
def execWarnTestPulse (line : Fin 3) (s : State) : Host.Outcome State Fault Refusal :=
  .next (if s.operational ∧ s.fget Fld.BRK_CONFIG_SELFTEST_EN = 1 ∧ s.brk.lineOn line = true ∧ (s.brk.testPulse.all fun p => decide (p.2 ≤ s.now)) = true then
      let s := s.testTurn (16 + line.val)
      ({ s with brk := { s.brk with testPulse := some (line.val, s.now + 20000) } }).settle
    else s)

/-- SAFE_OK_READBACK (R452, R453): the channel whose readback fails stops its own output at once. -/
def execSafeOkReadback (channel : Fin 2) (s : State) : Host.Outcome State Fault Refusal :=
  .next (let s := if channel.val = 0 then { s with brk := { s.brk with safeOkA := false } }
      else { s with brk := { s.brk with safeOkB := false } }
    (s.raise Cause.SAFE_OK_READBACK).settle)

/-- WDOG_EDGE (R454): WDOG_IN has changed to `level` at `after` ns from now. MODE 1 counts gaps between rising edges, from
the first one on; MODE 2 times a low level. -/
def execWdogEdge (level : Bool) (after : Word) (s : State) : Host.Outcome State Fault Refusal :=
  .next (let s := s.passUntil (s.now + after.toNat)
    let s := { s with brk := { s.brk with wdogLevel := level } }
    let m := s.fget Fld.BRK_WDOG_MODE
    if s.operational ∧ ((m = 1 ∧ level = true) ∨ (m = 2 ∧ level = false)) then
      ({ s with brk := { s.brk with wdogOn := true, wdogSince := s.now } }).settle
    else s.settle)

/-- The moment at which EXT_WATCHDOG falls due (R454): TIMEOUT_MS after the last edge or the start of supervision, which is
ARM_S after operation began when no edge came; in MODE 2, 1 ms after WDOG_IN went low. -/
def State.watchdogDue (s : State) : Option Nat :=
  let m := s.fget Fld.BRK_WDOG_MODE
  let gap := 1000000 * s.fget Fld.BRK_WDOG_TIMEOUT_MS
  if m = 1 then
    some (s.brk.wdogSince + (if s.brk.wdogOn then 0 else 1000000000 * s.fget Fld.BRK_WDOG_ARM_S) + gap)
  else if m = 2 ∧ s.brk.wdogLevel = false then some ((if s.brk.wdogOn then s.brk.wdogSince else s.now) + 1000000)
  else none

/-- EXT_WATCHDOG (R454): the time of `watchdogDue` has come. -/
def execExtWatchdog (s : State) : Host.Outcome State Fault Refusal :=
  .next (match s.operational, s.watchdogDue with
    | true, some t => ((s.passUntil t).raise Cause.EXT_WATCHDOG).settle
    | _, _ => s)

/-- A lockstep mismatch or a watchdog expiry during a start step cuts the attempt (R65); in operation its record puts the
module into safe state (R455). -/
def State.hubFault (s : State) (code : Nat) : State :=
  if s.start.stepOpen ∧ s.operational = false ∧ s.start.phase ≠ .maintenance then
    let a := s.brk.actions
    let s := s.raise code
    ({ s with brk := { s.brk with actions := a } }).cutStep
  else s.raise code

/-- HUB_LOCKSTEP (R434, R65). -/
def execHubLockstep (s : State) : Host.Outcome State Fault Refusal := .next (s.hubFault Cause.HUB_LOCKSTEP).settle

/-- HUB_WATCHDOG (R434, R65). -/
def execHubWatchdog (s : State) : Host.Outcome State Fault Refusal := .next (s.hubFault Cause.HUB_WATCHDOG).settle

/-- CLOCK_FAULT (R434). -/
def execClockFault (s : State) : Host.Outcome State Fault Refusal := .next (s.raise Cause.CLOCK_FAULT).settle

/-- RAIL_FAULT (R434). -/
def execRailFault (s : State) : Host.Outcome State Fault Refusal := .next (s.raise Cause.RAIL_FAULT).settle

/-- TEMP_MONITOR (R434): the hottest die sensor has read `tenths` (0.1 °C) for 10 ms: TEMP_HIGH above 110 °C, TEMP_CRITICAL
above 125 °C. -/
def execTempMonitor (tenths : BitVec 16) (s : State) : Host.Outcome State Fault Refusal :=
  .next (let s := s.fset Fld.PWR_THERMAL_DIE tenths.toNat
    if 1250 < tenths.toInt then (s.raise Cause.TEMP_CRITICAL).settle
    else if 1100 < tenths.toInt then (s.raise Cause.TEMP_HIGH).settle else s.settle)

/-- STEM_FAULT (R459): a Stem retimer detects a crossing error; the unit action of region 11 folds the Stem. -/
def execStemFault (s : State) : Host.Outcome State Fault Refusal := .next (s.raiseIn Cause.STEM_FAULT 11 0).settle

/-- P_max(T_b) in 10 mW, for T_b in 0.1 °C (R475). -/
def pMax (tenths : Int) : Nat :=
  if tenths ≤ 750 then 8500 else (8500 - 20 * (tenths - 750)).toNat

/-- A reading of the baseplate temperature (0.1 °C). -/
def State.baseplate (s : State) (tenths : BitVec 16) : State :=
  (s.fset Fld.PWR_THERMAL_BASEPLATE tenths.toNat).fset Fld.PWR_POWER_LIMIT (pMax tenths.toInt)

/-- BASEPLATE_HOT (R478): the baseplate has read `tenths` for 1 s; one notice per excursion above 85.0 °C. -/
def execBaseplateHot (tenths : BitVec 16) (s : State) : Host.Outcome State Fault Refusal :=
  .next (let s := s.baseplate tenths
    if 850 < tenths.toInt then
      if s.sup.hotRaised then s.settle
      else (({ s with sup := { s.sup with hotRaised := true } }).raise Cause.BASEPLATE_HOT).settle
    else ({ s with sup := { s.sup with hotRaised := false } }).settle)

/-- POWER_DERATE (R478): the input power has been `pin` (10 mW) for 1 s at baseplate temperature `tenths`; one notice per
excursion above P_max(T_b). -/
def execPowerDerate (tenths : BitVec 16) (pin : BitVec 16) (s : State) : Host.Outcome State Fault Refusal :=
  .next (let s := (s.baseplate tenths).fset Fld.PWR_POWER_PIN pin.toNat
    if pMax tenths.toInt < pin.toNat then
      if s.sup.derateRaised then s.settle
      else (({ s with sup := { s.sup with derateRaised := true } }).raise Cause.POWER_DERATE).settle
    else ({ s with sup := { s.sup with derateRaised := false } }).settle)

/-- SAFE_SUP_CHANGE (R472): SAFE_SUP reads `mv10` (10 mV): absent below 15.0 V, present again above 16.0 V. -/
def execSafeSupChange (mv10 : BitVec 16) (s : State) : Host.Outcome State Fault Refusal :=
  .next (let s := s.fset Fld.PWR_FIELD_SAFE_SUP mv10.toNat
    ({ s with brk := { s.brk with
      safeSup := if mv10.toNat < 1500 then false else if 1600 < mv10.toNat then true else s.brk.safeSup } }).settle)

end Sys2Proof.Machine
end

