-- ==== Sys2Proof/Machine/FixedRows.lean ====
section
/-! DEFINITION. The rows of the Fixed-gear partition and of the Cadence monitor's decisions (chapters 11 and 12). -/
namespace Sys2Proof.Machine

/-! ### Iterations (R282 to R289, R292) -/

/-- A frame boundary outside iterations is an iteration boundary for a commit with BOUNDARY 1 (R286). -/
def State.frameCommit (s : State) : State :=
  match s.hif.commits with
  | [] => s
  | c :: _ => if c.boundary = 1 ∧ s.commitReady c = true ∧ s.sup.level ≤ 3 then (s.passUntil (s.boundaryAt s.now)).commitAt 1 0 else s

/-- A frame boundary at which an iteration may start: a commit that waits for it applies first, then a change of variant (R282, R283, R286). -/
def State.iterationStart (s : State) : State := if s.iterationRunning then s else s.frameCommit.frameBoundary

/-- ITERATION_START (R283). -/
def execIterationStart (s : State) : Host.Outcome State Fault Refusal := .next s.iterationStart.settle

/-- CHECKPOINT (R292): what the North half (or the only one) and the South half have done, the decision, and the time to its hand-over in ns. -/
def execCheckpoint (workN : List GroupWork) (cycleN : Word) (placedN : Bool) (workS : List GroupWork) (cycleS : Word) (placedS : Bool) (warn : Bool) (hand : Word) (s : State) :
    Host.Outcome State Fault Refusal :=
  .next (s.checkpoint ⟨workN, cycleN.toNat, placedN⟩ ⟨workS, cycleS.toNat, placedS⟩ warn hand.toNat).settle

/-- The running iteration ends: a commit with BOUNDARY 1 applies first, then an image that waited, then a change of variant and plan (R282, R283, R286). -/
def State.iterationEnd (s : State) (cycles : Nat) (work : List GroupWork) : State :=
  if !s.iterationRunning then s
  else
    let s := s.iterEnd cycles work
    if s.iterationRunning then s
    else
      let s := (s.commitAt 1 0).nextFixed
      if s.fxg.changePending then s.changeNow else s

/-- ITERATION_END (R283): `cycles` is the length of a PACED iteration, `work` what its chains did. -/
def execIterationEnd (cycles : Word) (work : List GroupWork) (s : State) : Host.Outcome State Fault Refusal :=
  .next (s.iterationEnd cycles.toNat work).settle

/-- VARIANT_CHANGE (R282): the pending change of variant or clock plan takes effect at the next frame boundary while no iteration runs. -/
def execVariantChange (s : State) : Host.Outcome State Fault Refusal :=
  .next (if !s.iterationRunning && s.fxg.changePending then
      let s := (s.passUntil (s.boundaryAt s.now)).frameCommit
      (if s.fxg.changePending then s.changeNow else s).settle
    else s)

/-- PLAN_CHANGE_RESUME (R249): once every message aboard is delivered, carriages resume at a frame boundary under the new plan's table; under CP3 the Chainring stands still. -/
def execPlanChangeResume (s : State) : Host.Outcome State Fault Refusal :=
  .next (if s.fxg.resuming && s.mem.aboard.isEmpty && decide (s.sup.plan ≤ 2) then
      let s := (s.passUntil (s.boundaryAt s.now)).setTables s.sup.plan
      ({ s with fxg := { s.fxg with resuming := false } }).settle
    else s)

/-- The deadline of a job passes before its decision is handed over: on the oldest sample that still waits for it (R314). -/
def State.decisionDeadline (s : State) (job : Nat) : State :=
  match s.fxg.cadence.find? fun c => c.opened.any fun o => o.1 == job with
  | none => s
  | some c =>
    let t := ((c.opened.find? fun o => o.1 == job).map (·.2)).getD 0
    let v := (s.fxg.iter.map (·.variant)).getD (s.fxg.variant.getD [])
    (s.passUntil (t + 1)).jobMisses v c.sample job

/-- DECISION_DEADLINE (R314). -/
def execDecisionDeadline (job : BitVec 16) (s : State) : Host.Outcome State Fault Refusal := .next (s.decisionDeadline job.toNat).settle

/-! ### Freewheel tasks (R300 to R309) -/

/-- TASK_END (R300): `work` is what the chains of the task did; `report` marks the run REPORT (R304). -/
def execTaskEnd (engine : Fin 16) (work : List GroupWork) (report : Bool) (s : State) : Host.Outcome State Fault Refusal :=
  .next (s.taskEnd engine work report).settle

/-- PREEMPTION (R302). -/
def execPreemption (engine : Fin 16) (s : State) : Host.Outcome State Fault Refusal := .next (s.preempt engine).settle

/-- SAVE_COMPLETE (R305): `content` is what the engine holds, `ns` how long the save took. -/
def execSaveComplete (engine : Fin 16) (ns : Word) (content : List Byte) (s : State) : Host.Outcome State Fault Refusal :=
  .next (s.saveDone engine ns.toNat content).settle

/-- RESTORE_COMPLETE (R307). -/
def execRestoreComplete (engine : Fin 16) (ns : Word) (s : State) : Host.Outcome State Fault Refusal :=
  .next (s.restoreDone engine ns.toNat).settle

/-- TEARDOWN_COMPLETE (R309). -/
def execTeardownComplete (context : Fin 32) (s : State) : Host.Outcome State Fault Refusal := .next (s.teardownDone context).settle

/-- CONTEXT_KILL (R310). -/
def execContextKill (qp : Fin 64) (d : List Byte) (s : State) : Host.Outcome State Fault Refusal :=
  gate 0x0D qp d s fun s d => s.contextKill qp d

/-- The deadline of a run passes (R313). -/
def State.runDeadline (s : State) (c idx : Nat) : State :=
  match (s.ctxRuns c)[idx]? with
  | none => s
  | some r => if r.deadline = noDeadline then s else (s.passUntil (r.deadline + 1)).runMisses r

/-- JOB_DEADLINE (R313): the deadline of the run at a place among the runs of a context, oldest first. -/
def execJobDeadline (context : Fin 32) (index : Fin 16) (s : State) : Host.Outcome State Fault Refusal :=
  .next (s.runDeadline context index).settle

end Sys2Proof.Machine
end

