-- ==== Sys2Proof/Machine/IhxRows.lean ====
section
/-! DEFINITION. The rows of the Ihlex engine: IHLEX_PUSH, received frames, and timers (sections 17.5 to 17.7). -/
namespace Sys2Proof.Machine

/-! ### IHLEX_PUSH (R96, R220, R330, R418 to R420) -/

/-- The first malformed field of IHLEX_PUSH (R418). -/
def pushFault (d : List Byte) : Option Nat :=
  let kind := rd d 10 1
  let comp := rd d 11 1
  let len := rd d 12 4
  let unit := if comp = 1 then 256 else if comp = 2 then 128 else 64
  let n := rd d 38 2
  if 1023 < rd d 8 2 then some 8
  else if 2 < kind then some 10
  else if 2 < comp ∨ (kind ≠ 0 ∧ comp ≠ 0) then some 11
  else if (kind = 0 ∧ (len = 0 ∨ 2 ^ 24 < len ∨ len % unit ≠ 0)) ∨ (kind ≠ 0 ∧ len ≠ 0) then some 12
  else if anyAddr (rd d 16 8) = false then some 16
  else if kind ≠ 2 ∧ moduleAddr (rd d 24 8) = false then some 24
  else if kind = 2 ∧ (n < 2 ∨ 1024 < n) then some 38
  else none

/-- The bytes that a push takes from module DRAM, or the code of the access that fails. -/
def State.pushSource (s : State) (d data : List Byte) : List Byte × Option Nat :=
  let src := rd d 16 8
  let n := rd d 12 4
  if !bitOn src 63 then (slice data 0 n, none)
  else
    let off := bits src 40 0
    (s.dramRead off n, match s.accessFault false false off n with
      | some c => some c
      | none => if s.poisoned off n then some Cause.ECC_UNCORRECTABLE else none)

/-- A push to the module's own ID goes over the Chainring (R410). -/
def State.pushSelf (s : State) (qp : Nat) (d b : List Byte) : State :=
  let (s, refused) := s.ihxWrite 0 (rd d 24 8) b
  if refused then (s.complete qp d St.FAULTED Cause.IHX_REMOTE_REJECT).raise Cause.IHX_REMOTE_REJECT
  else s.complete qp d St.OK 0 (if rd d 10 1 = 0 then b.length else 0)

/-- A tile push or a doorbell (R419). -/
def State.pushSend (s : State) (qp : Nat) (d data : List Byte) : State :=
  let dest := rd d 8 2
  let addr := rd d 24 8
  if rd d 10 1 = 1 then
    if dest = s.moduleId then s.pushSelf qp d (leBytes 4 (rd d 32 4))
    else
      let s := { s with ihx := { s.ihx with pushes := s.ihx.pushes ++ [(⟨qp, d, dest, 1, 0, 0⟩ : Push)] } }
      s.ihxQueue dest [{ type := 3, src := .push qp d, addr, value := rd d 32 4 }]
  else
    match s.pushSource d data with
    | (_, some c) => (s.raise c).complete qp d St.FAULTED c
    | (b, none) =>
      if dest = s.moduleId then s.pushSelf qp d b
      else
        let fs := tilesOf qp d addr (b.length + 1) b
        let s := { s with ihx := { s.ihx with pushes := s.ihx.pushes ++ [(⟨qp, d, dest, fs.length, 0, 0⟩ : Push)] } }
        s.ihxQueue dest fs

/-- A join to a host barrier (R330). -/
def State.hostJoin (s : State) (qp : Nat) (d : List Byte) : State :=
  let dest := rd d 8 2
  let id := rd d 36 2
  let gen := s.fwh.hostGens.get (fun _ => 0) id + 1
  let s := { s with fwh := { s.fwh with
    hostGens := s.fwh.hostGens.put (fun _ => 0) id gen
    hostWaits := s.fwh.hostWaits ++ [(⟨qp, d, id, gen, dest, s.now⟩ : HostBarrier)] } }
  s.joinAt dest id gen (rd d 38 2) 0xFFFF

/-- IHLEX_PUSH (R418). -/
def State.ihlexPush (s : State) (qp : Nat) (d data : List Byte) : State :=
  let dest := rd d 8 2
  if !s.ihxOn then s.complete qp d St.NOT_AVAILABLE
  else
    match pushFault d with
    | some off => s.malformed qp d off
    | none =>
      if dest ≠ s.moduleId ∧ s.route dest = 0 then (s.raise Cause.IHX_NO_ROUTE).complete qp d St.FAULTED Cause.IHX_NO_ROUTE
      else if rd d 10 1 = 2 then s.hostJoin qp d
      else s.reads qp d (rd d 10 1 == 0 && !bitOn (rd d 16 8) 63) fun s => s.pushSend qp d data

/-- IHLEX_TILE_PUSH: IHLEX_PUSH with KIND 0 (R419); `data` is what host memory at SRC holds. -/
def execIhlexTilePush (qp : Fin 64) (d data : List Byte) (s : State) : Host.Outcome State Fault Refusal :=
  gate 0x10 qp d s fun s d => s.ihlexPush qp d data

/-- REMOTE_DOORBELL_PUSH: IHLEX_PUSH with KIND 1 (R419). -/
def execRemoteDoorbellPush (qp : Fin 64) (d : List Byte) (s : State) : Host.Outcome State Fault Refusal :=
  gate 0x10 qp d s fun s d => s.ihlexPush qp d []

/-- HOST_BARRIER_JOIN: IHLEX_PUSH with KIND 2 (R330). -/
def execHostBarrierJoin (qp : Fin 64) (d : List Byte) (s : State) : Host.Outcome State Fault Refusal :=
  gate 0x10 qp d s fun s d => s.ihlexPush qp d []

/-! ### Received frames (R326, R328, R330, R409, R414 to R417) -/

/-- The place of an exchange tile, if it is accepted (R328): the run and the piece bytes that it carries. -/
def State.exchangeRun (s : State) (src : Nat) (b : List Byte) : Option (Run × Nat) :=
  let n := b.length - 48
  let off := bits (rd b 16 8) 40 0
  if s.fwh.image.isEmpty || rd b 32 4 != s.imageLow then none
  else
    match s.fwh.runs.find? fun r => decide (r.state = .active) && r.job == rd b 24 2 && r.number == rd b 28 4 && r.members.contains src with
    | none => none
    | some r =>
      match (Image.jobPhases r.image r.job).find? fun p => Image.phNum p == rd b 26 1 && Image.phExchange p with
      | none => none
      | some p =>
        match r.region? p with
        | none => none
        | some g =>
          let a := r.members.idxOf src
          let size := Image.aUnitBytes g
          let lo := arrivalBase g + pieceStart p size a
          let hi := lo + Image.pieceUnits p size * size
          if rd p 4 1 ≠ 2 ∧ lo ≤ off ∧ off + n ≤ hi then some (r, min n (pieceBytes p a (r.members.idxOf s.moduleId) - (off - lo))) else none

/-- A TILE is received (R415). -/
def State.tileArrives (s : State) (src : Nat) (b : List Byte) : State :=
  let pay := b.drop 48
  if rd b 24 2 = 0xFFFF then
    let (s, refused) := s.ihxWrite 1 (rd b 16 8) pay
    s.rxSeq src (rd b 8 4) refused
  else
    let s := match s.exchangeRun src b with
      | some (_, n) => (s.memWriteBy 1 false (bits (rd b 16 8) 40 0) pay).bump64 Reg.FWH_MAP_RECEIVED n
      | none => s.mapError (some (rd b 24 2, rd b 28 4, rd b 26 1))
    s.rxSeq src (rd b 8 4) false

/-- A DOORBELL is received (R415). -/
def State.doorbellArrives (s : State) (src : Nat) (b : List Byte) : State :=
  let (s, refused) := s.ihxWrite 1 (rd b 16 8) (slice b 40 4)
  s.rxSeq src (rd b 8 4) refused

/-- A frame is sent once more, or its peer is declared lost (R416). -/
def State.resendOr (s : State) (dst : Nat) (f : TxFrame) : State := if s.mayResend f then s.resend dst f else s.peerLost dst

/-- An ACK is received (R416, R420). -/
def State.ackArrives (s : State) (src : Nat) (b : List Byte) : State :=
  let ack := rd b 12 4
  let map := rd b 16 8
  let p := s.peer src
  let (got, rest) := p.unacked.partition fun f => ackCovers ack map f.seq
  let s := s.setPeer src { p with unacked := rest, idleSince := if rest.isEmpty ∧ !got.isEmpty then s.now else p.idleSince }
  let bad := if bitOn (rd b 27 1) 0 then got.find? fun f => seqNext f.seq == ack else none
  let s := s.countAcked (got.filter fun f => bad != some f)
  let s := match bad with
    | some f =>
      match s.ihx.pushes.find? fun q => f.src == TxFrom.push q.qp q.d with
      | some q => (s.endPush q St.FAULTED Cause.IHX_REMOTE_REJECT).raise Cause.IHX_REMOTE_REJECT
      | none => s
    | none => s
  (rest.filter fun f => laterReceived ack map f.seq).foldl (fun s f => if (s.peer src).unacked.contains f then s.resendOr src f else s) s

/-- What a valid frame does by its type (Table 17.4). -/
def State.ihxTyped (s : State) (src : Nat) (b : List Byte) : State :=
  match rd b 1 1 with
  | 1 => s.tileArrives src b
  | 2 => s.ackArrives src b
  | 3 => s.doorbellArrives src b
  | 4 => s.coordJoin src (rd b 36 2) (rd b 28 4) (rd b 38 2)
  | 5 => s.released src (rd b 36 2) (rd b 28 4)
  | _ => s

/-- An Ihlex frame has been received: `b` is what follows its EtherType. -/
def State.ihxArrives (s : State) (b : List Byte) : State :=
  match s.ihxReceive b with
  | (s, some src) => s.ihxTyped src b
  | (s, none) => s

/-- The row of a type takes a frame of that type; one whose CRC, version or length is wrong is any row's (R409). -/
def State.ihxRow (s : State) (type : Nat) (b : List Byte) : State :=
  if ihxWhole b && rd b 1 1 != type then s else (s.ihxArrives b).settle

/-- IHLEX_TILE (R415). -/
def execIhlexTile (frame : List Byte) (s : State) : Host.Outcome State Fault Refusal := .next (s.ihxRow 1 frame)

/-- IHLEX_ACK (R416). -/
def execIhlexAck (frame : List Byte) (s : State) : Host.Outcome State Fault Refusal := .next (s.ihxRow 2 frame)

/-- IHLEX_DOORBELL (R415). -/
def execIhlexDoorbell (frame : List Byte) (s : State) : Host.Outcome State Fault Refusal := .next (s.ihxRow 3 frame)

/-- IHLEX_JOIN (R330). -/
def execIhlexJoin (frame : List Byte) (s : State) : Host.Outcome State Fault Refusal := .next (s.ihxRow 4 frame)

/-- IHLEX_RELEASE (R326). -/
def execIhlexRelease (frame : List Byte) (s : State) : Host.Outcome State Fault Refusal := .next (s.ihxRow 5 frame)

/-- IHLEX_HELLO (R417). -/
def execIhlexHello (frame : List Byte) (s : State) : Host.Outcome State Fault Refusal := .next (s.ihxRow 6 frame)

/-! ### Timers (R413, R414, R416, R417) -/

/-- ACK_TIMER (R414): 20 µs without another TILE or DOORBELL from a sender. -/
def State.ackTimer (s : State) (src : Nat) : State :=
  let p := s.peer src
  if p.ackDue && s.ihxOn then (s.passUntil (p.rxAt + 20000)).sendAck src p.rxNext false else s

/-- ACK_TIMER. -/
def execAckTimer (peer : Fin 1024) (s : State) : Host.Outcome State Fault Refusal := .next (s.ackTimer peer).settle

/-- The unacknowledged frame whose last transmission is the oldest. -/
def oldestSent : List TxFrame → Option TxFrame
  | [] => none
  | f :: t => match oldestSent t with | some g => some (if g.sentAt < f.sentAt then g else f) | none => some f

/-- RETRANSMIT_TIMEOUT (R416): RTO_US has passed since the last transmission of a frame. -/
def State.rtoTimer (s : State) (dst : Nat) : State :=
  match oldestSent (s.peer dst).unacked with
  | some f => if s.ihxOn then (s.passUntil (f.sentAt + 1000 * s.fget Fld.IHX_CONFIG_RTO_US)).resendOr dst f else s
  | none => s

/-- RETRANSMIT_TIMEOUT. -/
def execRetransmitTimeout (peer : Fin 1024) (s : State) : Host.Outcome State Fault Refusal := .next (s.rtoTimer peer).settle

/-- Is a peer monitored? (R417) -/
def State.monitored (s : State) (id : Nat) : Bool :=
  id != s.moduleId && s.ihxOn &&
    (!(s.peer id).unacked.isEmpty || (s.fwh.hostWaits.any fun h => h.coordinator == id) ||
      s.fwh.runs.any fun r => decide (r.state = .active) && r.members.contains id)

/-- HELLO_TIMER (R417): a monitored peer has had no frame for HELLO_MS. -/
def State.helloTimer (s : State) (id : Nat) : State :=
  if s.monitored id then
    (s.passUntil ((s.peer id).lastTx + 1000000 * s.fget Fld.IHX_LIVENESS_HELLO_MS)).ihxSend 6 id { image := s.imageLow } []
  else s

/-- HELLO_TIMER. -/
def execHelloTimer (peer : Fin 1024) (s : State) : Host.Outcome State Fault Refusal := .next (s.helloTimer peer).settle

/-- PEER_LOST_TIMEOUT (R417): no valid frame has come from a monitored peer for LOST_MS. -/
def State.lostTimer (s : State) (id : Nat) : State :=
  if s.monitored id then (s.passUntil ((s.peer id).lastRx + 1000000 * s.fget Fld.IHX_LIVENESS_LOST_MS)).peerLost id else s

/-- PEER_LOST_TIMEOUT. -/
def execPeerLostTimeout (peer : Fin 1024) (s : State) : Host.Outcome State Fault Refusal := .next (s.lostTimer peer).settle

/-- PEER_SLOT_RELEASE (R413): nothing to a peer has been unacknowledged for 1 ms; the peer that has waited longest takes its slot. -/
def State.slotRelease (s : State) (id : Nat) : State :=
  let p := s.peer id
  if p.slot && p.unacked.isEmpty && p.wait.isEmpty then
    let s := (s.passUntil (p.idleSince + 1000000)).setPeer id { p with slot := false }
    match s.ihx.slotWait with
    | d :: t => ({ s with ihx := { s.ihx with slotWait := t } }).pumpAll d
    | [] => s
  else s

/-- PEER_SLOT_RELEASE. -/
def execPeerSlotRelease (peer : Fin 1024) (s : State) : Host.Outcome State Fault Refusal := .next (s.slotRelease peer).settle

end Sys2Proof.Machine
end

