-- ==== Sys2Proof/Machine/IntakeRows.lean ====
section
/-! DEFINITION. STREAM_OPEN, STREAM_CLOSE, INTAKE and the change of program (sections 5.1, 6.1 and 6.2). -/
namespace Sys2Proof.Machine

/-- ST18 was skipped: the camera front ends are not available (R115, R150). -/
def State.noCameras (s : State) : Bool := s.start.skipped.contains 18

/-- The first malformed field of STREAM_OPEN (R115). -/
def openFault (d : List Byte) : Option Nat :=
  let path := rd d 9 1
  let port := rd d 10 1
  if 24 ≤ rd d 8 1 then some 8
  else if 2 < path then some 9
  else if (if path = 2 then 9 else 1) < port then some 10
  else if path = 1 ∧ 3 < rd d 11 1 then some 11
  else if 31 < rd d 12 2 then some 12
  else none

/-- The source is disabled in its set-up registers (R115). -/
def State.sourceOff (s : State) (path port : Nat) : Bool :=
  match path with
  | 0 => !s.cxpEnabled port
  | 1 => s.fget (Fld.APY_PORTn_CFG_ENABLE port) == 0
  | _ => s.fget (Fld.DEC_Cc_MATCH_UDP_PORT port) == 0

/-- STREAM_OPEN (R115): a context out of service is not available (Table 18.4). -/
def State.streamOpen (s : State) (qp : Nat) (d : List Byte) : State :=
  let n := rd d 8 1
  let path := rd d 9 1
  let port := rd d 10 1
  let chan := rd d 11 1
  if s.noCameras then s.complete qp d St.NOT_AVAILABLE
  else
    match openFault d with
    | some off => s.malformed qp d off
    | none =>
      let c := s.ctx n
      if s.brk.outRegions.contains (2, n) || s.brk.outRegions.contains (13, n) then s.complete qp d St.NOT_AVAILABLE
      else if c.state ≠ .free then s.refuse qp d 1
      else if (s.ctxOf path port chan).isSome then s.refuse qp d 2
      else if path = 2 ∧ decCapacity < s.decUsed + s.decRate port then s.refuse qp d 3
      else if s.sourceOff path port then s.refuse qp d 4
      else
        let c : Ctx := { c with state := .waiting, path, port, channel := chan, profile := rd d 12 2, fsAt := s.now }
        let s := s.setCtx n c
        let s := if path = 0 then s.setCam port { s.cam port with noticed := none } else s
        let s := if path = 2 then s.setDec port { heard := s.now } else s
        let s := if path = 0 then s.setWord64 (Reg.CXP_CAMn_LINES port) 0 else s
        let s := if s.ctxAllowed n s.sup.level then s else s.setCtx n { c with state := .suspended }
        s.complete qp d St.OK 0 (sampleId n c.nextSeq)

/-- STREAM_OPEN (R115). -/
def execStreamOpen (qp : Fin 64) (d : List Byte) (s : State) : Host.Outcome State Fault Refusal :=
  gate 0x05 qp d s fun s d => s.streamOpen qp d

/-- STREAM_CLOSE (R116). -/
def State.streamClose (s : State) (qp : Nat) (d : List Byte) : State :=
  let n := rd d 8 1
  let mode := rd d 9 1
  if 24 ≤ n then s.malformed qp d 8
  else if 1 < mode then s.malformed qp d 9
  else if (s.ctx n).state = .free then s.complete qp d St.OK
  else if (s.ctx n).closing.isSome then s.complete qp d St.OK
  else
    let s := s.abortIntake n
    let s :=
      if mode = 1 then s.dropCapture n
      else if (s.ctx n).path = 0 then s.truncate n (fun x => { x with truncated := true, short := true }) false
      else s
    let s := s.setCtx n { s.ctx n with closing := some (qp, d), ready := if mode = 1 then [] else (s.ctx n).ready }
    s.finishClose n

/-- STREAM_CLOSE (R116). -/
def execStreamClose (qp : Fin 64) (d : List Byte) (s : State) : Host.Outcome State Fault Refusal :=
  gate 0x06 qp d s fun s d => s.streamClose qp d

/-- The quantisation table that INTAKE copies (R160). -/
def quantTable (b : List Byte) (n : Nat) : List (Nat × Nat) := (List.range n).map fun i => (rd b (8 * i) 4, rd b (8 * i + 4) 4)

/-- Is an FP32 value infinite or NaN? -/
def fpSpecial (v : Nat) : Bool := decide (v / 2 ^ 23 % 256 = 255)

/-- The first field of INTAKE that meets a condition of Table 6.1, then of Table 6.2 on a RUNNING context (R155). -/
def State.intakeFault (s : State) (p : Program) : Option Nat :=
  let n := rd p.d 8 1
  let c := s.ctx n
  let tl := p.tileLines
  let chans := s.outChannels c.profile
  if 24 ≤ n then some 8
  else if p.outType ≠ 1 ∧ p.outType ≠ 3 then some 9
  else if 3 < p.resizeMode then some 10
  else if ((p.cropW = 0) ≠ (p.cropH = 0)) ∨ (p.cropW = 0 ∧ p.cropH = 0 ∧ (p.cropX ≠ 0 ∨ p.cropY ≠ 0)) then some 16
  else if p.outW = 0 ∨ 32768 < p.outW then some 20
  else if p.outH = 0 ∨ 4096 < p.outH then some 22
  else if (tl ≠ 0 ∧ (tl < 8 ∨ 4096 < tl)) ∨ (tl ≠ 0 ∧ c.state ≠ .free ∧ c.path ≠ 0) ∨ (tl = 0 ∧ c.state ≠ .free ∧ c.path = 0) then some 24
  else if (tl ≠ 0 ∧ tl ≤ p.overlap) ∨ (p.overlap ≠ 0 ∧ tl = 0) then some 28
  else if p.startPos ≠ 0 ∧ tl = 0 then some 32
  else if (p.endPos ≠ 0 ∧ tl = 0) ∨ (p.endPos ≠ 0 ∧ p.endPos ≤ p.startPos) then some 40
  else if p.qparam ≠ 0 ∧ hostAddr p.qparam = false then some 48
  else if p.qparam ≠ 0 ∧ p.channels ≠ chans then some 56
  else if 1 < p.dest then some 58
  else if c.state = .running then
    match c.format with
    | some f => geometryFault (p.shifted (s.poseShift n) f.width (inputHeight p f)) f.width (inputHeight p f) chans
    | none => none
  else none

/-- The reason for which INTAKE is refused, if any (R150). -/
def State.intakeRefused (s : State) (n : Nat) (p : Program) : Option Nat :=
  let c := s.ctx n
  let bytes := p.tensorBytes (s.outChannels c.profile)
  if c.state = .free then some 1
  else if p.dest = 0 then
    match Image.regionOf s.fxg.image n with
    | none => some 2
    | some r => if Image.rBytes r < bytes then some 3 else none
  else if s.poolSlots n = 0 ∨ 1024 * s.fget (Fld.TIN_Cn_POOL_SLOT_KIB n) < 128 + bytes then some 4
  else none

/-- The table that step 4 of R150 fetches holds an infinite or NaN value (R159). -/
def Program.badTable (p : Program) : Bool := p.qparam != 0 && p.table.any fun q => fpSpecial q.1 || fpSpecial q.2

/-- INTAKE (R150, R151): an accepted program is pending, and takes effect at once unless the context is RUNNING. -/
def State.intake (s : State) (qp : Nat) (d table : List Byte) : State :=
  if s.noCameras then s.complete qp d St.NOT_AVAILABLE
  else
    let p : Program := { d, table := if rd d 48 8 = 0 then [] else quantTable table (rd d 56 2) }
    match s.intakeFault p with
    | some off => s.malformed qp d off
    | none =>
      let n := rd d 8 1
      match s.intakeRefused n p with
      | some r => s.refuse qp d r
      | none =>
        s.reads qp d (rd d 48 8 != 0) fun s =>
        if p.badTable then s.malformed qp d 48 else
        let s := s.abortIntake n
        let s := s.setCtx n { s.ctx n with pend := some (qp, d, p) }
        if (s.ctx n).state = .running then s else s.programEffect n

/-- INTAKE (R150). -/
def execIntake (qp : Fin 64) (d : List Byte) (table : List Byte) (s : State) : Host.Outcome State Fault Refusal :=
  gate 0x07 qp d s fun s d => s.intake qp d table

/-- INTAKE_PROGRAM_EFFECT (R151): the boundary of the context comes for its pending program. -/
def execIntakeProgramEffect (context : Fin 24) (s : State) : Host.Outcome State Fault Refusal :=
  .next (if (s.ctx context).pend.isSome then (s.streamBoundary context).settle else s)

end Sys2Proof.Machine
end

