-- ==== Sys2Proof/Machine/JournalRows.lean ====
section
/-! DEFINITION. JOURNAL_READ and the bytes of the journal's regions (section 3.4 and 3.5). -/
namespace Sys2Proof.Machine

/-- The bytes of a header copy (Table 3.4). -/
def JrnHeader.bytes (h : JrnHeader) : List Byte :=
  let b := leBytes 4 0x4E4A574B ++ leBytes 2 1 ++ leBytes 1 h.fwPref ++ leBytes 1 h.slotPref ++ leBytes 8 h.generation ++ leBytes 8 h.startCount ++ leBytes 4 0
  b ++ leBytes 4 (crc32c b)

/-- The code of a step's history state (Table 3.5). -/
def HistState.code : HistState → Nat
  | .primary => 0 | .retry => 1 | .skipped => 2 | .halted => 3

/-- The bytes of a step-history entry (Table 3.5). -/
def StepHist.bytes (h : StepHist) (n : Nat) : List Byte :=
  leBytes 1 n ++ leBytes 1 h.state.code ++ leBytes 1 h.consec ++ leBytes 1 h.outcome ++ leBytes 2 h.cause ++ leBytes 2 0 ++ leBytes 4 h.failures ++ leBytes 4 h.failStart

/-- The bytes of a step-history copy (R75); ST01's entry is the one of the retention area. -/
def HistCopy.bytes (c : HistCopy) (st01 : StepHist) : List Byte :=
  let es := (List.range 22).flatMap fun i => (if i = 0 then st01 else c.entries.get (fun _ => {}) (i + 1)).bytes (i + 1)
  leBytes 8 c.generation ++ leBytes 1 22 ++ leBytes 3 0 ++ leBytes 4 (crc32c es) ++ es

/-- What is known of a region, as (offset, bytes): a damaged copy and the bytes behind the stated fields are not, and the spec lays no snapshot out (DESIGN CHOICE, log entry 46). -/
def Journal.parts (j : Journal) : Nat → List (Nat × List Byte)
  | 0 => (if j.headerA.valid then [(0, j.headerA.bytes)] else []) ++ (if j.headerB.valid then [(4096, j.headerB.bytes)] else [])
  | 1 => (if j.hist0.valid then [(0, j.hist0.bytes (j.entry 1))] else []) ++ (if j.hist1.valid then [(2048, j.hist1.bytes (j.entry 1))] else [])
  | _ => []

/-- A byte of a region, where it is known. -/
def partByte : List (Nat × List Byte) → Nat → Option Byte
  | [], _ => none
  | (o, b) :: t, k => if o ≤ k ∧ k < o + b.length then b[k - o]? else partByte t k

/-- The size of regions 0 to 2 (Table 3.3). -/
def regionSize : Nat → Nat
  | 0 => 8192 | 1 => 4096 | _ => 32768

/-- JOURNAL_READ of bytes (R77). -/
def State.readRegion (s : State) (n : Nat) (d : List Byte) (r : Nat) : State :=
  let first := rd d 16 8
  let k := min (min (rd d 24 4) (rd d 28 4)) (regionSize r - first)
  let ps := s.jrn.parts r
  let out := (List.range k).map fun i => (partByte ps (first + i)).getD ((Config.freeValue (s.freeCount + i)).truncate 8)
  ((s.useFree k).hostWrite (rd d 32 8) out).complete n d St.OK 0 (k + 2 ^ 32 * (first + k))

/-- JOURNAL_READ of records (R77). -/
def State.readRing (s : State) (n : Nat) (d : List Byte) : State :=
  let first := rd d 16 8
  let good := s.jrn.ring.filter fun r => r.crcOk
  let lost := match good.head? with
    | some r => decide (first < r.seq)
    | none => false
  let out := (good.filter fun r => decide (first ≤ r.seq)).take (min (rd d 24 4) (rd d 28 4 / 64))
  let next := match out.getLast? with
    | some r => r.seq + 1
    | none => if lost then (good.head?).elim first (·.seq) else first
  (s.hostWrite (rd d 32 8) (out.flatMap JrnRec.bytes)).complete n d St.OK 0 (out.length + (if lost then 2 ^ 31 else 0) + 2 ^ 32 * (next % 2 ^ 32))

/-- JOURNAL_READ (R77, Table 4.25); without a journal it is not available. -/
def State.journalRead (s : State) (n : Nat) (d : List Byte) : State :=
  let r := rd d 8 1
  if s.jrn.failed then s.complete n d St.NOT_AVAILABLE
  else if 3 < r then s.malformed n d 8
  else if r ≠ 3 ∧ regionSize r ≤ rd d 16 8 then s.malformed n d 16
  else if !hostAddr (rd d 32 8) then s.malformed n d 32
  else if r = 3 then s.readRing n d
  else s.readRegion n d r

/-- JOURNAL_READ. -/
def execJournalRead (qp : Fin 64) (d : List Byte) (s : State) : Host.Outcome State Fault Refusal :=
  gate 0x11 qp d s fun s d => s.journalRead qp d

end Sys2Proof.Machine
end

