-- ==== Sys2Proof/Machine/MemRows.lean ====
section
/-! DEFINITION. The rows of the Chainring, module DRAM and the last-level cache (chapter 10). -/
namespace Sys2Proof.Machine

/-! ### The cache (R266 to R272) -/

/-- Does the subtree of `d` levels below node n hold an allowed way? -/
def hasWay (allowed : Nat) : Nat → Nat → Bool
  | 0, n => bitOn allowed (n - 16)
  | d + 1, n => hasWay allowed d (2 * n) || hasWay allowed d (2 * n + 1)

/-- The least recent allowed way below node n of a set's tree: bit n tells which side was used less recently, and a side without an allowed way is left out (R268; DEDUCED, log entry 181). -/
def victimBelow (tree allowed : Nat) : Nat → Nat → Nat
  | 0, n => n - 16
  | d + 1, n =>
    let c := 2 * n + if bitOn tree n then 1 else 0
    if hasWay allowed d c then victimBelow tree allowed d c else victimBelow tree allowed d (if bitOn tree n then 2 * n else 2 * n + 1)

/-- The tree after a use of node n's side: every node above points to the other one. -/
def touchAbove (tree : Nat) : Nat → Nat → Nat
  | 0, _ => tree
  | d + 1, n => touchAbove (setBits tree (n / 2) (n / 2) (1 - n % 2)) d (n / 2)

/-- A way of a set is used (R268). -/
def Mem.touch (m : Mem) (home way : Nat) : Mem := { m with plru := m.plru.put (fun _ => 0) home (touchAbove (m.plru.get (fun _ => 0) home) 4 (way + 16)) }

/-- A line's slice and set. -/
def State.llcHome (s : State) (line : Nat) : Nat :=
  (((Image.placeLine s.mem.layout (64 * line)).bind (·.1)).getD 0) * 2048 + (Config.llcSet line).toNat

/-- The line in the cache. -/
def Mem.llc? (m : Mem) (l : Nat) : Option CacheLine := m.llc.find? fun c => c.line == l

/-- All 64 bytes of a line. -/
def allBytes : Nat := 2 ^ 64 - 1

/-- Is a request a hit? A read needs every byte valid; a write needs the line (R267). -/
def State.isHit (s : State) (r : CacheRequest) : Bool :=
  (s.mem.llc? r.line.toNat).any fun c => r.write || (c.valid &&& r.bytes.toNat) == r.bytes.toNat

/-- A line leaves the cache: L1 copies are invalidated; a modified line is written in an unreserved block slot, and one that is valid in part is merged by the controller, whose read may find
an error (R255, R267, R269). -/
def State.castOut (s : State) (c : CacheLine) (merge : List (Fin 68)) : State :=
  let s := s.evict c.line
  let s := { s with mem := { s.mem with llc := s.mem.llc.filter fun x => x.line != c.line } }
  if c.dirty = 0 then s
  else
    let s := s.writeLine c.line false
    if c.valid = allBytes then s
    else
      let (s, finds) := s.codeFinds c.line merge
      if finds = 1 then s.eccCorrected c.line
      else if finds = 2 then s.eccUncorrectable c.line 14 (bits Cause.ECC_UNCORRECTABLE 11 6)
      else s

/-- The L1 that issued a request: the Hub cores are 0 to 3, the sequencer of engine n is 4 + n (R269). -/
def unitL1 (u : RingUnit) (r : CacheRequest) : Option Nat :=
  match u, r.l1 with
  | .hub pair, some k => some (2 * pair.val + k.val)
  | .engine n, some _ => some (4 + n.val)
  | _, _ => none

/-- The traffic class of a unit's request (Table 10.6); of a unit that the table does not name, the one it is issued with (DESIGN CHOICE, log entry 186). -/
def unitClass (u : RingUnit) (r : CacheRequest) : Nat :=
  match u with
  | .hostInterface => 0
  | .camera => 1
  | .intake => 2
  | .truing => 5
  | .hub _ => 6
  | .engine _ => if r.l1.isNone ∧ (r.cls = 3 ∨ r.cls = 4) then r.cls else 7
  | _ => r.cls

/-- A miss allocates a line in the ways of its class: an empty one, or the least recent one, whose line leaves (R268). -/
def State.allocate (s : State) (u : RingUnit) (r : CacheRequest) (merge : List (Fin 68)) : State :=
  let l := r.line.toNat
  let ways := s.fget (Fld.LLC_CLASSk_WAYS_WAYS (unitClass u r))
  let noAlloc := (Image.windowAt s.mem.layout (64 * l)).any fun w => Image.wNoAlloc (Image.window s.mem.layout w)
  if ways = 0 ∨ noAlloc = true then s
  else
    let h := s.llcHome l
    let used := fun w => s.mem.llc.find? fun c => c.home == h && c.way == w
    let way := match (List.range 16).find? fun w => bitOn ways w && (used w).isNone with
      | some w => w
      | none => victimBelow (s.mem.plru.get (fun _ => 0) h) ways 4 1
    let s := match used way with | some c => s.castOut c merge | none => s
    let c : CacheLine := { line := l, home := h, way, valid := if r.write then r.bytes.toNat else allBytes, dirty := if r.write then r.bytes.toNat else 0 }
    { s with mem := ({ s.mem with llc := s.mem.llc ++ [c] } : Mem).touch h way }

/-- A request finds its line (R267). -/
def State.llcUse (s : State) (c : CacheLine) (r : CacheRequest) : State :=
  let b := r.bytes.toNat
  let c' := if r.write then { c with valid := c.valid ||| b, dirty := c.dirty ||| b }
    else if c.valid &&& b = b then c else { c with valid := allBytes }
  { s with mem := ({ s.mem with llc := s.mem.llc.map fun x => if x.line == c.line then c' else x } : Mem).touch c.home c.way }

/-- What a request does at its home slice: counters, copies, lines, replacement and the errors that its codes find (R267 to R272, Table 10.8). Only lines of HASHED and HALVED windows are
looked up. -/
def State.cacheRequest (s : State) (u : RingUnit) (r : CacheRequest) (error : Nat) (merge : List (Fin 68)) : State :=
  let l := r.line.toNat
  let mode := s.windowMode (64 * l)
  if !s.cached || !(mode == 1 || mode == 2) then s
  else
    let s := s.bump64 (if s.isHit r then Reg.LLC_CLASSk_HITS (unitClass u r) else Reg.LLC_CLASSk_MISSES (unitClass u r))
    let l1 := unitL1 u r
    let off := l1.any fun k => decide (4 ≤ k) && s.isFixed (k - 4)
    let m := match l1 with
      | some k => if off then s.mem else if r.write then s.mem.l1Write k l else s.mem.l1Read k l
      | none => if r.write then s.mem.dropLine l else s.mem
    let found := s.mem.llc? l
    let s := { s with mem := m }
    let s := match found with
      | some c => s.llcUse c r
      | none => s.allocate u r merge
    if error = 2 then s.raiseIn Cause.DIRECTORY_ERROR 12 0
    else if error = 1 then
      match found with
      | some c => if c.dirty = 0 then (s.bump Fld.LLC_ERRORS_CORRECTED).raise Cause.LLC_CORRECTED
        else ({ s with mem := s.mem.taint l }).bump Fld.LLC_ERRORS_UNCORRECTABLE
      | none => s
    else s

/-- Does a request find an error in a line that is modified? (R267, Table 10.8) -/
def State.dirtyError (s : State) (r : CacheRequest) (error : Nat) : Bool :=
  decide (error = 1) && s.cached && (s.mem.llc? r.line.toNat).any fun c => c.dirty != 0

/-- A request is served by DRAM, where no cache serves it: in a block slot of its channel (R261), and what the controller finds where it reads (R255). An uncorrectable line is poisoned here;
its record is the consumer's. `hit` tells that the cache answered, `cached` that it takes the writes. -/
def State.dramServes (s : State) (r : CacheRequest) (fixed hit cached : Bool) (dram : List (Fin 68)) : State :=
  let l := r.line.toNat
  if (s.lineHome l).isNone then s
  else if r.write then (if cached then s else s.writeLine l fixed)
  else if hit then s
  else
    let (s, finds) := (s.readLine l fixed).codeFinds l dram
    if finds = 1 then s.eccCorrected l
    else if finds = 2 then { s with mem := s.mem.taint l }
    else s

/-- May a unit write FIXED windows: a Fixed-gear engine or the Hub firmware (R259)? -/
def State.writesFixed (s : State) : RingUnit → Bool
  | .engine n => s.isFixed n
  | .hub _ => true
  | _ => false

/-! ### The Chainring (R245, R251 to R253, R447) -/

/-- STARVE_CLAIM (R251): the ring runs until the stop's oldest message has made its claim; a message that is due before is delivered first. -/
def State.starveClaim (s : State) (stop : Nat) : State :=
  if !s.ringOn || (s.mem.claim? stop).isSome then s
  else s.ringSync.ringTo (s.fget Fld.CRG_CONFIG_STARVE + 512) fun s => (s.mem.claim? stop).isSome

/-- STARVE_CLAIM. -/
def execStarveClaim (stop : Fin 30) (s : State) : Host.Outcome State Fault Refusal := .next (s.starveClaim stop).settle

/-- A message reaches its destination (R245, R252, R255): a Stem crossing counts, and its codes are checked: 0 no error, 1 a payload error of one bit, 2 of two bits, 3 a header that cannot
be corrected. A request acts at its home, but a write to a FIXED window by a unit that may not is discarded (R259); the line that comes back is its consumer's. -/
def State.delivered (s : State) (a : Aboard) (code error : Nat) (dram merge : List (Fin 68)) : State :=
  let u := a.msg.unit
  let c := a.msg.consumer
  let s := if stopHalf a.src = stopHalf a.dst then s else s.bump64 (if stopHalf a.src = 0 then Reg.CRG_STEM_N2S else Reg.CRG_STEM_S2N)
  if code = 3 then s.raise Cause.CRG_HEADER_ERROR
  else
    let write := a.msg.request.any (·.write)
    let s := match a.msg.request with
      | none => s
      | some r =>
        let l := r.line.toNat
        let dirty := !a.msg.back && s.dirtyError r error
        let looked := s.cached && (s.windowMode (64 * l) == 1 || s.windowMode (64 * l) == 2)
        let hit := s.isHit r && looked
        let barred := write && s.windowMode (64 * l) == 3 && !s.writesFixed u
        let s := if a.msg.back then s
          else if barred then s.consumerFails Cause.FIXED_WRITE c
          else (s.cacheRequest u r error merge).dramServes r a.msg.fixed hit looked dram
        let s := if dirty then (s.raiseIn Cause.LLC_UNCORRECTABLE 12 0).consumerActs Cause.LLC_UNCORRECTABLE c else s
        if a.msg.back && !write && s.mem.poison.contains l then
          let (k, n) := (s.consumerRegion c).getD (14, bits Cause.ECC_UNCORRECTABLE 11 6)
          (s.eccUncorrectable l k n).consumerActs Cause.ECC_UNCORRECTABLE c
        else s
    if code = 1 then (s.bump Fld.CRG_ERRORS_CORRECTED).raise Cause.CRG_CORRECTED
    else if code = 2 then
      let s := s.bump Fld.CRG_ERRORS_POISONED
      match a.msg.request with
      | some r => if write then ({ s with mem := s.mem.taint r.line.toNat }).raise Cause.CRG_POISON else s.consumerFails Cause.CRG_POISON c
      | none => s.consumerFails Cause.CRG_POISON c
    else s

/-- The ring runs for up to `cycles` cycles, and the first message that is due is delivered (R244 to R251). -/
def State.delivery (s : State) (issued : List RingMsg) (cycles code error : Nat) (dram merge : List (Fin 68)) : State :=
  if !s.ringOn then s
  else
  let s := (s.ringSync.issue issued).ringTo cycles fun _ => false
  match s.mem.arrived with
  | some a => ({ s with mem := { s.mem with aboard := s.mem.aboard.erase a } }).delivered a code error dram merge
  | none => s

/-- CARRIAGE_DELIVERY (R245): `issued` are the messages issued since the last one, `cycles` bounds how long the ring runs. -/
def execCarriageDelivery (issued : List RingMsg) (cycles : Word) (code : Fin 4) (error : Fin 3) (dram merge : List (Fin 68)) (s : State) :
    Host.Outcome State Fault Refusal := .next (s.delivery issued cycles.toNat code error dram merge).settle

/-- CHAIN_TIMEOUT (R447): DETAIL byte 24 is the stop of the requester (Table 18.5). -/
def execChainTimeout (consumer : Consumer) (s : State) : Host.Outcome State Fault Refusal :=
  .next ((s.raiseFor Cause.CHAIN_TIMEOUT consumer (requesterStop consumer)).consumerActs Cause.CHAIN_TIMEOUT consumer).settle

/-! ### Module DRAM (R255, R264, R265) -/

/-- The errors that a scrub finds on a line of its channel (R254, R255). -/
def State.scrubError (s : State) (ch : Nat) (x : BitVec 29 × List (Fin 68)) : State :=
  let l := x.1.toNat
  if (s.lineHome l).all fun h => h.1 != ch then s
  else
    let (s, finds) := s.codeFinds l x.2
    if finds = 1 then s.eccCorrected l
    else if finds = 2 then s.eccUncorrectable l 14 (bits Cause.ECC_UNCORRECTABLE 11 6)
    else s

/-- The scrub of a channel. -/
def Mem.scrub (m : Mem) (ch : Nat) : Scrub := m.scrubs.get (fun _ => {}) ch
/-- Set the scrub of a channel. -/
def State.setScrub (s : State) (ch : Nat) (x : Scrub) : State := { s with mem := { s.mem with scrubs := s.mem.scrubs.put (fun _ => {}) ch x } }
/-- The lines of a channel that a new period forgets to have corrected (R255). -/
def State.newPeriod (s : State) (ch : Nat) : State :=
  { s with mem := { s.mem with corrected := s.mem.corrected.filter fun l => (s.lineHome l).any fun h => h.1 != ch } }

/-- A scrub of a channel, in unreserved block slots (R265): the errors found, whether the period of SCRUB_H hours passes before the pass ends, which it then goes on to do, and whether the pass
has ended. The next pass begins a period after this one did, or at once if it was late (DESIGN CHOICE, log entry 187). -/
def State.scrubPass (s : State) (ch : Nat) (errors : List (BitVec 29 × List (Fin 68))) (late ended : Bool) : State :=
  if !s.ringOn || (s.blockFor ch false).isNone then s
  else
    let x := s.mem.scrub ch
    let period := s.fget Fld.MEM_CONFIG_SCRUB_H * 3600000000000
    let s := errors.foldl (fun s x => s.scrubError ch x) s
    let s := if late && !x.late then ((((s.passUntil (x.since + period)).raise Cause.SCRUB_LATE).newPeriod ch).setScrub ch { x with late := true }) else s
    if ended then
      let late := (s.mem.scrub ch).late
      ((s.bump Fld.MEM_SCRUB_PASSES_COUNT).newPeriod ch).setScrub ch { since := if late then s.now else x.since + period }
    else s

/-- SCRUB_PASS (R265). -/
def execScrubPass (channel : Fin 8) (errors : List (BitVec 29 × List (Fin 68))) (late ended : Bool) (s : State) : Host.Outcome State Fault Refusal :=
  .next (s.scrubPass channel errors late ended).settle

/-- A device of a channel reports its temperature: 0 normal, 1 in its highest range, 2 above it (R264, Table 10.10). -/
def State.dramTemp (s : State) (ch range : Nat) : State :=
  let h := setBits (s.fget Fld.MEM_STATUS_HOT) ch ch (if range = 0 then 0 else 1)
  let s := s.fset Fld.MEM_STATUS_HOT h
  if range = 2 then s.raise Cause.DRAM_OVERTEMP else s

/-- DRAM_OVERTEMP (R264). -/
def execDramOvertemp (channel : Fin 8) (range : Fin 3) (s : State) : Host.Outcome State Fault Refusal := .next (s.dramTemp channel range).settle

/-! ### TASK_FAULT (R309) -/

/-- TASK_FAULT: 0 an illegal instruction, a bad address or a misaligned access, 1 an access outside every window, 2 a write to a FIXED window. -/
def execTaskFault (engine : Fin 16) (what : Fin 3) (s : State) : Host.Outcome State Fault Refusal :=
  .next (s.sequencerFault engine (if what = 0 then Cause.TASK_FAULT else if what = 1 then Cause.NO_WINDOW else Cause.FIXED_WRITE)).settle

end Sys2Proof.Machine
end

