-- ==== Sys2Proof/Machine/SerialRows.lean ====
section
/-! DEFINITION. The serial ports: characters, frames, datagrams both ways, sending (section 17.8). -/
namespace Sys2Proof.Machine

/-- Serial port n. -/
def State.serPort (s : State) (n : Nat) : SerPort := s.ser.get (fun _ => {}) n
/-- Set serial port n. -/
def State.setSer (s : State) (n : Nat) (p : SerPort) : State := { s with ser := s.ser.put (fun _ => {}) n p }
/-- A serial port runs: in operation at PL0 to PL3, with MODE other than 0. -/
def State.serOn (s : State) (n : Nat) : Bool := s.innerOn && s.fget (Fld.SER_n_CFG_MODE n) != 0

/-- The 16-bit ones' complement sum of bytes, big-endian, folded. -/
def onesSum : Nat → List Byte → Nat
  | acc, [] => acc
  | acc, [a] => (acc + 256 * a.toNat) % 65535
  | acc, a :: b :: t => onesSum ((acc + 256 * a.toNat + b.toNat) % 65535) t

/-- The IPv4 header checksum. -/
def ipSum (b : List Byte) : Nat := 65535 - onesSum 0 b

/-- An IPv4 UDP datagram of the internal port, from its EtherType: the fields that the spec does not state are free (DESIGN CHOICE, log entry 45). -/
def udpFrame (src dst sport dport seq : Nat) (pay : List Byte) : List Byte :=
  let len := 8 + pay.length
  let a := beBytes 1 0x45 ++ beBytes 1 Config.ipService.toNat ++ beBytes 2 (20 + len) ++ beBytes 4 (Config.ipIdent seq).toNat ++ beBytes 1 Config.ipTtl.toNat ++ beBytes 1 17
  let z := beBytes 4 src ++ beBytes 4 dst
  beBytes 2 0x0800 ++ a ++ beBytes 2 (ipSum (a ++ z)) ++ z ++ beBytes 2 sport ++ beBytes 2 dport ++ beBytes 2 len ++ beBytes 2 (Config.udpSum seq).toNat ++ pay

/-- The payload of a received frame (Table 17.6): `status` 0 OK, 1 COLLISION, 2 OVERLONG. -/
def serPayload (n status quality seq : Nat) (f : SerFrame) : List Byte :=
  leBytes 1 n ++ leBytes 1 (status + (if f.framing then 4 else 0) + 8 * quality) ++ leBytes 2 f.chars.length ++ leBytes 4 seq ++ leBytes 8 f.tStart ++ leBytes 8 f.tEnd ++ f.chars

/-- A frame has been received (R426): it is counted, and sent as a datagram unless the bridge is off. -/
def State.serClose (s : State) (n status : Nat) (f : SerFrame) : State :=
  let seq := (s.serPort n).seq + 1
  let s := (s.setSer n { s.serPort n with frame := none, framing := false, seq }).bump (Fld.SER_n_FRAMES_COUNT n)
  let sport := s.fget (Fld.SER_n_PORTS_LOCAL_PORT n)
  if sport = 0 then s
  else
    let pay := serPayload n status s.tb.quality seq f
    s.bridge 6 {
      dst := s.word64 (Reg.SER_n_HOST_MAC n) % 2 ^ 48, src := s.word64 Reg.SW_MAC % 2 ^ 48
      vid := Config.internalVid.toNat, pcp := Config.internalPcp.toNat
      rest := udpFrame (s.word Reg.SW_IPV4) (s.word (Reg.SER_n_HOST_IP n)) sport (s.fget (Fld.SER_n_PORTS_HOST_PORT n)) seq pay }

/-- A valid character (R424, R425): it begins or continues a frame; the 1,024th closes it with OVERLONG. -/
def State.serChar (s : State) (n v t u mv : Nat) : State :=
  let p := s.serPort n
  let b : Byte := BitVec.ofNat 8 v
  if p.skip then s
  else
    match p.frame with
    | none =>
      (s.setSer n { p with frame := some ⟨[b], t, u, p.framing⟩, resync := false, framing := false }).fset (Fld.SER_n_AMPLITUDE_MV n) mv
    | some f =>
      let f := { f with chars := f.chars ++ [b], tEnd := u }
      if 1024 ≤ f.chars.length then
        let s := s.serClose n 2 f
        s.setSer n { s.serPort n with skip := true }
      else s.setSer n { p with frame := some f }

/-- A character with an invalid stop bit or a parity error (R422): discarded and counted; its frame carries FRAMING. -/
def State.serBad (s : State) (n : Nat) : State :=
  let s := s.bump (Fld.SER_n_ERRORS_FRAMING n)
  let p := s.serPort n
  if p.skip || p.resync then s
  else
    match p.frame with
    | some f => s.setSer n { p with frame := some { f with framing := true } }
    | none => s.setSer n { p with framing := true }

/-! ### Sampling a character (R421 to R423) -/

/-- Data bits of a port's characters. -/
def State.serBits (s : State) (n : Nat) : Nat := if s.fget (Fld.SER_n_CFG_DATA7 n) = 1 then 7 else 8

/-- A character's levels as sent: start bit, data bits least significant first, parity bit, stop bits (R421). -/
def State.serSends (s : State) (n : Nat) (v : BitVec 8) (l : SerialLine) : List Bool :=
  false :: ((List.range (s.serBits n)).map fun i => v.getLsbD i) ++ (if s.fget (Fld.SER_n_CFG_PARITY n) = 0 then [] else [l.parity]) ++
    List.replicate (1 + s.fget (Fld.SER_n_CFG_STOP2 n)) l.stop

/-- The level of the line t/64 bits of the configured rate after the start edge: a sender at another rate is ahead or behind (R423); the line is idle after the character, until the next
falling edge. -/
def lineLevel (l : SerialLine) (sends : List Bool) (baud t : Nat) : Bool :=
  if l.next.any fun e => e ≤ t then false else sends.getD (t * l.rate / (64 * baud)) true

/-- When sample i of bit b is taken, from the true start edge (R422). -/
def lineSampleAt (l : SerialLine) (b i : Nat) : Nat := 64 * b + 4 * i + l.late

/-- Sample i of bit b. -/
def lineSample (l : SerialLine) (sends : List Bool) (baud b i : Nat) : Bool := lineLevel l sends baud (lineSampleAt l b i) != l.flips.contains (b, i)

/-- The majority of samples 7, 8 and 9 of bit b. -/
def lineMajority (l : SerialLine) (sends : List Bool) (baud b : Nat) : Bool :=
  let x := lineSample l sends baud b 7
  let y := lineSample l sends baud b 8
  let z := lineSample l sends baud b 9
  x && y || y && z || x && z

/-- Is the stop bit, bit b, valid? By samples 7 and 8 alone where the next character begins before sample 9 (R422). -/
def lineStopOk (l : SerialLine) (sends : List Bool) (baud b : Nat) : Bool :=
  if l.next.any fun e => decide (lineSampleAt l b 8 ≤ e) && decide (e < lineSampleAt l b 9) then lineSample l sends baud b 7 && lineSample l sends baud b 8
  else lineMajority l sends baud b

/-- What the receiver makes of a character: its data and whether parity and stop are valid; none if the start edge is ignored (R422). -/
def State.serReceives (s : State) (n : Nat) (v : BitVec 8) (l : SerialLine) : Option (Nat × Bool) :=
  let sends := s.serSends n v l
  let bit := lineMajority l sends (s.fget (Fld.SER_n_BAUD_BAUD n))
  let k := s.serBits n
  let parity := s.fget (Fld.SER_n_CFG_PARITY n)
  let data := (List.range k).map fun i => bit (i + 1)
  if bit 0 then none
  else
    let odd := (data ++ if parity = 0 then [] else [bit (k + 1)]).foldl (fun a b => a != b) false
    let stop := lineStopOk l sends (s.fget (Fld.SER_n_BAUD_BAUD n)) (k + 1 + if parity = 0 then 0 else 1)
    some (((List.range k).filter (data.getD · false) |>.map (2 ^ ·)).sum, stop && (parity == 0 || odd == decide (parity = 2)))

/-- A number of bit times of port n, in ns. -/
def State.serNs (s : State) (n k : Nat) : Nat := k * 1000000000 / s.fget (Fld.SER_n_BAUD_BAUD n)

/-- IDLE_BITS of port n, in ns. -/
def State.idleNs (s : State) (n : Nat) : Nat := s.serNs n (s.fget (Fld.SER_n_CFG_IDLE_BITS n))

/-- The line has been idle for IDLE_BITS after the last stop bit (R424): the frame ends. -/
def State.serIdle (s : State) (n : Nat) : State :=
  let p := s.serPort n
  let s := match p.frame with
    | some f => (s.passUntil (max f.tEnd p.rxEnd + s.idleNs n)).serClose n 0 f
    | none => s
  s.setSer n { s.serPort n with skip := false, resync := false, framing := false }

/-- A character whose start edge comes after an idle gap finds the frame before it ended (R424). -/
def State.serGap (s : State) (n first : Nat) : State :=
  let p := s.serPort n
  if (p.frame.isSome || p.skip || p.resync || p.framing) && decide (p.rxEnd + s.idleNs n ≤ first) then s.serIdle n else s

/-- Does an amplitude exceed the reference of the frame in progress by more than STEP_PCT percent? (R425) -/
def State.serStepped (s : State) (n mv : Nat) : Bool :=
  (s.serPort n).frame.isSome && !(s.serPort n).resync && decide (s.fget (Fld.SER_n_AMPLITUDE_MV n) * (100 + s.fget (Fld.SER_n_CFG_STEP_PCT n)) < 100 * mv)

/-- SER_COLLISION, at most once per second per port (R425). -/
def State.serCollision (s : State) (n : Nat) : State :=
  let p := s.serPort n
  if dueAgain s.now p.collisionAt 1000000000 then (s.setSer n { p with collisionAt := some s.now }).raise Cause.SER_COLLISION else s

/-- A step of the amplitude (R425): the frame in progress closes with COLLISION, and characters wait for a clean one. -/
def State.serStep (s : State) (n : Nat) : State :=
  let s := match (s.serPort n).frame with
    | some f => (s.serClose n 1 f).bump (Fld.SER_n_ERRORS_COLLISIONS n)
    | none => s
  (s.setSer n { s.serPort n with resync := true }).serCollision n

/-- A character has been received (R422 to R425): one whose start bit is stronger than its frame's reference allows is the character in progress at that step, and discarded. -/
def State.serTakes (s : State) (n v t u mv : Nat) (valid : Bool) : State :=
  let s := (s.serGap n t).passUntil u
  let step := s.serStepped n mv
  let s := if step then s.serStep n else if valid then s.serChar n v t u mv else s.serBad n
  s.setSer n { s.serPort n with rxEnd := u }

/-- SERIAL_CHARACTER (R422 to R425). -/
def execSerialCharacter (port : Fin 2) (value : BitVec 8) (first last : BitVec 64) (line : SerialLine) (amplitude : BitVec 16) (s : State) :
    Host.Outcome State Fault Refusal :=
  .next (if s.serOn port then
      match s.serReceives port value line with
      | some (v, valid) => (s.serTakes port v first.toNat last.toNat amplitude.toNat valid).settle
      | none => s
    else s)

/-- SERIAL_IDLE (R424, R426). -/
def execSerialIdle (port : Fin 2) (s : State) : Host.Outcome State Fault Refusal :=
  .next (if s.serOn port then (s.serIdle port).settle else s)

/-- The front frame of the transmit queue ends after `k` characters, with SER_TX_COLLISION (R428), or whole. -/
def State.serSent (s : State) (n : Nat) (broken : Option Nat) : State :=
  let p := s.serPort n
  match p.queue with
  | [] => s
  | (tag, chars) :: t =>
    match broken with
    | none => s.setSer n { p with queue := t, sent := (tag, chars) :: p.sent }
    | some k =>
      let s := s.setSer n { p with queue := t, sent := (tag, chars.take k) :: p.sent, skip := true }
      s.raise Cause.SER_TX_COLLISION (tag + 2 ^ 32 * n)

/-- AMPLITUDE_STEP (R425, R428): while receiving, or after `sending` characters of the front frame in half-duplex mode. -/
def execAmplitudeStep (port : Fin 2) (sending : Option (Fin 1024)) (s : State) : Host.Outcome State Fault Refusal :=
  .next (if s.serOn port then
      (match sending with
      | some k => if s.fget (Fld.SER_n_CFG_MODE port) = 1 then s.serSent port (some k.val) else s
      | none => s.serStep port).settle
    else s)

/-- Bits of a character on the line (R421). -/
def State.charBits (s : State) (n : Nat) : Nat := (s.serSends n 0 { rate := 0 }).length

/-- The front frame is sent: after an idle gap, and in half-duplex mode after the driver's TURN_BITS, its characters take their bit times (R427). -/
def State.serDrive (s : State) (n : Nat) (half : Bool) (broken : Option Nat) : State :=
  let p := s.serPort n
  match p.queue with
  | [] => s
  | (_, chars) :: _ =>
    let k := match broken with | some k => min (k + 1) chars.length | none => chars.length
    let s := s.passUntil ((if half then max p.rxEnd p.txEnd else p.txEnd) + s.idleNs n)
    let s := s.passUntil (s.now + s.serNs n ((if half then s.fget (Fld.SER_n_CFG_TURN_BITS n) else 0) + k * s.charBits n))
    (s.setSer n { s.serPort n with txEnd := s.now }).serSent n broken

/-- SERIAL_SEND (R427, R428): after an idle gap the front frame is sent; in half-duplex mode a character may read back wrong after `mismatch` good ones. -/
def execSerialSend (port : Fin 2) (mismatch : Option (Fin 1024)) (s : State) : Host.Outcome State Fault Refusal :=
  .next (
    let p := s.serPort port
    let half := decide (s.fget (Fld.SER_n_CFG_MODE port) = 1)
    if s.serOn port && (!half || (p.frame.isNone && !p.skip)) then
      (s.serDrive port half (if half then mismatch.map Fin.val else none)).settle
    else s)

/-- A datagram for the bridge (R427): `udp` is its UDP part; queued, or discarded with SER_TX_DROP. -/
def State.serDatagram (s : State) (n : Nat) (whole : Bool) (udp : List Byte) : State :=
  let pay := udp.drop 8
  let len := rd pay 2 2
  let p := s.serPort n
  if !s.innerOn then s
  else if whole && decide (rdBe udp 4 2 = 16 + len) && decide (16 + len ≤ udp.length) && decide (1 ≤ len ∧ len ≤ 1024) && rd pay 0 1 == n &&
      decide (p.queue.length < 16) then
    s.setSer n { p with queue := p.queue ++ [(rd pay 4 4, slice pay 8 len)] }
  else s.raise Cause.SER_TX_DROP

end Sys2Proof.Machine
end

