-- ==== Sys2Proof/Machine/SupplyRows.lean ====
section
/-! DEFINITION. The rows of supply, power levels, sleep and wake (chapter 2). -/
namespace Sys2Proof.Machine

/-! ### Supply and bank -/

/-- Raise a record that acts no further (R25). -/
def State.raiseQuiet (s : State) (code : Nat) : State :=
  let a := s.brk.actions
  let s := s.raise code
  { s with brk := { s.brk with actions := a } }

/-- A measurement of E_FULL (R30, R31): BANK_WORN below 1.56 J, BANK_FAILED below 0.80 J. -/
def State.bankMeasured (s : State) (mJ : Nat) : State :=
  let s := { s with sup := { s.sup with eFull := mJ } }
  let s := if mJ < 1560 then s.raise Cause.BANK_WORN else s
  if mJ < 800 then s.raise Cause.BANK_FAILED else s

/-- The conditions under which the module leaves Off, V_in having stayed inside V_OK for 1 s (R30). -/
def State.mayStart (s : State) : Bool := s.vOk && s.sup.restorable && decide (200 ≤ s.sup.eFull)

/-- The time until V_in has stayed inside V_OK for `ns` (R30, R49). -/
def State.passVOk (s : State) (ns : Nat) : State := s.sup.vOkSince.elim s fun t => s.passUntil (t + ns)

/-- A start begins at the supply level that its triggers demand: with V_in inside V_OK no voltage trigger is active, and an
energy trigger that a worn bank can never rise above stays active (R31, R32, R43). -/
def Supply.atStart (p : Supply) (now : Nat) : Supply :=
  let p := { p with vLow1 := false, vLow2 := false, vInt := false, vHigh1 := false, vHigh2 := false }
  { p with supplyLevel := p.demand, levelAt := now }

/-- R30 decides, the hold of V_OK being over: a start from Off, or the attempt that E4 had abandoned (R65). -/
def State.leaveOff (s : State) : State :=
  if s.mayStart then
    let s := s.passVOk 1000000000
    let s := { s with sup := s.sup.atStart s.now }
    if s.sup.abandoned then s.beginAttempt 3 else s.startFromOff
  else s

/-- SUPPLY_START (R24, R25, R29, R30): supply has risen, or has held, with the strap, V_in (10 mV), E and E_FULL (mJ) given.
From Off the strap is read; code 6 or 7 keeps the module in the Sprout domain. -/
def State.supplyStart (s : State) (strap vin e eFull : Nat) : State :=
  if s.sup.power = .off then
    let s := { s with sup := { (({} : Supply)) with power := .sprout, strap, eNow := e, eFull, strapBad := decide (6 ≤ strap) } }
    let s := { s with sup := s.sup.see s.now vin }
    if 6 ≤ strap then s.raiseQuiet Cause.STRAP_INVALID else (s.bankMeasured eFull).leaveOff
  else if s.sup.power = .sprout ∧ s.sup.strapBad = false then
    let s := { s with sup := ({ s.sup with eNow := e, eFull }).see s.now vin }
    (s.bankMeasured eFull).leaveOff
  else s

/-- SUPPLY_START. -/
def execSupplyStart (strap : BitVec 3) (vin e eFull : BitVec 16) (s : State) : Host.Outcome State Fault Refusal :=
  .next (s.supplyStart strap.toNat vin.toNat e.toNat eFull.toNat).settle

/-- BANK_MEASUREMENT (R31). -/
def execBankMeasurement (mJ : BitVec 16) (s : State) : Host.Outcome State Fault Refusal :=
  .next (s.bankMeasured mJ.toNat).settle

/-- VOLTAGE_TRIGGER (R33): V_in is `vin`, and if the trigger's count runs then, time goes on to the end of its dwell; it has not come back by 0.02 Un meanwhile. -/
def State.voltageTrigger (s : State) (t : VTrig) (vin : Nat) : State :=
  if s.sup.power = .off then s
  else
    let s := s.sampleVin vin
    match s.sup.count t with
    | none => s
    | some c => (s.passUntil (c + vDwell t)).trigDue

/-- VOLTAGE_TRIGGER. -/
def execVoltageTrigger (t : Fin 5) (vin : BitVec 16) (s : State) : Host.Outcome State Fault Refusal :=
  .next (s.voltageTrigger t vin.toNat).settle

/-- VOLTAGE_TRIGGER_CLEAR (R33): V_in has come back past the threshold by 0.02 Un. -/
def execVoltageTriggerClear (t : Fin 5) (vin : BitVec 16) (s : State) : Host.Outcome State Fault Refusal :=
  .next (if s.sup.power ≠ .off ∧ vRecovered s.sup.strap vin.toNat t = true then
      (s.sampleVin vin.toNat).settle
    else s)

/-- A start or a wake is under way and not yet in operation or in Maintenance state. -/
def State.startUnderWay (s : State) : Bool :=
  (decide (s.sup.power = .starting) && decide (s.start.phase ≠ .maintenance)) ||
    (decide (s.sup.power = .doze) && s.sup.waking)

/-- ENERGY_TRIGGER (R34): the bank energy is `e` mJ; every trigger above it acts at once. -/
def State.energyTrigger (s : State) (e : Nat) : State :=
  if s.sup.power = .off then s
  else
    let s := { s with sup := ({ s.sup with eNow := e }).spells s.now, start := { s.start with supplyLost := s.start.supplyLost || decide (e < 200) } }
    let s := if e < 200 ∧ 100 ≤ e ∧ s.startUnderWay = true then s.abandonStart else s
    s.supplyDemand

/-- ENERGY_TRIGGER. -/
def execEnergyTrigger (e : BitVec 16) (s : State) : Host.Outcome State Fault Refusal := .next (s.energyTrigger e.toNat).settle

/-- The restore dwell in ns (PWR_CONFIG.RESTORE_DWELL, units of 0.5 s). -/
def State.restoreDwell (s : State) : Nat := 500000000 * s.fget Fld.PWR_CONFIG_RESTORE_DWELL

/-- LEVEL_RESTORE (R38): V_in and E are sampled; when both are good, time goes on to the end of the restore dwell, counted from the later of the start of the good spell and
the last change of the supply level, and the supply level falls by one step if no trigger demands the level being left. PL5 is never restored (R39). -/
def State.levelRestore (s : State) (vin e : Nat) : State :=
  if s.sup.power = .off then s else
    let s := (s.sampleVin vin).energyTrigger e
    match s.sup.goodSince with
    | none => s
    | some g =>
      if 0 < s.sup.supplyLevel ∧ s.sup.supplyLevel < 5 ∧ s.sup.demand < s.sup.supplyLevel ∧ s.sup.flushing = false then
        let s := s.passUntil (max g s.sup.levelAt + s.restoreDwell)
        ({ s with sup := { s.sup with supplyLevel := s.sup.supplyLevel - 1, levelAt := s.now } }).setLevels
      else s

/-- LEVEL_RESTORE. -/
def execLevelRestore (vin e : BitVec 16) (s : State) : Host.Outcome State Fault Refusal :=
  .next (s.levelRestore vin.toNat e.toNat).settle

/-- ORDERLY_OFF_DONE (R37, R39): the journal flush has ended; the module goes Off, and a latched wake is lost (R49). -/
def execOrderlyOffDone (s : State) : Host.Outcome State Fault Refusal :=
  .next (if s.sup.flushing then
      let s := (s.actRounds 8).fastDomainOff
      let s := s.unitsReset
      ({ s with
        sup := { (({} : Supply)) with strap := s.sup.strap, eFull := s.sup.eFull }
        regs := [], latches := [], holding := [], stWords := [], qps := []
        hif := { (({} : Hif)) with sent := s.hif.sent, hostWrites := s.hif.hostWrites, hostRead := s.hif.hostRead, perst := s.hif.perst }
        brk := { (({} : Brake)) with wdogLevel := s.brk.wdogLevel, safeSup := s.brk.safeSup }, start := { (({} : Start)) with failedAttempts := s.start.failedAttempts, cut := s.start.cut } }).settle
    else s)

/-- CRYSTAL_FAIL (R43): the 32.768 kHz oscillator stops; the Sprout controller falls back to its internal oscillator. -/
def execCrystalFail (s : State) : Host.Outcome State Fault Refusal :=
  .next (({ s with sup := { s.sup with crystalFailed := true } }).raise Cause.CRYSTAL_FAIL).settle

/-! ### Sleep and wake -/

/-- A wake source meets its condition (Table 2.9): 0 motion, 1 door, 2 network, 3 host, 4 timer. `coarse` is the net coarse
edge count of ENC0 since sleep entry; `sw` and `rising` name the edge of a magnetic-switch input. -/
def State.wakeCondition (s : State) (src : Nat) (coarse : Int) (sw : Nat) (rising : Bool) : Bool :=
  let sleeping := decide (s.sup.power = .doze) || decide (s.sup.power = .hold)
  let enabled := bitOn (s.word Reg.SPR_WAKE_ENABLE) src && bitOn s.sup.wakeMask src
  sleeping && enabled && !s.sup.waking && !s.sup.flushing &&
    (if src = 0 then decide (s.fget Fld.SPR_MOTION_EDGES ≤ coarse.natAbs)
     else if src = 1 then bitOn (s.fget Fld.SPR_DOOR_SELECT) sw && (bitOn (s.fget Fld.SPR_DOOR_POLARITY) sw == rising)
     else if src = 2 then decide (s.sup.power = .doze)
     else if src = 4 then decide (s.sup.timerS ≠ 0)
     else true)

/-- A wake starts (R45, R47, R48): SPR_WAKE_CAUSE takes the source, WAKE# is asserted unless the host woke the module; from
Hold the reduced start sequence begins. -/
def State.startWake (s : State) (src : Nat) : State :=
  let s := s.setWord Reg.SPR_WAKE_CAUSE (s.word Reg.SPR_WAKE_CAUSE ||| 2 ^ src)
  let hold := decide (s.sup.power = .hold)
  let s := { s with sup := { s.sup with
    waking := true, wakeSrc := src, wakeLatched := none, wakePin := decide (src ≠ 3), wakeAt := s.now } }
  if hold then s.beginAttempt 1 else s

/-- WAKE (R47, R49): a wake event while V_in is outside V_OK is latched; the timer's comes TIMER_S seconds after sleep entry. -/
def State.wake (s : State) (src vin : Nat) (coarse : Int) (sw : Nat) (rising : Bool) : State :=
  if s.wakeCondition src coarse sw rising then
    let s := if src = 4 then s.passUntil (s.sup.sleptAt + s.sup.timerS * 1000000000) else s
    let s := s.sampleVin vin
    let s := { s with sup := { s.sup with coarse } }
    if s.vOk then s.startWake src else { s with sup := { s.sup with wakeLatched := s.sup.wakeLatched.or (some src) } }
  else s

/-- WAKE. -/
def execWake (src : Fin 5) (vin : BitVec 16) (coarse : Int) (sw : Fin 4) (rising : Bool) (s : State) :
    Host.Outcome State Fault Refusal :=
  .next (s.wake src vin.toNat coarse sw rising).settle

/-- The lowest bit set in `m` below `n`. -/
def firstBit (m n : Nat) : Option Nat := (List.range n).find? (bitOn m)

/-- SLEEP_STROBE (R44, R468): once in 1 ms the Sprout controller reads ENC0 and the MSW inputs. The coarse counter counts at
most one edge, `step` 0, 1 or 2 for none, one up, one down; an MSW edge counts when two strobes in a row read the new level.
With neither MOTION nor DOOR enabled nothing is strobed. -/
def State.strobe (s : State) (step : Nat) (msw : Nat) : State :=
  let e := s.word Reg.SPR_WAKE_ENABLE
  if (s.sup.power = .doze ∨ s.sup.power = .hold) ∧ (bitOn e 0 = true ∨ bitOn e 1 = true) then
    let coarse := s.sup.coarse + (if step = 1 then 1 else if step = 2 then -1 else 0)
    let settled := s.sup.mswStable ^^^ ((s.sup.mswStable ^^^ msw) &&& (15 - (s.sup.mswLast ^^^ msw)))
    let edges := (settled ^^^ s.sup.mswStable) &&& s.fget Fld.SPR_DOOR_SELECT &&&
      (15 - (settled ^^^ s.fget Fld.SPR_DOOR_POLARITY))
    let s := s.passUntil (s.now + 1000000)
    let s := { s with sup := { s.sup with coarse, mswStable := settled, mswLast := msw } }
    let s := s.wake 0 s.sup.vin coarse 0 false
    match firstBit edges 4 with
    | some m => s.wake 1 s.sup.vin coarse m (bitOn settled m)
    | none => s
  else s

/-- SLEEP_STROBE. -/
def execSleepStrobe (step : Fin 3) (msw : BitVec 4) (s : State) : Host.Outcome State Fault Refusal :=
  .next (s.strobe step msw.toNat).settle

/-- LATCHED_WAKE_START (R49): V_in has been inside V_OK for 100 ms. -/
def execLatchedWakeStart (vin : BitVec 16) (s : State) : Host.Outcome State Fault Refusal :=
  .next (match s.sup.wakeLatched with
    | none => s
    | some src =>
      let s := s.sampleVin vin.toNat
      if s.vOk && (decide (s.sup.power = .doze) || decide (s.sup.power = .hold)) && !s.sup.waking && !s.sup.flushing then
        ((s.passVOk 100000000).startWake src).settle else s.settle)

/-- The register snapshot of entry to Hold (R70). -/
def State.takeSnapshot (s : State) : State :=
  { s with jrn := { s.jrn with snapshot :=
    { crcOk := true, regs := s.snapshotRegs, qps := s.snapshotQps, epoch := s.hif.epoch
      timeEpoch := s.tb.timeEpoch, ctxs := s.snapshotCtxs } } }

/-- The module enters Doze or Hold (R45, R54, Table 2.7): the link goes down without LINK_LOST, the outputs are
de-energised, SAFE_OK stops; on entry to Hold the snapshot is written (R70). -/
def State.enterSleep (s : State) (hold : Bool) : State :=
  let s := if hold then s.takeSnapshot else s
  let s := (s.enterSleepUnits hold).outputsOff
  let s := s.msix 65
  { s with
    sup := { s.sup with power := if hold then .hold else .doze, sleepTarget := none, coarse := 0, waking := false, sleptAt := s.now
                        queued := if hold then [] else s.sup.queued }
    hif := { s.hif with linkUp := false }
    brk := { s.brk with warnA := false, warnB := false, warnAvail := false, safeOkA := false, safeOkB := false,
                        wdogOn := false, testPulse := none } }

/-- SLEEP_ENTRY (R45): within 50 ms of the POWER_REQUEST completion. -/
def execSleepEntry (s : State) : Host.Outcome State Fault Refusal :=
  .next (if s.sup.flushing then s else match s.sup.sleepTarget with
    | some .hold => (s.enterSleep true).settle
    | some .doze => (s.enterSleep false).settle
    | _ => s)

/-- DOZE_TO_HOLD (R45): the Doze timer expires; 0 minutes means never. -/
def execDozeToHold (s : State) : Host.Outcome State Fault Refusal :=
  .next (if s.sup.power = .doze ∧ s.sup.waking = false ∧ s.sup.flushing = false ∧ s.fget Fld.PWR_CONFIG_DOZE_TO_HOLD ≠ 0 then
      let s := (s.passUntil (s.sup.sleptAt + s.fget Fld.PWR_CONFIG_DOZE_TO_HOLD * 60000000000)).takeSnapshot
      let s := (s.enterSleepUnits true).msix 65
      ({ s with sup := { s.sup with power := .hold, queued := [] } }).settle
    else s)

/-- DOZE_WAKE_COMPLETE (R45, R46): the module is Active at the effective level; `phases` are the encoder channels' fine
phases as first read (R357). -/
def execDozeWakeComplete (phases : List (Nat × Nat)) (s : State) : Host.Outcome State Fault Refusal :=
  .next (if s.sup.power = .doze ∧ s.sup.waking = true ∧ s.sup.flushing = false then
      let s := { s with
        sup := { s.sup with power := .active, waking := false }
        hif := { s.hif with fetchStopped := false }
        brk := { s.brk with safeOkA := true, safeOkB := true, wdogSince := s.now, opAt := s.now, emitted := [], tests := [] } }
      let s := (s.wakeUnits phases).msix 65
      s.wakeLevel.settle
    else s)

/-- WAKE_RELEASE (R48): 1 s after WAKE# was asserted. -/
def execWakeRelease (s : State) : Host.Outcome State Fault Refusal :=
  .next (if s.sup.wakePin then (({ s with sup := { s.sup with wakePin := false } } : State).passUntil (s.sup.wakeAt + 1000000000)).settle else s)

/-- ENGINE_GATE (R50): an engine has been idle for 1 µs. -/
def execEngineGate (engine : Fin 16) (s : State) : Host.Outcome State Fault Refusal := .next (s.gateEngine engine).settle

/-! ### POWER_REQUEST -/

/-- POWER_REQUEST (R54): a request that arrives while a transition is in progress waits for it to finish (R56). -/
def execPowerRequest (qp : Fin 64) (d : List Byte) (s : State) : Host.Outcome State Fault Refusal :=
  gate 0x0F qp d s (fun s d =>
    if s.sup.request.isSome || s.sup.sleepTarget.isSome || s.sup.flushing then { s with sup := { s.sup with queued := s.sup.queued ++ [(qp.val, d)] } }
    else s.powerRequest qp d)

end Sys2Proof.Machine
end

