-- ==== Sys2Proof/Machine/TimeRows.lean ====
section
/-! DEFINITION. The commands of the time base (chapter 16). -/
namespace Sys2Proof.Machine

/-- The ordinary clock runs (R379, R381). -/
def State.ptpRuns (s : State) : Bool := s.tb.running && s.tb.ptpOn && s.fget Fld.TB_PTP_CFG_ROLE != 0

/-- The ordinary clock sends a message. -/
def State.ptpSend (s : State) (kind : Nat) (fields : List Nat := []) : State :=
  { s with tb := { s.tb with sent := ⟨kind, s.now, fields⟩ :: s.tb.sent } }

/-- The state that the port takes: with ROLE 2 it is slave-only, never MASTER, PRE_MASTER or PASSIVE (R381). -/
def State.ptpAllowed (s : State) (st : Nat) : Nat := if s.fget Fld.TB_PTP_CFG_ROLE = 2 ∧ (st = 3 ∨ st = 6 ∨ st = 7) then 4 else st

/-- No message of a kind leaves sooner than an interval after the last such one. -/
def State.ptpSpaced (s : State) (kind : Nat) (fields : List Nat) (ns : Nat) : State :=
  match s.tb.sent.find? fun m => m.kind == kind && (fields.isEmpty || m.fields == fields) with
  | some m => s.passUntil (m.at' + ns)
  | none => s

/-- What an Announce carries (R381). -/
def State.announceFields (s : State) : List Nat :=
  [s.fget Fld.TB_PTP_PRIO_PRIORITY1, s.fget Fld.TB_PTP_PRIO_PRIORITY2, s.fget Fld.TB_PTP_PRIO_CLOCK_CLASS, 0xFE, 0xA0]

/-- The answer that a message of a type gets: Delay_Resp from a master, Pdelay_Resp under a peer-to-peer profile (R380). -/
def State.ptpAnswer (s : State) (type : Nat) : State :=
  if type = 1 ∧ s.tb.portState = 6 ∧ s.fget Fld.TB_PTP_CFG_PROFILE = 0 then s.ptpSend 3
  else if type = 2 ∧ s.fget Fld.TB_PTP_CFG_PROFILE ≠ 0 then s.ptpSend 4
  else s

/-- PTP_MESSAGE (R381): the state that the profile's state machine gives the port after it, and the offset when it completes a Sync. -/
def execPtpMessage (messageType : BitVec 4) (portState : Fin 10) (sync : Option Int) (s : State) : Host.Outcome State Fault Refusal :=
  .next (if s.ptpRuns then ((s.ptpAnswer messageType.toNat).ptpState (s.ptpAllowed portState) sync).settle else s)

/-- PTP_SYNC_TIMEOUT (R381): four sync intervals without a complete Sync. -/
def execPtpSyncTimeout (s : State) : Host.Outcome State Fault Refusal :=
  .next (match s.tb.syncLast with
    | none => s
    | some t =>
      let s := s.passUntil (t + 4 * s.syncNs)
      (({ s with tb := { s.tb with ptpOk := false, syncLast := none } }).tbCheckSource).settle)

/-- PTP_PORT_TIMER (R381, R392). -/
def execPtpPortTimer (timer : PtpTimer) (s : State) : Host.Outcome State Fault Refusal :=
  .next (match timer with
    | .announceReceipt => if s.ptpRuns then (s.ptpState (if s.fget Fld.TB_PTP_CFG_ROLE = 1 then 6 else 4) none).settle else s
    | .announceSend => if s.ptpRuns && s.tb.portState == 6 then (s.ptpSend 1 s.announceFields).settle else s
    | .syncSend => if s.ptpRuns && s.tb.portState == 6 then ((s.ptpSpaced 0 [] s.syncNs).ptpSend 0).settle else s
    | .peerDelay p delay =>
      let tc := s.tb.running && s.tb.ptpOn && s.fget Fld.TB_PTP_CFG_TC_EN == 1 && s.fget Fld.TB_PTP_CFG_PROFILE == 1
      let own := s.ptpRuns && s.fget Fld.TB_PTP_CFG_PROFILE != 0 && s.fget Fld.TB_PTP_CFG_PORT == p.val
      if tc || own then
        let s := (s.ptpSpaced 2 [p.val] 1000000000).ptpSend 2 [p.val]
        ({ s with tb := { s.tb with pdelay := s.tb.pdelay.put (fun _ => 0) p delay } }).settle
      else s)

/-- PPS_IN_EDGE (R382): an edge at a time, falling or rising, its pulse lasting at least 1 µs or not. -/
def execPpsInEdge (time : BitVec 64) (falling wide : Bool) (s : State) : Host.Outcome State Fault Refusal :=
  .next (
    if s.tb.running && s.tb.ppsOn && s.fget Fld.TB_PPS_CFG_IN_EN == 1 && decide (falling = (s.fget Fld.TB_PPS_CFG_IN_FALLING == 1)) then
      let t := max s.now time.toNat
      ((s.passUntil t).ppsEdge t wide).settle
    else s)

/-- PPS_IN_TIMEOUT (R382): 2 s without an accepted edge. -/
def execPpsInTimeout (s : State) : Host.Outcome State Fault Refusal :=
  .next (match s.tb.ppsLast with
    | none => s
    | some t =>
      let s := s.passUntil (t + 2000000000)
      (({ s with tb := { s.tb with ppsLast := none, ppsCount := 0 } }).tbCheckSource).settle)

/-- PPS_OUT_SECOND (R393): module time reaches its next whole second. -/
def execPpsOutSecond (s : State) : Host.Outcome State Fault Refusal :=
  .next (let t := (s.now / 1000000000 + 1) * 1000000000
    if s.tb.running then ((s.passUntil t).ppsRise t).settle else s)

/-- FORWARD_STEP (R386). -/
def execForwardStep (s : State) : Host.Outcome State Fault Refusal := .next s.forwardStep.settle

/-- STEP_BACK_APPLY (R387). -/
def execStepBackApply (s : State) : Host.Outcome State Fault Refusal := .next s.stepBack.settle

/-- HOLDOVER_EXPIRED (R384, R388). -/
def execHoldoverExpired (s : State) : Host.Outcome State Fault Refusal :=
  .next (match s.tb.holdStart with
    | none => s
    | some t =>
      let s := s.passUntil (t + 1000000000 * s.fget Fld.TB_CONFIG_HOLDOVER_S)
      let s := ({ s with tb := { s.tb with holdStart := none } }).raise Cause.HOLDOVER_EXPIRED
      (if s.tb.st = .holdover then s.tbEnter .unsynced else s.tbQuality).settle)

/-- LAUNCH (R395). -/
def execLaunch (port : Fin 6) (s : State) : Host.Outcome State Fault Refusal := .next (s.launch port).settle

/-- LAUNCH_DEADLINE (R396). -/
def execLaunchDeadline (port : Fin 6) (s : State) : Host.Outcome State Fault Refusal := .next (s.launchDeadline port).settle

/-- TIMED_SEND (R394). -/
def execTimedSend (qp : Fin 64) (d frame : List Byte) (s : State) : Host.Outcome State Fault Refusal :=
  gate 0x0A qp d s fun s d => s.timedSend qp d frame

/-- TIME_STEP_BACK (R387). -/
def execTimeStepBack (qp : Fin 64) (d : List Byte) (s : State) : Host.Outcome State Fault Refusal :=
  gate 0x0E qp d s fun s d => s.timeStepBack qp d

end Sys2Proof.Machine
end

