-- ==== Sys2Proof/Machine/NetRows.lean ====
section
/-! DEFINITION. Received Ethernet frames, gate lists, ageing and links of the switch (sections 17.1 to 17.3, 16.5). -/
namespace Sys2Proof.Machine

/-! ### What a frame carries -/

/-- EtherType of a frame, after its tag. -/
def VFrame.type (f : VFrame) : Nat := rdBe f.rest 0 2
/-- The IPv4 header length of a frame, and whether it is an unfragmented datagram without options. -/
def VFrame.ihl (f : VFrame) : Nat := 4 * (rdBe f.rest 2 1 % 16)
/-- Destination IPv4 address. -/
def VFrame.ipDst (f : VFrame) : Nat := rdBe f.rest 18 4
/-- Is the frame IPv4 UDP, with the UDP header in it? -/
def VFrame.isUdp (f : VFrame) : Bool :=
  f.type == 0x0800 && rdBe f.rest 2 1 / 16 == 4 && decide (20 ≤ f.ihl) && rdBe f.rest 11 1 == 17 && rdBe f.rest 8 2 % 0x2000 == 0
/-- The UDP part of a frame, to the end of the IPv4 datagram. -/
def VFrame.udp (f : VFrame) : List Byte := (f.rest.drop (2 + f.ihl)).take (rdBe f.rest 4 2 - f.ihl)
/-- UDP destination port. -/
def VFrame.udpDst (f : VFrame) : Nat := rdBe f.udp 2 2
/-- Unfragmented and without IP options (R427). -/
def VFrame.plainIp (f : VFrame) : Bool := f.ihl == 20 && rdBe f.rest 8 2 / 0x2000 % 2 == 0

/-- Where a version-2 PTP message begins in the rest of a frame: IEEE 802.3, or UDP over IPv4 at ports 319 and 320. -/
def VFrame.ptpAt (f : VFrame) : Option Nat :=
  let o := if f.type = 0x88F7 then some 2
    else if f.isUdp && (f.udpDst == 319 || f.udpDst == 320) then some (2 + f.ihl + 8)
    else none
  match o with
  | some k => if rdBe f.rest (k + 1) 1 % 16 = 2 then some k else none
  | none => none

/-- The VLAN form of a received frame (R401, step 2): none when it is dropped. -/
def State.frameIn (s : State) (p : Nat) (b : List Byte) : Option VFrame :=
  let f : VFrame :=
    if rdBe b 12 2 = 0x8100 then ⟨rdBe b 0 6, rdBe b 6 6, rdBe b 14 2 % 4096, rdBe b 14 2 / 8192, b.drop 16⟩
    else ⟨rdBe b 0 6, rdBe b 6 6, s.fget (Fld.SW_Pp_VLAN_PVID p), s.fget (Fld.SW_Pp_VLAN_PCP p), b.drop 12⟩
  if rdBe b 12 2 ≠ 0x8100 ∧ s.fget (Fld.SW_Pp_VLAN_DROP_UNTAGGED p) = 1 then none
  else if s.member f.vid p then some f
  else none

/-! ### The steps of R401 -/

/-- The transparent clock works (R379, R392). -/
def State.tcOn (s : State) : Bool := s.tb.running && s.tb.ptpOn && s.fget Fld.TB_PTP_CFG_TC_EN == 1 && decide (s.fget Fld.TB_PTP_CFG_PROFILE ≤ 1)

/-- Is a destination in the block that is never bridged? -/
def reservedMac (mac : Nat) : Bool := mac / 16 == 0x0180C200000

/-- Step 7 for a PTP frame (R381, R392): the transparent clock corrects event messages and ends Pdelay exchanges; otherwise the frame is forwarded unchanged, but for gPTP under
802.1AS. `stamp` is the ingress time stamp at the PHY. -/
def State.ptpForward (s : State) (p : Nat) (f : VFrame) (k stamp : Nat) : State :=
  let type := rdBe f.rest k 1 % 16
  let p2p := s.fget Fld.TB_PTP_CFG_PROFILE == 1
  if s.tcOn then
    if p2p && (type == 2 || type == 3 || type == 10) then
      if type == 2 && !(s.ptpRuns && s.fget Fld.TB_PTP_CFG_PORT == p) then s.ptpSend 4 [p] else s
    else if type ≤ 3 then
      let f := if f.type = 0x0800 then { f with rest := putBytes f.rest (2 + f.ihl + 6) (beBytes 2 0) } else f
      let inAt : Int := (stamp : Int) - s.fget (Fld.TB_Pp_LAT_RX_NS p)
      let extra : Int := if p2p && type == 0 then ((Tbl.get (fun _ => 0) s.tb.pdelay p : Nat) : Int) else 0
      s.bridge p f (some (k + 8, inAt - extra))
    else s.bridge p f
  else if reservedMac f.dst then s
  else s.bridge p f

/-- Is a frame classified to decoder context c? (R131) -/
def State.rtpMatch (s : State) (c : Nat) (f : VFrame) : Bool :=
  let rtp := f.udp.drop 8
  (match s.ctxOf 2 c 0 with
    | some n => (s.ctx n).open?
    | none => false) &&
  f.isUdp && f.udpDst == s.fget (Fld.DEC_Cc_MATCH_UDP_PORT c) && f.udpDst != 0 &&
  (s.fget (Fld.DEC_Cc_MATCH_VLAN_ID c) == 0 || s.fget (Fld.DEC_Cc_MATCH_VLAN_ID c) == f.vid) &&
  rdBe rtp 0 1 / 64 == 2 && rdBe rtp 1 1 % 128 == s.fget (Fld.DEC_Cc_FLOW_PT c) &&
  (s.fget (Fld.DEC_Cc_FLOW_SSRC_EN c) == 0 || rdBe rtp 8 4 == s.word (Reg.DEC_Cc_SSRC c))

/-- The answer to an ARP request (R401, step 6). -/
def State.arpReply (s : State) (p : Nat) (f : VFrame) : State :=
  let mac := s.word64 Reg.SW_MAC % 2 ^ 48
  let rest := beBytes 2 0x0806 ++ beBytes 2 1 ++ beBytes 2 0x0800 ++ beBytes 1 6 ++ beBytes 1 4 ++ beBytes 2 2 ++ beBytes 6 mac ++ beBytes 4 (s.word Reg.SW_IPV4) ++
    slice f.rest 10 10 ++ List.replicate 18 0
  s.sendOn p { dst := rdBe f.rest 10 6, src := mac, vid := f.vid, pcp := f.pcp, rest }

/-- Is the frame an ARP request for SW_IPV4? -/
def State.arpForUs (s : State) (f : VFrame) : Bool :=
  f.type == 0x0806 && rdBe f.rest 2 2 == 1 && rdBe f.rest 4 2 == 0x0800 && rdBe f.rest 8 2 == 1 && rdBe f.rest 26 4 == s.word Reg.SW_IPV4 && s.word Reg.SW_IPV4 != 0

/-- The serial bridge to which a frame goes (R401, step 6). -/
def State.serialFor (s : State) (f : VFrame) : Option Nat :=
  if f.isUdp && f.ipDst == s.word Reg.SW_IPV4 && s.word Reg.SW_IPV4 != 0 && f.udpDst != 0 then
    (List.range 2).find? fun n => s.fget (Fld.SER_n_PORTS_LOCAL_PORT n) == f.udpDst
  else none

/-- Steps 6 and 7 (R401); while SW_IPV4 is 0 no frame is taken under step 6 (R407). -/
def State.frameLast (s : State) (p : Nat) (f : VFrame) : State :=
  if s.arpForUs f then s.arpReply p f
  else
    match s.serialFor f with
    | some n => s.serDatagram n f.plainIp f.udp
    | none =>
      if f.dst = s.word64 Reg.SW_MAC % 2 ^ 48 ∧ s.word Reg.SW_IPV4 ≠ 0 then s
      else if reservedMac f.dst then s
      else s.bridge p f

/-- Steps 3 to 7 (R401) for a frame of a VLAN. -/
def State.frameSteps (s : State) (p : Nat) (f : VFrame) (stamp : Nat) : State :=
  match f.ptpAt with
  | some k => if f.dst = s.word64 Reg.SW_MAC % 2 ^ 48 then s else s.ptpForward p f k stamp
  | none =>
    match (if p < 4 then (List.range 10).find? fun c => s.rtpMatch c f else none) with
    | some c =>
      let s := if !s.innerOn then s else (s.setDec c { s.dec c with silent := false, heard := s.now }).rtpIn c (f.udp.drop 8)
      if f.dst = s.word64 Reg.SW_MAC % 2 ^ 48 ∨ reservedMac f.dst then s else s.bridge p f
    | none =>
      if f.type = 0x88B5 ∧ f.dst = s.ihxMac s.moduleId then s.ihxArrives (f.rest.drop 2)
      else s.frameLast p f

/-- A frame is received on a port of a forwarding switch (R401). -/
def State.frameArrives (s : State) (p : Nat) (b : List Byte) (fcsOk : Bool) (stamp : Nat) : State :=
  if !fcsOk || decide (s.fget (Fld.SW_Pp_CFG_MAX_FRAME p) < b.length) then s.bump (Fld.SW_Pp_DROPS_COUNT p)
  else
    match s.frameIn p b with
    | none => s.bump (Fld.SW_Pp_DROPS_COUNT p)
    | some f => s.frameSteps p f stamp

/-- Is a frame a wake-on-LAN frame? (R406) -/
def State.isWol (s : State) (b : List Byte) : Bool :=
  let mac := s.word64 Reg.SW_MAC % 2 ^ 48
  let pat := beBytes 6 (2 ^ 48 - 1) ++ (List.replicate 16 (beBytes 6 mac)).flatten
  (rdBe b 0 6 == mac || rdBe b 0 6 == 2 ^ 48 - 1) && (List.range b.length).any fun i => (b.drop i).take 102 == pat

/-- FRAME_RECEIVE (R401, R405, R406): a frame without its FCS on an external port. -/
def execFrameReceive (port : Fin 6) (frame : List Byte) (fcsOk : Bool) (stamp : BitVec 64) (s : State) : Host.Outcome State Fault Refusal :=
  .next (
    if s.sup.power = .doze then
      if port.val < 4 && fcsOk && s.isWol frame then (s.wake 2 s.sup.vin s.sup.coarse 0 false).settle else s
    else if s.swOn && s.swUp port then (s.frameArrives port frame fcsOk stamp.toNat).settle
    else s)

/-! ### Gate lists, ageing, links -/

/-- When the gates of a list next change: at the next segment of its cycle, or when a committed list takes effect. -/
def SwPort.nextGate (x : SwPort) (t : Nat) : Option Nat :=
  let g := x.gates
  let own :=
    if !g.on || g.entries.isEmpty || decide (g.cycle = 0) then none
    else
      let o := (((t : Int) - g.base) % (g.cycle : Int)).toNat
      ((g.twice.map (·.1)).find? fun a => decide (o < a)).map fun a => t + (a - o)
  match own, x.nextGates with
  | some a, some (u, _) => some (min a (max u t))
  | some a, none => some a
  | none, some (u, _) => some (max u t)
  | none, none => none

/-- GATE_ENTRY (R403, R404): the next entry of a gate list opens. -/
def execGateEntry (list : Fin 2) (s : State) : Host.Outcome State Fault Refusal :=
  .next (match (s.swPort (4 + list)).nextGate s.now with
    | some t =>
      if s.swOn then
        let s := s.passUntil t
        (s.setSwPort (4 + list) ((s.swPort (4 + list)).gatesAt s.now)).settle
      else s
    | none => s)

/-- FDB_AGEING (R400): an entry unused for AGE_S is removed. -/
def execFdbAgeing (mac : BitVec 48) (vid : BitVec 12) (s : State) : Host.Outcome State Fault Refusal :=
  .next (match s.sw.fdb.find? fun e => e.mac == mac.toNat && e.vid == vid.toNat with
    | some e =>
      let s := s.passUntil (e.used + 1000000000 * s.fget Fld.SW_CONFIG_AGE_S)
      ({ s with sw := { s.sw with fdb := s.sw.fdb.filter fun x => x != e } }).settle
    | none => s)

/-- ETHERNET_LINK_CHANGE (R396, Table 17.8): a link goes up or down. -/
def execEthernetLinkChange (port : Fin 6) (up : Bool) (s : State) : Host.Outcome State Fault Refusal :=
  .next (if s.swOn then
      let m := s.fget Fld.SW_STATUS_LINK_UP
      (s.fset Fld.SW_STATUS_LINK_UP (if up then m ||| 2 ^ port.val else if bitOn m port then m - 2 ^ port.val else m)).settle
    else s)

end Sys2Proof.Machine
end

