-- ==== Sys2Proof/Machine/StepOps.lean ====
section
/-! DEFINITION. How a start step ends: its checks, its effect, and what follows (sections 3.1 to 3.3). -/
namespace Sys2Proof.Machine

/-- Maximum duration of a step in ms: cold primary, cold alternate, Hold wake (Table 3.1). ST22's cold maximum depends on
the host. -/
def stepMax (n : Nat) (holdWake alternate : Bool) : Nat :=
  let cold := [20, 5, 30, 15, 60, 20, 300, 10, 40, 2, 15, 40, 120, 15, 60, 50, 5, 20, 10, 15, 10, 0].getD (n - 1) 0
  let alt := [60, 15, 30, 15, 120, 400, 60, 10, 40, 2, 15, 40, 120, 15, 120, 110, 5, 20, 10, 15, 10, 0].getD (n - 1) 0
  let hold := [20, 5, 0, 5, 40, 20, 0, 10, 20, 2, 5, 0, 0, 15, 30, 25, 5, 20, 10, 10, 10, 2].getD (n - 1) 0
  if alternate then alt else if holdWake then hold else cold

/-- The highest SEQ of a CRC-valid ring record, or 0. -/
def Journal.maxSeq (j : Journal) : Nat := j.ring.foldl (fun m r => if r.crcOk then max m r.seq else m) 0

/-- What the mount finds damaged (StepInput.damage): bits 0 to 5 header A, header B, history 0, history 1, the retention
area and the snapshot fail their CRC; `torn` names ring records that fail theirs. -/
def Journal.damaged (j : Journal) (x : StepInput) : Journal :=
  let m := x.damage.toNat
  { j with
    headerA := { j.headerA with valid := j.headerA.valid && !bitOn m 0 }
    headerB := { j.headerB with valid := j.headerB.valid && !bitOn m 1 }
    hist0 := { j.hist0 with valid := j.hist0.valid && !bitOn m 2 }
    hist1 := { j.hist1 with valid := j.hist1.valid && !bitOn m 3 }
    retOk := j.retOk && !bitOn m 4
    snapshot := { j.snapshot with crcOk := j.snapshot.crcOk && !bitOn m 5 }
    ring := j.ring.map fun r => if x.torn.contains r.seq then { r with crcOk := false } else r }

/-- The mount fails: no valid header copy, or no valid history copy (R74). -/
def Journal.mountFails (j : Journal) : Bool :=
  (!j.headerA.valid && !j.headerB.valid) || (!j.hist0.valid && !j.hist1.valid)

/-- Mount the journal (ST01's primary action; R67, R74, R76). -/
def State.mount (s : State) : State :=
  let j := s.jrn
  let next := if j.retOk then max j.nextSeq (j.maxSeq + 1) else j.maxSeq + 1
  let s := { s with jrn := { j with
      nextSeq := next, st01 := if j.retOk then j.st01 else {}, retOk := true, failed := false
      wrapped := decide (ringSize ≤ j.ring.length) } }
  let s := if !j.headerA.valid || !j.headerB.valid || !j.hist0.valid || !j.hist1.valid then
      s.raise Cause.HEADER_COPY_USED else s
  if j.ring.any (fun r => !r.crcOk) then s.raise Cause.RECORD_TORN else s

/-- Reformat the journal (ST01's alternate action): records and history are lost, NEXT_SEQ is kept (R67). -/
def State.reformat (s : State) : State :=
  let j := s.jrn
  let next := if j.retOk then max j.nextSeq (j.maxSeq + 1) else j.maxSeq + 1
  let h := if j.headerA.valid || j.headerB.valid then j.header else ({} : JrnHeader)
  let s := { s with jrn := { (({} : Journal)) with
      headerA := { h with valid := true, generation := h.generation + 1 }
      headerB := { h with valid := true, generation := h.generation }
      st01 := if j.retOk then j.st01 else {}, nextSeq := next, reformatted := true } }
  s.raise Cause.JOURNAL_REFORMATTED

/-- Restore the register snapshot (R70): registers, queue pairs, epochs, stream contexts. -/
def State.restoreSnapshot (s : State) : State :=
  let p := s.jrn.snapshot
  let keys := (s.regs.map (·.1) ++ p.regs.map (·.1)).filter fun o => snapshotMask o != 0
  let s := { s with
    qps := p.qps
    hif := { s.hif with epoch := p.epoch }
    tb := { s.tb with timeEpoch := p.timeEpoch } }
  let s := keys.foldl (fun s o =>
    let m := snapshotMask o
    s.setWord o ((s.word o &&& (0xFFFFFFFF ^^^ m)) ||| ((p.regs.get regDefault o).toNat &&& m))) s
  s.restoreCtxs p.ctxs

/-- The effect of a step that has passed, beyond its history (Table 3.1). -/
def State.stepEffect (s : State) (n : Nat) (x : StepInput) : State :=
  let alt := s.start.alternate
  if n = 1 then
    let s := if alt then s.reformat else s.mount
    -- R377: at a start from Off the time count takes up from the newest record
    let t := s.jrn.ring.foldl (fun t r => if r.crcOk then max t r.time else t) 0
    let s := if s.start.origin = 0 then { s with now := t, start := { s.start with began := t, before := s.now - s.start.began } } else s
    s.settleCut
  else if n = 4 then
    (if alt then { s with jrn := s.jrn.setHeader fun h => { h with fwPref := 1 - h.fwPref } } else s)
  else if n = 19 then { s.unitStep n x with start := { s.start with st19Passed := true } }
  else if n = 20 then
    -- a step that has passed has seen the lines switch, which SAFE_SUP feeds (section 19.8)
    { s with brk := { s.brk with safeOkA := true, safeOkB := true, safeSup := true } }
  else if n = 21 then { s.unitStep n x with start := { s.start with st21Passed := true } }
  else s.unitStep n x

/-- The running step has passed: STEP_RESULT and history are written, its effect holds, the next step begins (R59, R61,
R64). ST22 makes the module operational. -/
def State.passStep (s : State) (durUs detail : Nat) (x : StepInput) : State :=
  let n := s.start.step
  let s := s.stepEffect n x
  let s := s.stepResult n (if s.start.alternate then 1 else 0) 0 0 durUs detail
  let s := { s with
    jrn := s.jrn.setEntry n { s.jrn.entry n with state := .primary, consec := 0, outcome := 0 }
    start := { s.start with stepOpen := false, passed := n :: s.start.passed } }
  if n = 22 then s.becomeOperational s.start.holdWake else s.beginStep (n + 1) stepFuel

/-- GO ends ST22 of a cold start (R69). -/
def State.passGo (s : State) : State := s.passStep s.stepUs 0 {}

/-- A latched GO ends ST22 as soon as it begins (R69). -/
def State.latchedGo (s : State) : State :=
  if s.start.phase = .awaitGo ∧ s.start.stepOpen ∧ s.start.go then s.passGo else s

/-- The words of the Sprout domain that a wake from Hold has kept return to their reset values, but for SPR_WAKE_CAUSE (R70). -/
def State.sproutReset (s : State) : State :=
  { s with regs := s.regs.keep fun o => o == Reg.SPR_WAKE_CAUSE || !holdKeeps o }

/-- ST22 of a wake from Hold: the snapshot is restored and the module is operational; with an invalid CRC,
SNAPSHOT_INVALID is raised and the module waits for GO as on a cold start (R70). -/
def State.wakeStep (s : State) (durUs detail : Nat) (x : StepInput) : State :=
  if s.jrn.snapshot.crcOk then (s.restoreSnapshot).passStep durUs detail x
  else
    let s := { s.sproutReset with start := { s.start with holdWake := false }, tb := { s.tb with timeEpoch := 0 } }
    ((s.raise Cause.SNAPSHOT_INVALID).setPhase .awaitGo).latchedGo

/-- The damage that the journal has taken shows. A retention area that fails its CRC stands for ST01 in PRIMARY, so that a running ST01 is taken as its primary action (R67). -/
def State.damageSeen (s : State) (x : StepInput) : State :=
  let s := { s with jrn := s.jrn.damaged x }
  if s.start.step = 1 ∧ s.jrn.retOk = false then { s with start := { s.start with alternate := false } } else s

/-- A start step ends (R60 to R65). It passes when its action succeeded within its maximum and the checks that the spec
gives it hold; `cut` is a loss of the fast domain that no supply record explains. -/
def State.endStep (s : State) (ok cut : Bool) (cause durUs detail : Nat) (x : StepInput) : State :=
  if !s.start.stepOpen then s
  else
    let n := s.start.step
    let s := s.passUntil (s.now + durUs * 1000)
    if cut then s.cutStep
    else if s.start.phase = .awaitGo then s
    else if n = 22 then s.wakeStep durUs detail x
    else
      let s := s.damageSeen x
      let inTime := decide (durUs ≤ 1000 * stepMax n s.start.holdWake s.start.alternate)
      let mounts := decide (n = 1) && !s.start.alternate && s.jrn.mountFails
      -- R287: a test iteration that does not pass raises TEST_MISMATCH; with an empty mask ST21 passes at once
      let idle := decide (n = 21) && decide (Image.mask s.fxg.image = 0)
      match if n = 21 ∧ ok = false ∧ idle = false then some (Cause.TEST_MISMATCH, 0) else s.stepFault n x with
      | some (c, row) => (if c = 0 then s else s.raiseRow c row).failStep 1 c durUs detail
      | none =>
        if idle || ok && inTime && !mounts then (s.passStep durUs detail x).latchedGo
        else s.failStep 1 (if ok then 0 else cause) durUs detail

end Sys2Proof.Machine
end

