-- ==== Sys2Proof/Machine/Views.lean ====
section
/-! DEFINITION. What a register read returns: the stored word, or a view of the state that the register reports. -/
namespace Sys2Proof.Machine

/-- A word of a 64-bit value: its high word when `hi`. -/
def wordOf (v : Nat) (hi : Bool) : Nat := if hi then v / 2 ^ 32 % 2 ^ 32 else v % 2 ^ 32

/-- Bit `k`, when `b`. -/
def bitIf (b : Bool) (k : Nat) : Nat := if b then 2 ^ k else 0

/-! ### Chapters 1 to 4 -/

/-- Does the accepted Freewheel image bind a job to a context of a path that is not FREE? (Table 1.5) -/
def State.bindsPath (s : State) (path : Nat) : Bool :=
  (Image.jobs s.fwh.image).any fun j => decide (Image.jBind j < 24) &&
    decide ((s.ctx (Image.jBind j)).state ≠ .free) && (s.ctx (Image.jBind j)).path == path

/-- Does an obstacle model run: a decision job of the variant in use, fallback or not, chosen for a level that Table 1.4 marks, with an open source? After a shed the running
iteration keeps its variant to its end (R35). (R22, DEDUCED, log entry 47) -/
def State.obstacleRuns (s : State) (fallback : Bool) : Bool :=
  s.variantRuns && !s.fxg.halted && decide (s.fxg.lastLevel ≤ if fallback then 3 else 2) &&
    (match s.fxg.variant with
      | some v => (decisionJobs s.fxg.image v).any fun j => isFallback s.fxg.image j == fallback
      | none => false) &&
    s.watchedCtxs.any fun n => (s.ctx n).open?

/-- SYS_FUNC_STATUS (Table 1.5). COMPARE is 1 for as long as the outputs are live, the flush of PL5 included (R37; DEDUCED, log entry 163). -/
def State.funcStatus (s : State) : Nat :=
  if !s.operational then 0x0F000000
  else
    2 ^ 24 * s.sup.level + bitIf s.spokeOn 5 + bitIf (s.fwhOn && s.bindsPath 2) 4 + bitIf (s.fwhOn && s.bindsPath 0) 3 +
      bitIf ((List.range 24).any fun n => (s.ctx n).path == 0 && decide ((s.ctx n).state = .running)) 2 +
      bitIf (s.obstacleRuns true) 1 + bitIf (s.obstacleRuns false) 0

/-- The PHASE code (Table 3.9). -/
def Phase.code : Phase → Nat
  | .starting => 0 | .awaitGo => 1 | .operational => 2 | .maintenance => 3 | .safe => 4

/-- Block SYS. -/
def State.viewSys (s : State) (off : Nat) : Nat :=
  if off = 0x8 then 65536 + Config.fwBuild.toNat
  else if off = 0xC then s.funcStatus
  else if off = 0x24 then 65536 * s.start.step + 256 * s.start.attempt + 16 * s.start.phase.code + s.start.origin
  else if off = 0x28 then s.jrn.header.startCount % 2 ^ 32
  else s.word off

/-- Block PWR; a measured voltage that no command reports is a free value. -/
def State.viewPwr (s : State) (off : Nat) : Nat :=
  if off = 0x1000 then
    2 ^ 24 * (if s.operational && decide (s.sup.power = .active) then 4 else 3) + 2 ^ 20 * s.sup.supplyLevel + 2 ^ 16 * s.sup.hostCap + 2 ^ 12 * s.levelCode +
      bitIf (s.sup.vHigh1 || s.sup.vHigh2) 6 + bitIf s.sup.vInt 5 + bitIf s.sup.vLow2 4 + bitIf s.sup.vLow1 3 + bitIf s.vOk 2 +
      bitIf (!s.sup.onBank && decide (s.sup.eNow < s.sup.eFull)) 1
  else if off = 0x1004 then s.sup.vin
  else if off = 0x1008 then s.sup.strap
  else if off = 0x100C then 65536 * s.sup.eFull + s.sup.eNow
  else if off = 0x1020 then setBits (s.word off) 15 0 (s.freeReg off 16)
  else s.word off

/-- The steps whose history is in a state, as a mask (Table 3.10). -/
def State.stepMask (s : State) (h : HistState) : Nat := maskOf 22 fun i => decide ((s.jrn.entry (i + 1)).state = h)

/-- SEQ of the oldest valid record; the next SEQ when none is held. -/
def Journal.oldest (j : Journal) : Nat :=
  match j.ring.find? (·.crcOk) with
  | some r => r.seq
  | none => j.nextSeq

/-- Block JRN. -/
def State.viewJrn (s : State) (off : Nat) : Nat :=
  if off = 0x3000 then bitIf s.jrn.failed 3 + bitIf s.jrn.wrapped 2 + bitIf s.jrn.reformatted 1 + bitIf s.jrn.usesB 0
  else if off = 0x3008 ∨ off = 0x300C then wordOf s.jrn.nextSeq (decide (off = 0x300C))
  else if off = 0x3010 ∨ off = 0x3014 then wordOf s.jrn.oldest (decide (off = 0x3014))
  else if off = 0x3018 then s.stepMask .skipped
  else if off = 0x301C then s.stepMask .retry
  else if off = 0x3020 then s.stepMask .halted
  else s.word off

/-- The state code of a queue pair (Table 4.3). -/
def QpState.code : QpState → Nat
  | .disabled => 0 | .active => 1 | .draining => 2 | .error => 3

/-- Block HIF. -/
def State.viewHif (s : State) (off : Nat) : Nat :=
  if off = 0x4000 then
    bitIf (decide (s.start.phase = .maintenance)) 8 + (if s.hif.linkUp then 16 * s.hif.linkWidth + 2 * s.hif.linkGen + 1 else 0)
  else if off = 0x4008 ∨ off = 0x400C then wordOf (maskOf 64 fun n => decide ((s.qp n).state = .active)) (decide (off = 0x400C))
  else if off = 0x4010 ∨ off = 0x4014 then wordOf (maskOf 64 fun n => decide ((s.qp n).state = .error)) (decide (off = 0x4014))
  else if 0x4800 ≤ off ∧ off < 0x5000 then
    let q := s.qp ((off - 0x4800) / 0x20)
    if off % 0x20 = 0x18 then 65536 * q.cqTail + q.sqHead
    else if off % 0x20 = 0x1C then 65536 * q.phase + 256 * q.cause + q.state.code
    else s.word off
  else if 0x7000 ≤ off ∧ off < 0x7010 then maskOf 32 fun i => s.hif.pending.get (fun _ => false) (8 * (off - 0x7000) + i)
  else s.word off

/-! ### Chapters 5 to 9 -/

/-- The state code of a stream context (Table 5.15). -/
def CtxState.code : CtxState → Nat
  | .free => 0 | .waiting => 1 | .running => 2 | .suspended => 3

/-- A-PHY retransmissions of a port by now (Table 5.14): a saturating count; how many have come since the last read is a free value, as no command reports them (DESIGN CHOICE, log
entry 170). -/
def State.retransNow (s : State) (p : Nat) : Nat :=
  if s.fget (Fld.APY_PORTn_STATUS_LINK_UP p) = 1 then min 0xFFFF (s.cams.retrans.get (fun _ => 0) p + s.freeReg (Reg.APY_PORTn_STATUS p) 16)
  else s.cams.retrans.get (fun _ => 0) p

/-- The count as a read leaves it. -/
def State.retransRead (s : State) (p : Nat) : State :=
  { s with cams := { s.cams with retrans := s.cams.retrans.put (fun _ => 0) p (s.retransNow p) } }

/-- What a read of `len` bytes at `off` leaves: the retransmissions counted so far. -/
def State.afterRead (s : State) (off len : Nat) : State :=
  (List.range 2).foldl (fun s p =>
    if off ≤ Reg.APY_PORTn_STATUS p ∧ Reg.APY_PORTn_STATUS p < off + len then s.retransRead p else s) s

/-- The FORMAT code of a recorded CoaXPress format (Table 5.13). -/
def cxpCode : PixKind → Nat
  | .raw 8 none => 1
  | .raw 10 none => 2
  | .raw 12 none => 3
  | .raw 8 (some 1) => 4
  | .raw 8 (some 0) => 5
  | .raw 8 (some 2) => 6
  | .raw 8 (some 3) => 7
  | _ => 0

/-- Blocks CXP, APY and DEC. -/
def State.viewCam (s : State) (off : Nat) : Nat :=
  if off = 0x9000 ∨ off = 0x9004 then setBits (s.word off) 31 16 (s.retransNow ((off - 0x9000) / 4))
  else if off = 0x8014 ∨ off = 0x8024 then
    let f := (s.ctxOf 0 ((off - 0x8014) / 0x10) 0).bind fun n => (s.ctx n).format
    setBits (setBits (s.word off) 31 16 (f.elim 0 (·.width))) 15 8 (f.elim 0 fun x => cxpCode x.kind)
  else if off = 0xA004 then decCapacity - s.decUsed
  else if 0xA100 ≤ off ∧ off < 0xA240 ∧ off % 0x20 = 0x10 then
    setBits (s.word off) 1 0 (match s.ctxOf 2 ((off - 0xA100) / 0x20) 0 with
      | some n => (s.ctx n).state.code
      | none => 0)
  else s.word off

/-- The oldest sample that a context holds in a slot. -/
def Ctx.oldestId (c : Ctx) : Nat := c.slots.foldl (fun a (e : Nat × Held) => if e.2.id ≠ 0 ∧ (a = 0 ∨ e.2.id < a) then e.2.id else a) 0

/-- Block TIN. -/
def State.viewTin (s : State) (off : Nat) : Nat :=
  if off = 0xC000 then maskOf 8 fun u => s.unitsBusy.contains u
  else if off = 0xC014 then ((List.range 24).map s.poolKib).sum
  else if 0xC100 ≤ off ∧ off < 0xC400 then
    let n := (off - 0xC100) / 0x20
    let c := s.ctx n
    let r := off % 0x20
    if r = 4 then
      65536 * (c.prog.elim 0 (·.number)) + bitIf c.pend.isSome 5 + bitIf (c.prog.isSome && c.invalid) 4 + bitIf c.prog.isSome 3 +
        bitIf (c.prog.elim false fun p => Program.dest p == 1) 2
    else if r = 8 ∨ r = 0xC then wordOf (sampleId n c.nextSeq) (decide (r = 0xC))
    else if r = 0x10 ∨ r = 0x14 then wordOf c.oldestId (decide (r = 0x14))
    else s.word off
  else s.word off

/-- The state code of a logical array (Table 7.14). -/
def ArrState.code : ArrState → Nat
  | .blank => 0 | .loaded => 1 | .bound => 2 | .programming => 3 | .unusable => 4

/-- ENG_n_Am_STATE of arrays 0 to 15, and of the spare. -/
def Engine.arrWord (x : Engine) (m : Nat) : Nat :=
  if m < 16 then
    let a := x.arr m
    256 * x.backing m + bitIf a.pendRetire 5 + bitIf a.suspect 4 + a.state.code
  else
    bitIf (x.arr 16).pendRetire 5 + match x.spare with
      | .free => 256 * 0x1F + 5
      | .standingIn k => 256 * k + 6
      | .failed => 256 * 0x1F + 7

/-- The largest trim of a physical array in % of its range (R194, DEDUCED, log entry 48): gains at offset 0, offsets at 1. -/
def Phys.trimUse (p : Phys) (o : Nat) : Nat :=
  min 100 ((List.range (p.trims.length / 2)).foldl (fun a c => max a ((rdInt p.trims (2 * c + o) 1).natAbs * 100 / 127)) 0)

/-- Does a Freewheel task run on engine e? Its group is known; which stripe and chain of it run is a free value (DEDUCED, log entry 82). -/
def State.taskOn (s : State) (e : Nat) : Bool :=
  s.fwh.runs.any fun r => r.tasks.any fun t => match t with | .running e' _ => e' == e | _ => false

/-- Does an iteration run on engine e? Which group, stripe and chain of its opaque program run is a free value (DEDUCED, log entry 82). -/
def State.iterOn (s : State) (e : Nat) : Bool := s.isFixed e && s.iterationRunning

/-- Blocks ENG0 to ENG15. -/
def State.viewEng (s : State) (off : Nat) : Nat :=
  let e := (off - 0x10000) / 0x1000
  let r := off % 0x1000
  let x := s.eng e
  if r = 0 then
    256 * (if s.isFixed e then 2 else if bitOn s.freeMask e then 1 else 0) + bitIf (s.isFixed e && s.iterationRunning) 4 +
      bitIf (x.prog.head?.any fun i => match i.what with | .verify _ _ => false | _ => true) 1 + bitIf x.gated 0
  else if 0x100 ≤ r ∧ r < 0x210 then
    let m := (r - 0x100) / 0x10
    if r % 0x10 = 0 then x.arrWord m
    else if r % 0x10 = 4 then min 65535 (x.phy m).cycles
    else if r % 0x10 = 0xC then 256 * (x.phy m).trimUse 0 + (x.phy m).trimUse 1
    else s.word off
  else if r = 0x300 ∧ s.taskOn e then setBits (s.word off) 11 0 (s.freeReg off 12)
  else if r = 0x300 ∧ !s.iterOn e then setBits (s.word off) 11 0 0xFFF
  else if r = 0x400 ∧ s.taskOn e then setBits (s.word off) 3 0 (s.freeReg off 4)
  else if (r = 0x300 ∨ r = 0x304 ∨ r = 0x400 ∨ r = 0x404) ∧ s.iterOn e then
    if r = 0x300 then setBits (s.freeReg off 32) 15 12 0
    else if r = 0x304 then s.freeReg off 20
    else if r = 0x400 then setBits (s.freeReg off 32) 15 4 0
    else s.freeReg off 18
  else if off = 0x10E04 then
    65536 * (maskOf 16 fun n => decide ((s.eng n).spare = .failed)) +
      maskOf 16 fun n => match (s.eng n).spare with | .standingIn _ => true | _ => false
  else s.word off

/-! ### Chapters 10 to 14 -/

/-- Blocks CRG, MEM and LLC. -/
def State.viewMem (s : State) (off : Nat) : Nat :=
  if off = 0x20000 then 65536 * s.mem.plan + bitIf s.mem.folded 8 + bitIf (!s.mem.slotTable.isEmpty) 0
  else if off = 0x20008 ∨ off = 0x2000C then wordOf s.frameCount (decide (off = 0x2000C))
  else if off = 0x20010 then 65536 * s.reservedSlots 1 + s.reservedSlots 0
  else if off = 0x21000 then
    setBits (s.word off) 15 8 (if s.start.passed.contains 6 then 0xFF else 0) +
      bitIf s.adaptive 4
  else if off = 0x21008 then crc32c (slice s.mem.layout 0 128)
  else if 0x21010 ≤ off ∧ off < 0x21030 then 256 * planSlots s.mem.plan + s.reservedBlocks ((off - 0x21010) / 4)
  else if 0x22100 ≤ off ∧ off < 0x22140 then
    let w := Image.window s.mem.layout ((off - 0x22100) / 4)
    bitIf (Image.wNoAlloc w) 31 + 2 ^ 30 * Image.wHalf w + 2 ^ 28 * Image.wMode w + 65536 * Image.wSize w + Image.wBase w
  else s.word off

/-- STATE of FXG_STATUS. -/
def State.fxgCode (s : State) : Nat :=
  if s.fxg.image.isEmpty then 0
  else if s.fixedMask = 0 then 1
  else if s.fxg.halted then 5
  else if s.iterationRunning then 3
  else if s.variantRuns then 2
  else 4

/-- Block FXG. -/
def State.viewFxg (s : State) (off : Nat) : Nat :=
  if off = 0x23000 then
    2 ^ 20 * (s.fxg.variant.elim 0xF Image.vLevel) + 65536 * (s.fxg.variant.elim 0xF Image.vPlan) +
      bitIf (decide ((if s.fxg.iter.any (·.test) then 1 else 0) < s.fxg.tests.length)) 8 + bitIf (!s.fxg.image.isEmpty && Image.pair s.fxg.image) 7 +
      bitIf (s.fxg.variant.isSome && s.fxg.paced) 6 + s.fxgCode
  else if off = 0x23008 ∨ off = 0x2300C then
    wordOf (if s.fxg.image.isEmpty then 0 else Image.imageId s.fxg.image) (decide (off = 0x2300C))
  else if off = 0x23010 then s.fixedMask
  else s.word off

/-- FWH_CTXc_STATUS. -/
def State.ctxStatus (s : State) (c : Nat) : Nat :=
  let rs := s.ctxRuns c
  let saved := rs.any fun r => r.tasks.any fun t => match t with | .saved _ _ => true | _ => false
  65536 * rs.length + 256 * (rs.head?.elim 0 (·.prio)) + (if (s.tearing c).isSome then 3 else if saved then 2 else if rs.isEmpty then 0 else 1)

/-- Block FWH. -/
def State.viewFwh (s : State) (off : Nat) : Nat :=
  if off = 0x24000 then
    65536 * s.freeMask + (if s.fwh.skipped || (!s.operational && s.start.skipped.contains 16) then 3 else if s.fwh.image.isEmpty then 0 else if s.sup.level = 0 then 1 else 2)
  else if off = 0x24010 then setBits (s.word off) 23 16 s.fwh.frames.length
  else if 0x24100 ≤ off ∧ off < 0x24200 ∧ off % 8 = 0 then s.ctxStatus ((off - 0x24100) / 8)
  else s.word off

/-- Block IHX. -/
def State.viewIhx (s : State) (off : Nat) : Nat :=
  if off = 0x26000 then 65536 * s.slotsHeld + (if s.fget Fld.IHX_ID_VALID = 0 then 0 else if s.sup.level ≤ 3 then 1 else 2)
  else s.word off

/-- TRU_STATUS; whether a running column solve still reads its columns is a free value. -/
def State.truStatus (s : State) : Nat :=
  match s.tru.queue with
  | [] => if s.operational && decide (2 ≤ s.sup.level) then 3 else 0
  | x :: t =>
    if x.start.isSome then 65536 * x.number + 256 * t.length + (if x.isArray then 1 + s.freeReg 0x27000 1 else 2)
    else 256 * (t.length + 1)

/-- Block TRU. -/
def State.viewTru (s : State) (off : Nat) : Nat :=
  if off = 0x27000 then s.truStatus
  else if off = 0x27018 then 4 * (s.tru.generation % 2 ^ 30) + s.tru.source
  else s.word off

/-! ### Chapters 15 to 18 -/

/-- The code of a speed state (Table 15.4). -/
def SpeedState.code : SpeedState → Nat
  | .standstill => 0 | .settling => 1 | .moving => 2

/-- SPK_ENCn_STATE. -/
def Chan.stateWord (c : Chan) : Nat :=
  let k := c.entries.length
  bitIf c.fault 23 + 65536 * (k / 4096 % 4) + 16 * (k % 4096) + bitIf (!c.rising) 3 + 2 * c.st.code + bitIf c.coarse 0

/-- Block SPK. A readback reads as the commanded state (DEDUCED, log entry 49). -/
def State.viewSpk (s : State) (off : Nat) : Nat :=
  if 0x28100 ≤ off ∧ off < 0x28200 then
    let c := s.chan ((off - 0x28100) / 0x40)
    let r := off % 0x40
    if r = 0x18 ∨ r = 0x1C then wordOf (ofSigned 64 c.pos) (decide (r = 0x1C))
    else if r = 0x20 then ofSigned 32 c.speed
    else if r = 0x24 then c.stateWord
    else s.word off
  else if 0x28300 ≤ off ∧ off < 0x28340 ∧ off % 8 = 4 then
    let x := s.out ((off - 0x28300) / 8)
    16 * min 15 (x.trips.filter fun t => decide (s.now < t + 60000000000)).length + bitIf x.latched 2 + bitIf x.on 1 + bitIf x.on 0
  else if 0x28380 ≤ off ∧ off < 0x283A0 ∧ off % 8 = 4 then
    let x := s.out (8 + (off - 0x28380) / 8)
    bitIf x.on 1 + bitIf x.on 0
  else s.word off

/-- The code of a time base state (Table 16.7). -/
def TbState.code : TbState → Nat
  | .unsynced => 0 | .acquiring => 1 | .slewing => 2 | .tracking => 3 | .holdover => 4

/-- Block TB; the learned frequency is a free value. -/
def State.viewTb (s : State) (off : Nat) : Nat :=
  if off = 0x29000 then
    2 ^ 24 * s.tb.timeEpoch + 65536 * s.tb.portState + bitIf s.tb.due 12 + 256 * s.tb.source + 16 * s.tb.st.code + bitIf (decide (s.tb.quality ≤ 1)) 2 + s.tb.quality
  else if off = 0x29008 ∨ off = 0x2900C then wordOf s.now (decide (off = 0x2900C))
  else if off = 0x29018 then (if s.tb.running then s.freeReg off 32 else s.word off)
  else if off = 0x29060 then ((List.range 6).map fun p => (s.swPort p).launches.length).sum
  else s.word off

/-- Is a region out of service? -/
def State.regionOut (s : State) (kind n : Nat) : Bool := s.brk.outRegions.contains (kind, n)

/-- Blocks SW and BRK. -/
def State.viewLast (s : State) (off : Nat) : Nat :=
  if off = 0x2A000 then s.word off + bitIf (s.swOn && s.fwdOnly) 8
  else if off = 0x2C000 then
    bitIf (decide (s.start.phase = .safe)) 31 + bitIf s.brk.restartPending 30 + 65536 * s.brk.queue.length + bitIf (s.operational && s.inputsOk) 12 +
      bitIf (s.regionOut 5 1) 11 + bitIf (s.regionOut 5 0) 10 + bitIf (s.brk.safeSup && s.brk.safeOkB) 4 + bitIf (s.brk.safeSup && s.brk.safeOkA) 3 +
      bitIf (s.brk.lineOn 2) 2 + bitIf (s.brk.lineOn 1) 1 + bitIf (s.brk.lineOn 0) 0
  else s.word off

/-- What a read of the word at `off` gives (Table 0.2): the register tables of every chapter, by block (Table 0.3). -/
def State.readWord (s : State) (off : Nat) : Nat :=
  match off / 0x1000 with
  | 0x0 => s.viewSys off
  | 0x1 => s.viewPwr off
  | 0x3 => s.viewJrn off
  | 0x4 | 0x7 => s.viewHif off
  | 0x8 | 0x9 | 0xA => s.viewCam off
  | 0xC => s.viewTin off
  | 0x20 | 0x21 | 0x22 => s.viewMem off
  | 0x23 => s.viewFxg off
  | 0x24 => s.viewFwh off
  | 0x26 => s.viewIhx off
  | 0x27 => s.viewTru off
  | 0x28 => s.viewSpk off
  | 0x29 => s.viewTb off
  | 0x2A | 0x2C => s.viewLast off
  | b => if 0x10 ≤ b ∧ b < 0x20 then s.viewEng off else s.word off

/-- A 32-bit aligned read by the host (R6, R11): the low word of a 64-bit register latches its high word; the high word
returns the latch, zero until a low-word read; an unmapped offset reads as zero. -/
def State.hostReads (s : State) (off : Nat) : State :=
  match findReg off with
  | none => { s with hif := { s.hif with hostRead := 0 } }
  | some h =>
    if h.spec.wide && h.high then
      { s with hif := { s.hif with hostRead := (s.latches.get (fun _ => 0) h.offset).toNat } }
    else
      let s' := { (s.afterRead off 4).useFree with hif := { s.hif with hostRead := s.readWord off } }
      if h.spec.wide then { s' with latches := s.latches.put (fun _ => 0) off (BitVec.ofNat 32 (s.readWord (off + 4))) }
      else s'

end Sys2Proof.Machine
end

