-- ==== Sys2Proof/Machine/Registers.lean ====
section
/-! DEFINITION. BAR0 register writes and reads: access types, locks, reserved values, 64-bit registers, and the rows that
are writes to one register (chapters 0, 3 and 4). -/
namespace Sys2Proof.Machine

/-! ### Access types (R4, R7 to R9, R78, R479) -/

/-- Functional fields behave as LCK and are locked: in operation (R9), and in safe state, where every LCK and ST field
behaves as locked (R456). -/
def State.frozen (s : State) : Bool := decide (s.start.phase = .operational) || decide (s.start.phase = .safe)

/-- SYS_LOCK.LOCK is 1. -/
def State.sysLocked (s : State) : Bool := s.fget Fld.SYS_LOCK_LOCK == 1

/-- SYS_LOCK.LOCK may be set: ST21 has passed, and not in Maintenance state (R71, R78). -/
def State.lockAllowed (s : State) : Bool := s.start.st21Passed && decide (s.start.phase ≠ .maintenance)

/-- Is a field functional? TB_PTP_CFG.PORT is not while ROLE is 0 (R398). -/
def RegHit.fieldFunctional (h : RegHit) (f : FieldSpec) (cur : Nat) : Bool :=
  h.spec.functional && !(h.offset == Reg.TB_PTP_CFG && f.lo == Fld.TB_PTP_CFG_PORT.lo && bits cur Fld.TB_PTP_CFG_ROLE.hi Fld.TB_PTP_CFG_ROLE.lo == 0)

/-- Is a field locked at this moment? (R8) -/
def State.fieldLocked (s : State) (h : RegHit) (f : FieldSpec) (cur : Nat) : Bool :=
  let functional := h.fieldFunctional f cur
  match f.access with
  | .ro => false
  | .w1c => false
  | .rw => functional && s.frozen
  | .lck => s.sysLocked || (functional && s.frozen) || decide (s.start.phase = .safe)
  | .st => (functional && s.frozen) || decide (s.start.phase = .safe)
  | .wo1 => decide (bits cur f.hi f.lo ≠ bits h.resetValue f.hi f.lo) || (functional && s.frozen) ||
      (h.offset == Reg.SYS_LOCK && !s.lockAllowed)

/-- Would the write change a locked field? (R8) -/
def State.lockedWrite (s : State) (h : RegHit) (cur v : Nat) : Bool :=
  h.spec.fields.any fun f => s.fieldLocked h f cur && decide (bits cur f.hi f.lo ≠ bits v f.hi f.lo)

/-- Does the write set a field to a value its table marks reserved or leaves out of its range? (R479) -/
def reservedValue (h : RegHit) (v : Nat) : Bool :=
  h.spec.fields.any fun f => f.access != .ro && f.access != .w1c && !f.allowed.isEmpty &&
    !(f.allowed.any fun r => decide (r.1 ≤ bits v f.hi f.lo) && decide (bits v f.hi f.lo ≤ r.2))

/-- One field after the write (Table 0.2). Bits no field covers stay zero (R4). -/
def writeField (f : FieldSpec) (cur v : Nat) : Nat :=
  match f.access with
  | .ro => cur
  | .w1c => setBits cur f.hi f.lo (bits cur f.hi f.lo - (bits cur f.hi f.lo &&& bits v f.hi f.lo))
  | .rw => setBits cur f.hi f.lo (bits v f.hi f.lo)
  | .lck => setBits cur f.hi f.lo (bits v f.hi f.lo)
  | .st => setBits cur f.hi f.lo (bits v f.hi f.lo)
  | .wo1 => setBits cur f.hi f.lo (bits v f.hi f.lo)

/-- The register after the write. -/
def writeFields : List FieldSpec → Nat → Nat → Nat
  | [], cur, _ => cur
  | f :: t, cur, v => writeFields t (writeField f cur v) v

/-- A locked write: a notice, the counter and the last-write registers (R8, R78). -/
def State.raiseLocked (s : State) (off v : Nat) : State :=
  let s := s.bump Fld.SYS_LOCK_VIOLATIONS_COUNT
  let s := (s.fset Fld.SYS_LOCK_LAST_OFFSET_OFFSET off).fset Fld.SYS_LOCK_LAST_VALUE_VALUE (v % 2 ^ 16)
  s.raise Cause.LOCKED_WRITE (off + 2 ^ 32 * (v % 2 ^ 16))

/-- What the register holds now, as 32 or 64 bits. -/
def State.regValue (s : State) (h : RegHit) : Nat := if h.spec.wide then s.word64 h.offset else s.word h.offset

/-- Store the register. -/
def State.setRegValue (s : State) (h : RegHit) (v : Nat) : State :=
  if h.spec.wide then s.setWord64 h.offset v else s.setWord h.offset v

/-- Is the register a gate register? Its ST fields, unlike those of chapters 5 and 15, do not take effect at once before operation (R404, Table 0.2). -/
def gateReg (off : Nat) : Bool := decide (0x2A400 ≤ off ∧ off < 0x2A440) || decide (0x2A800 ≤ off ∧ off < 0x2B000)

/-- A write to the shadow of an ST register; the value in effect stays until the next commit boundary (Table 0.2). -/
def State.shadowWrite (s : State) (h : RegHit) (v : Nat) : State :=
  let put := fun (t : Tbl Word) (o w : Nat) => t.keep (fun k => decide (k < o)) ++ (o, BitVec.ofNat 32 w) :: t.keep (fun k => decide (o < k))
  let t := put s.stWords h.offset (v % 2 ^ 32)
  { s with stWords := if h.spec.wide then put t (h.offset + 4) (v / 2 ^ 32) else t }

/-! ### Registers whose write acts -/

/-- SYS_LOCK.LOCK goes from 0 to 1: a LOCK_SET record with SYS_LOCK_VIOLATIONS (R78, Table 3.7). -/
def State.lockSet (s : State) : State := s.jrnWrite 7 (leBytes 4 (s.fget Fld.SYS_LOCK_VIOLATIONS_COUNT))

/-- SYS_CONTROL.GO goes to 1: it ends ST22 of a cold start, at once or as soon as ST22 begins (R69). -/
def State.goWritten (s : State) : State :=
  let s := { s with start := { s.start with go := true } }
  if s.start.phase = .awaitGo ∧ s.start.stepOpen then s.passGo else s

/-- SYS_CONTROL.RESTART: a new cold start, from Maintenance state or before operation (R72). -/
def State.restartWritten (s : State) : State :=
  if s.frozen || s.sup.flushing then s else (s.fastDomainOff).beginAttempt 2

/-- JRN_STEP_CLEAR: each step named becomes PRIMARY with CONSEC 0, and HISTORY_CLEARED is written (R64, Table 3.10). -/
def State.stepsCleared (s : State) (mask : Nat) : State :=
  if mask = 0 then s else
    let j := (List.range 22).foldl (fun j i =>
      if bitOn mask i then j.setEntry (i + 1) { j.entry (i + 1) with state := .primary, consec := 0 } else j) s.jrn
    ({ s with jrn := j }).jrnWrite 8 (leBytes 4 mask)

/-- BRK_CONTROL.RESTART: a cold start with ORIGIN 2 in safe state, BAD_CONFIG otherwise (R457). -/
def State.brkRestart (s : State) : State :=
  if s.start.phase = .safe then (if s.sup.flushing then s else (s.fastDomainOff).beginAttempt 2) else s.raise Cause.BRK_BAD_CONFIG

/-- ENABLE written 1 to a queue pair (Table 4.3). -/
def State.qpEnableWritten (s : State) (n : Nat) : State :=
  let q := s.qp n
  if q.state = .disabled then
    s.setQp n { q with state := .active, sqHead := 0, sqTail := 0, cqHead := 0, cqTail := 0, phase := 1
                       waiting := [], stallRaised := false, cause := 0 }
  else s

/-- The pair stops: what is fetched runs to its end, its completions are not written (Table 4.3). -/
def State.qpStop (s : State) (n : Nat) : State :=
  let q := s.qp n
  match q.state with
  | .active => s.setQp n ({ q with state := .draining, waiting := [] }).drained
  | _ => s

/-- ENABLE written 0 to a queue pair (Table 4.3, R112); what a pair in ERROR has fetched still runs to its end, without a completion. -/
def State.qpDisableWritten (s : State) (n : Nat) : State :=
  let q := s.qp n
  match q.state with
  | .error => (s.setQp n { q with state := .disabled, cause := 0, inflight := q.inflight.map fun f => { f with dead := true } }).endHandling 1 n
  | _ => s.qpStop n

/-- Is the write to a ring register discarded with QP_BUSY: it changes a base or size field of a pair that is not DISABLED
(R85), writes ENABLE 1 to a pair that is DRAINING or in ERROR (Table 4.3), or writes ENABLE of a held pair (R112)? -/
def State.qpSetupBusy (s : State) (off cur v : Nat) : Bool :=
  if 0x4800 ≤ off ∧ off < 0x5000 then
    let n := (off - 0x4800) / 0x20
    let r := (off - 0x4800) % 0x20
    let q := s.qp n
    (decide (q.state ≠ .disabled) && decide (r = 0 ∨ r = 8 ∨
      (r = 0x10 ∧ (bits cur 20 16 ≠ bits v 20 16 ∨ bits cur 12 8 ≠ bits v 12 8)))) ||
    (decide (r = 0x10) && (q.held || (bitOn v 31 && (decide (q.state = .draining) || decide (q.state = .error)))))
  else false

/-- A source address of a pipeline table written before operation (R141): `fetch` is what the fetch returns, none when it fails; address 0 selects the neutral table. -/
def State.tableWritten (s : State) (off addr : Nat) (fetch : Option (List Byte)) : State :=
  if s.frozen then s
  else
    match (if addr = 0 then some [] else fetch) with
    | some b => { s with cams := { s.cams with tables := s.cams.tables.put (fun _ => []) off b } }
    | none => s.raise Cause.TABLE_FETCH_FAILED

/-- What a write that took effect does beyond the register: `old` and `new` are the register's values. -/
def State.written (s : State) (off old new : Nat) (fetch : Option (List Byte)) : State :=
  if off = Reg.SYS_LOCK then (if old = 0 ∧ new = 1 then s.lockSet else s)
  else if off = Reg.SYS_CONTROL then
    let s := s.fset Fld.SYS_CONTROL_RESTART 0
    if bitOn new 1 then s.restartWritten else if bitOn new 0 && !bitOn old 0 then s.goWritten else s
  else if off = Reg.JRN_STEP_CLEAR then (s.setWord off 0).stepsCleared (bits new 21 0)
  else if off = Reg.BRK_CONTROL then (if bitOn new 0 then (s.setWord off 0).brkRestart else s)
  else if 0x4800 ≤ off ∧ off < 0x5000 ∧ (off - 0x4800) % 0x20 = 0x10 then
    let n := (off - 0x4800) / 0x20
    if bitOn new 31 then s.qpEnableWritten n else s.qpDisableWritten n
  else if 0x6000 ≤ off ∧ off < 0x6480 then s.sendPending
  else if tableReg off then (s.blockWritten off old new).tableWritten off new fetch
  else s.blockWritten off old new

/-- Apply a whole register value: locks first (R8), then a busy pair (R85), reserved values (R479) and the block's own
conditions, then the access types (R7). `woff` and `wval` are the offset and the word of the access itself. -/
def State.writeReg (s : State) (h : RegHit) (v woff wval : Nat) (fetch : Option (List Byte)) : State :=
  let cur := s.regValue h
  if s.lockedWrite h cur v then s.raiseLocked woff wval
  else if s.qpSetupBusy h.offset cur v then s.raise Cause.QP_BUSY
  else if reservedValue h v || s.blockRejects h.offset cur v then s.badConfig woff
  else
    let new := writeFields h.spec.fields cur v
    if gateReg h.offset && !s.frozen then s.shadowWrite h new else
    (s.setRegValue h new).written h.offset cur new fetch

/-- Does a 64-bit register hold a field that takes writes? -/
def RegHit.writable (h : RegHit) : Bool := h.spec.fields.any fun f => f.access != .ro

/-- A 32-bit aligned write at a BAR0 offset: an unmapped one is discarded with a notice (R11); the low word of a 64-bit
register goes to its holding register, the high word applies both (R6). -/
def State.regWrite (s : State) (off v : Nat) (fetch : Option (List Byte) := none) : State :=
  match findReg off with
  | none => s.raise Cause.UNMAPPED_ACCESS off
  | some h =>
    if !h.spec.wide then s.writeReg h v off v fetch
    else if !h.writable then s
    else if h.high then
      let lo := (s.holding.get (fun o => BitVec.ofNat 32 (s.word o)) h.offset).toNat
      let s := { s with holding := s.holding.keep (fun o => o != h.offset) }
      s.writeReg h (lo + 2 ^ 32 * v) off v fetch
    else { s with holding := s.holding.keep (fun o => decide (o < h.offset)) ++
        (h.offset, BitVec.ofNat 32 v) :: s.holding.keep (fun o => decide (h.offset < o)) }

/-- An access of another width or alignment: a read returns all ones, a write is discarded, a notice is raised (R5). -/
def State.unaligned (s : State) (off : Nat) (write : Bool) : State :=
  let s := if write then s else { s with hif := { s.hif with hostRead := 0xFFFFFFFF } }
  s.raise Cause.UNALIGNED_ACCESS off

/-! ### The rows -/

/-- REGISTER_WRITE (R7): an access not on a 32-bit boundary is R5's. -/
def execRegisterWrite (off : BitVec 20) (value : Word) (fetch : Option (List Byte)) (s : State) : Host.Outcome State Fault Refusal :=
  .next (if off.toNat % 4 = 0 then (s.regWrite off.toNat value.toNat fetch).settle else (s.unaligned off.toNat true).settle)

/-- UNALIGNED_ACCESS (R5). -/
def execUnalignedAccess (off : BitVec 20) (write : Bool) (s : State) : Host.Outcome State Fault Refusal :=
  .next (s.unaligned off.toNat write).settle

/-- REG64_LOW_READ (R6): the low word is returned, and the register's latch takes the high word. Any other offset is a
plain read, which latches nothing. -/
def execReg64LowRead (off : BitVec 20) (s : State) : Host.Outcome State Fault Refusal :=
  .next (s.hostReads off.toNat)

/-- SYS_LOCK_SET (R78). -/
def execSysLockSet (s : State) : Host.Outcome State Fault Refusal := .next (s.regWrite Reg.SYS_LOCK 1).settle

/-- GO (R69): the write sets GO and leaves RESTART 0. -/
def execGo (s : State) : Host.Outcome State Fault Refusal := .next (s.regWrite Reg.SYS_CONTROL 1).settle

/-- RESTART (R72): the write sets RESTART and leaves GO as it stands. -/
def execRestart (s : State) : Host.Outcome State Fault Refusal :=
  .next (s.regWrite Reg.SYS_CONTROL (2 + s.word Reg.SYS_CONTROL % 2)).settle

/-- JRN_STEP_CLEAR (R64). -/
def execJrnStepClear (mask : BitVec 22) (s : State) : Host.Outcome State Fault Refusal :=
  .next (s.regWrite Reg.JRN_STEP_CLEAR mask.toNat).settle

/-- BRK_RESTART (R457). -/
def execBrkRestart (s : State) : Host.Outcome State Fault Refusal := .next (s.regWrite Reg.BRK_CONTROL 1).settle

/-- LLC_COUNT_CLEAR (R272). -/
def execLlcCountClear (mask : BitVec 8) (s : State) : Host.Outcome State Fault Refusal :=
  .next (s.regWrite Reg.LLC_COUNT_CLEAR mask.toNat).settle

/-- QP_ENABLE (R86): CFG written with ENABLE 1 and its other fields as they stand. -/
def execQpEnable (qp : Fin 64) (s : State) : Host.Outcome State Fault Refusal :=
  .next (s.regWrite (Reg.HIF_QP_n_CFG qp) (setBits (s.word (Reg.HIF_QP_n_CFG qp)) 31 31 1)).settle

/-- QP_DISABLE (R86): CFG written with ENABLE 0 and its other fields as they stand. -/
def execQpDisable (qp : Fin 64) (s : State) : Host.Outcome State Fault Refusal :=
  .next (s.regWrite (Reg.HIF_QP_n_CFG qp) (setBits (s.word (Reg.HIF_QP_n_CFG qp)) 31 31 0)).settle

end Sys2Proof.Machine
end

