-- ==== Sys2Proof/Machine/Rings.lean ====
section
/-! DEFINITION. Rings and doorbells: doorbells, fetching, host DMA errors, resets of the host interface, interrupts, FENCE,
and READ_STATE (chapter 4). -/
namespace Sys2Proof.Machine

/-! ### Doorbells (R88) -/

/-- The SQ tail doorbell of an ACTIVE pair, with a value below the ring size. -/
def State.sqTailRung (s : State) (n v : Nat) : State :=
  if v < s.sqSize n then s.setQp n { s.qp n with sqTail := v } else s.raise Cause.BAD_DOORBELL

/-- The new CQ head lies in the span from the current head to the tail (R88). -/
def State.cqHeadOk (s : State) (n v : Nat) : Bool :=
  let q := s.qp n
  let z := s.cqSize n
  decide (v < z) && decide ((v + z - q.cqHead) % z ≤ (q.cqTail + z - q.cqHead) % z)

/-- The CQ head doorbell of an ACTIVE pair: entries return to the module, waiting completions are written (R92). -/
def State.cqHeadRung (s : State) (n v : Nat) : State :=
  if !s.cqHeadOk n v then s.raise Cause.BAD_DOORBELL
  else if (s.qp n).cqHead = v then s
  else
    let s := s.setQp n { s.qp n with cqHead := v, stallRaised := false }
    s.flushCpls n (s.qp n).waiting

/-- A BAR2 write to page `n` (R88): the first test that fails decides. -/
def State.doorbell (s : State) (n off width v : Nat) : State :=
  if width ≠ 4 ∨ (off ≠ 0 ∧ off ≠ 4) then s.raise Cause.BAD_DOORBELL
  else if (s.qp n).state ≠ .active then s.raise Cause.DOORBELL_IGNORED
  else if off = 0 then s.sqTailRung n v else s.cqHeadRung n v

/-- SQ_TAIL_DOORBELL (R88): a BAR2 access of `width` bytes at a page offset; a read returns zero. -/
def execSqTailDoorbell (page : Fin 64) (off : BitVec 12) (width : BitVec 8) (value : Option Word) (s : State) :
    Host.Outcome State Fault Refusal :=
  .next (match value with
    | none => { s with hif := { s.hif with hostRead := 0 } }
    | some v => (s.doorbell page off.toNat width.toNat v.toNat).settle)

/-- CQ_HEAD_DOORBELL (R92): an aligned 32-bit write at page offset 0x004. -/
def execCqHeadDoorbell (page : Fin 64) (value : Word) (s : State) : Host.Outcome State Fault Refusal :=
  .next (s.doorbell page 4 4 value.toNat).settle

/-! ### Fetching (R89 to R91) -/

/-- Entries of the CQ that are free. -/
def State.cqFree (s : State) (n : Nat) : Nat :=
  let q := s.qp n
  let z := s.cqSize n
  z - 1 - (q.cqTail + z - q.cqHead) % z

/-- Descriptors from the SQ head to the tail. -/
def State.sqAvail (s : State) (n : Nat) : Nat :=
  let q := s.qp n
  let z := s.sqSize n
  (q.sqTail + z - q.sqHead) % z

/-- Pair `n` has fetchable descriptors: ACTIVE, serviced in this phase, an SQ that is not empty and a free CQ entry, while
fetching is not stopped for a sleep (R54, R87, R91). -/
def State.fetchable (s : State) (n : Nat) : Bool :=
  decide ((s.qp n).state = .active) && !s.hif.fetchStopped && decide (s.sqAvail n ≠ 0) && decide (s.cqFree n ≠ 0) &&
    (decide (s.start.phase ≠ .maintenance) || decide (n = 0))

/-- The visits of a new round, with the reads each pair gets; and the pair that begins it (R91). -/
def State.newRound (s : State) : List (Nat × Nat) × Nat :=
  let first := s.fget Fld.HIF_CONFIG_QP0_FIRST == 1
  let rot := ((List.range 64).map fun i => (s.hif.roundStart + 1 + i) % 64).filter fun n =>
    s.fetchable n && !(first && n == 0)
  let order := (if first && s.fetchable 0 then [0] else []) ++ rot
  (order.map fun n => (n, s.fget (Fld.HIF_QP_n_CFG_WEIGHT n)), rot.headD s.hif.roundStart)

/-- The visits left in the round, without pairs that have nothing to fetch now; a new round when none is left. -/
def State.visits (s : State) : List (Nat × Nat) × Nat :=
  match s.hif.round.filter (fun v => s.fetchable v.1) with
  | [] => s.newRound
  | r => (r, s.hif.roundStart)

/-- How many descriptors one read of pair `n` takes: at most 8, contiguous, no more than CQ entries free (R91). -/
def State.readLength (s : State) (n : Nat) : Nat :=
  min (min 8 (s.sqAvail n)) (min (s.cqFree n) (s.sqSize n - (s.qp n).sqHead))

/-- Descriptors arrive for pair `n`: each is copied once, in ring order, and is in flight (R90). -/
def State.take (s : State) (n : Nat) : List (List Byte) → State
  | [] => s
  | b :: t =>
    let q := s.qp n
    let h := (q.sqHead + 1) % s.sqSize n
    let s := s.setQp n { q with sqHead := h, inflight := q.inflight ++ [⟨s.hif.fetchSeq, h, slice b 0 64, false, false⟩] }
    ({ s with hif := { s.hif with fetchSeq := s.hif.fetchSeq + 1 } }).take n t

/-- DESCRIPTOR_FETCH (R91): one read of the pair whose turn it is; `data` is what its slots hold. -/
def State.fetch (s : State) (data : List (List Byte)) : State :=
  match s.visits with
  | ([], _) => s
  | ((n, w) :: rest, start) =>
    let k := s.readLength n
    let s := { s with hif := { s.hif with
      round := if 1 < w then (n, w - 1) :: rest else rest
      roundStart := start
      lastRead := s.sqSlot n (s.qp n).sqHead } }
    s.take n (data.take k)

/-- DESCRIPTOR_FETCH (R91). -/
def execDescriptorFetch (data : List (List Byte)) (s : State) : Host.Outcome State Fault Refusal :=
  .next (s.fetch data).settle

/-- BAD_OPCODE (R110): a fetched descriptor with a reserved opcode. -/
def execBadOpcode (qp : Fin 64) (d : List Byte) (s : State) : Host.Outcome State Fault Refusal :=
  if isBadOpcode d then
    .next (s.takeUp (rd d 0 1) qp d fun s e => (s.complete qp e St.BAD_OPCODE Cause.BAD_OPCODE_SEEN).raise Cause.BAD_OPCODE_SEEN)
  else .refused (.illFormed "the opcode is one of Table 4.8")

/-! ### Errors and resets (R81, R83, R92, R111, R480) -/

/-- An ACTIVE pair enters ERROR (Table 4.3). -/
def State.qpError (s : State) (n code : Nat) : State :=
  let q := s.qp n
  if q.state = .active then s.setQp n { q with state := .error, cause := bits code 5 0, waiting := [] } else s

/-- The work of a descriptor that has ended leaves the unit that held it. -/
def State.dropWork (s : State) (n : Nat) (d : List Byte) : State :=
  let s := match s.fwh.runs.find? fun r => r.origin == some (n, d) with
    | some r => s.endRun r St.DMA_ERROR 0
    | none => s
  let s := match s.ihx.pushes.find? fun p => p.qp == n && p.d == d with
    | some p => s.endPush p St.DMA_ERROR 0
    | none => s
  let s := { s with
    tru := { s.tru with queue := s.tru.queue.filter fun x => !(x.qp == n && x.d == d) }
    progs := s.progs.filter fun a => !(a.qp == n && a.d == d) }
  (List.range 16).foldl (fun s e => s.setEng e { s.eng e with prog := (s.eng e).prog.take 1 ++ ((s.eng e).prog.drop 1).filter fun i => !i.what.of n d }) s

/-- An operand read of a descriptor fails: DMA_ERROR with its record, or, the link being lost, an end without completion or record (R83, R111). -/
def State.operandError (s : State) (n : Nat) (d : List Byte) (addr : Nat) : State :=
  let s := if s.hif.linkUp then (s.complete n d St.DMA_ERROR Cause.DMA_READ_ERROR addr).raiseIn Cause.DMA_READ_ERROR 1 n addr else s.endDesc n d
  if descNo d = unfetched then s else s.dropWork n d

/-- HOST_DMA_ERROR (R111): the failing access was a descriptor fetch (0), operand data of descriptor `d` (1) or a
completion write (2). After the loss of the link no record is raised and no completion written (R83). -/
def execHostDmaError (access : Fin 3) (qp : Fin 64) (d : List Byte) (addr : BitVec 64) (s : State) :
    Host.Outcome State Fault Refusal :=
  .next (
    if access.val = 1 then (s.operandError qp (s.begunDesc qp d) addr.toNat).settle
    else if !s.hif.linkUp then s
    else if access.val = 0 then ((s.qpError qp Cause.FETCH_ERROR).raiseIn Cause.FETCH_ERROR 1 qp addr.toNat).settle
    else ((s.qpError qp Cause.CPL_WRITE_ERROR).raiseIn Cause.CPL_WRITE_ERROR 1 qp addr.toNat).settle)

/-- CQ_STALL (R92): the CQ of the pair has stayed full beyond CQ_STALL_MS; raised once per stall. -/
def execCqStall (qp : Fin 64) (s : State) : Host.Outcome State Fault Refusal :=
  .next (if (s.qp qp).state = .active ∧ s.cqFull qp = true ∧ (s.qp qp).stallRaised = false then
      ((s.setQp qp { s.qp qp with stallRaised := true }).raise Cause.CQ_STALL).settle
    else s)

/-- Every pair is disabled, but one held in ERROR (R81, R83). -/
def State.disableAll (s : State) : State :=
  (List.range 64).foldl (fun s n => if (s.qp n).held then s else s.qpDisableWritten n) s

/-- What the HIF registers report of a pair returns to reset, unless the pair is held in ERROR (R81). -/
def Qp.hifReset (q : Qp) : Qp := if q.held then q else { q with sqHead := 0, sqTail := 0, cqHead := 0, cqTail := 0, phase := 1, cause := 0, stallRaised := false }

/-- The HIF registers, their latches and the MSI-X table return to reset (R6, R81, R480). -/
def State.resetHif (s : State) : State :=
  let s := (List.range 64).foldl (fun s n => s.setQp n (s.qp n).hifReset) s
  let out := fun o => decide (o < 0x4000) || decide (0x8000 ≤ o)
  { s with
    regs := s.regs.keep out, latches := s.latches.keep out, holding := s.holding.keep out
    hif := { s.hif with vecs := [], pending := [] } }

/-- FLR (R81). -/
def execFlr (s : State) : Host.Outcome State Fault Refusal :=
  .next (((s.disableAll).resetHif).raise Cause.FLR_RECEIVED).settle

/-- The link is lost: every pair is disabled; LINK_LOST is raised only in operation, Active or Ready (R83). -/
def State.linkLost (s : State) : State :=
  let s := ({ s with hif := { s.hif with linkUp := false } }).disableAll
  if s.operational then s.raise Cause.LINK_LOST else s

/-- LINK_LOST (R83). -/
def execLinkLost (s : State) : Host.Outcome State Fault Refusal := .next (if s.hif.linkUp then s.linkLost.settle else s)

/-- PERST_N_ASSERT (R480): the loss of the link, and the reset of the host interface without FLR_RECEIVED. -/
def execPerstNAssert (s : State) : Host.Outcome State Fault Refusal :=
  .next (let s := { s with hif := { s.hif with perst := true } }
    let s := (if s.hif.linkUp then s.linkLost else s.disableAll).resetHif
    ({ s with hif := { s.hif with pcie := {} } }).settle)

/-- PERST_N_RELEASE (R480): the endpoint trains the link again. -/
def execPerstNRelease (s : State) : Host.Outcome State Fault Refusal :=
  .next ({ s with hif := { s.hif with perst := false } }).settle

/-- The endpoint is enabled: ST08 has passed, and the module is not in Off, Hold or Doze (Table 2.7, Table 3.1). -/
def State.endpointUp (s : State) : Bool :=
  !s.hif.perst && (s.start.passed.contains 8) && !(s.sup.power = .off || s.sup.power = .sprout || s.sup.power = .hold ||
    (s.sup.power = .doze && !s.sup.waking))

/-- LINK_UP (R80, R101): the link reaches L0 at Gen1 to Gen4 and x1, x2 or x4; WAKE# is released (R48) and pending messages are sent. The alternate of ST08 caps
the link at Gen3 (R80). -/
def execLinkUp (gen : Fin 5) (width : BitVec 4) (s : State) : Host.Outcome State Fault Refusal :=
  .next (if s.endpointUp && decide (gen.val ≠ 0) && [1, 2, 4].contains width.toNat then
      ({ s with
        hif := { s.hif with linkUp := true, linkGen := if s.hif.linkCap3 then min gen.val 3 else gen.val
                            linkWidth := width.toNat }
        sup := { s.sup with wakePin := false } }).sendPending.settle
    else s)

/-- MODERATION_TIMER (R101): TIME_US after the first uncounted-for completion of a vector. -/
def execModerationTimer (vector : Fin 64) (s : State) : Host.Outcome State Fault Refusal :=
  .next (match (s.vec vector).since with
    | none => s
    | some t =>
      if s.fget (Fld.HIF_VEC_n_MOD_TIME_US vector) = 0 then s
      else ((s.passUntil (t + 1000 * s.fget (Fld.HIF_VEC_n_MOD_TIME_US vector))).fireVec vector).settle)

/-! ### FENCE and READ_STATE (R97, R98, R442) -/

/-- The fetch numbers a fence waits for. -/
def State.fenceIds (s : State) (n : Nat) (d : List Byte) (all : Bool) : List Nat :=
  ((List.range 64).filter (fun m => all || m == n)).flatMap fun m =>
    ((s.qp m).inflight.filter (fun f => decide (f.id < descNo d))).map (·.id)

/-- FENCE (R98): completes once every descriptor fetched before it in its scope has completed. -/
def State.fence (s : State) (n : Nat) (d : List Byte) : State :=
  if 1 < rd d 8 1 then s.malformed n d 8
  else
    let ids := s.fenceIds n d (rd d 8 1 == 1)
    { s with hif := { s.hif with fences := s.hif.fences ++ [⟨n, d, ids, ids.length⟩] } }

/-- FENCE. -/
def execFence (qp : Fin 64) (d : List Byte) (s : State) : Host.Outcome State Fault Refusal :=
  gate 0x0B qp d s (fun s d => s.fence qp d)

/-- A word as staged in set `k`: staged fields from the set, else from the shadow of ST words, every other field in effect (Table 0.2, Table 4.20). -/
def State.stagedWord (s : State) (k off : Nat) : Nat :=
  let cur := (s.stWords.get (fun o => BitVec.ofNat 32 (s.readWord o)) off).toNat
  match (s.set k).entries.find? (fun e => e.1 == off) with
  | none => cur
  | some e =>
    let m := stagedWordMask off
    (cur &&& (0xFFFFFFFF ^^^ m)) ||| (e.2.toNat &&& m)

/-- The words READ_STATE returns from BAR0; unmapped words read as zero. -/
def stateWords (off len : Nat) (f : Nat → Nat) : List Byte :=
  (List.range (len / 4)).flatMap fun i =>
    leBytes 4 (if (findReg (off + 4 * i)).isSome then f (off + 4 * i) else 0)

/-- READ_STATE (Table 4.20, R442). -/
def State.readState (s : State) (n : Nat) (d : List Byte) : State :=
  let space := rd d 8 1
  let off := bits (rd d 12 4) 19 0
  let len := rd d 16 4
  if 2 < space then s.malformed n d 8
  else if 3 < rd d 9 1 then s.malformed n d 9
  else if space ≠ 2 ∧ off % 4 ≠ 0 then s.malformed n d 12
  else if len % 4 ≠ 0 ∨ 65536 < len ∨ (space = 2 ∧ len % 32 ≠ 0) then s.malformed n d 16
  else if !hostAddr (rd d 24 8) then s.malformed n d 24
  else if space = 2 then
    let k := min (len / 32) s.brk.queue.length
    let out := (s.brk.queue.take k).flatMap FaultRec.bytes
    let s := { s.hostWrite (rd d 24 8) out with brk := { s.brk with queue := s.brk.queue.drop k } }
    s.complete n d St.OK 0 (32 * k)
  else
    let f := if space = 0 then s.readWord else s.stagedWord (rd d 9 1)
    ((s.afterRead off len).useFree.hostWrite (rd d 24 8) (stateWords off len f)).complete n d St.OK 0 len

/-- READ_STATE, SPACE 0 to 2. -/
def execReadState (qp : Fin 64) (d : List Byte) (s : State) : Host.Outcome State Fault Refusal :=
  gate 0x0C qp d s (fun s d => s.readState qp d)

/-- READ_FAULT_QUEUE (R442): READ_STATE with SPACE 2. -/
def execReadFaultQueue (qp : Fin 64) (d : List Byte) (s : State) : Host.Outcome State Fault Refusal :=
  gate 0x0C qp d s (fun s d => s.readState qp d)

end Sys2Proof.Machine
end

