-- ==== Sys2Proof/Machine/RunRows.lean ====
section
/-! DEFINITION. RUN in both partitions, the emission of a sample, and the pieces of a phase (chapters 6, 11, 12 and 13). -/
namespace Sys2Proof.Machine

/-! ### RUN (R288, R298, R312) -/

/-- RUN with PARTITION 1 asks for a test iteration (R288). -/
def State.testRun (s : State) (qp : Nat) (d : List Byte) : State :=
  let out := rd d 40 8
  if rd d 8 2 ≠ 0 then s.malformed qp d 8
  else if rd d 16 8 ≠ 0 then s.malformed qp d 16
  else if rd d 32 8 ≠ 0 then s.malformed qp d 32
  else if out ≠ 0 ∧ anyAddr out = false then s.malformed qp d 40
  else if out ≠ 0 ∧ rd d 48 4 < 128 then s.malformed qp d 48
  else if s.fget Fld.FXG_CONFIG_TEST_EN = 0 then s.refuse qp d 1
  else if !s.variantRuns || s.fxg.halted then s.complete qp d St.NOT_AVAILABLE
  else { s with fxg := { s.fxg with tests := s.fxg.tests ++ [(qp, d)] } }

/-- The first malformed field of a Freewheel RUN (R96, R298); PARTITION has the codes 0 and 1 only (Table 4.9). -/
def runField (img d : List Byte) : Option Nat :=
  let ctx := rd d 12 1
  let sample := rd d 16 8
  let inA := rd d 32 8
  let outA := rd d 40 8
  if Image.jobCount img ≤ rd d 8 2 then some 8
  else if 1 < rd d 10 1 then some 10
  else if 7 < rd d 11 1 then some 11
  else if 31 < ctx ∧ ctx ≠ 0xFF then some 12
  else if (sample = 0) = (inA = 0) ∨ 24 ≤ sample / 2 ^ 59 then some 16
  else if inA ≠ 0 ∧ anyAddr inA = false then some 32
  else if outA ≠ 0 ∧ anyAddr outA = false then some 40
  else none

/-- The context of a RUN: the one it names, or with 0xFF the lowest that holds no run and that no job of the image names (R298). -/
def State.runContext (s : State) (c : Nat) : Option Nat :=
  if c ≠ 0xFF then some c
  else (List.range 32).find? fun k => (s.ctxRuns k).isEmpty && !((Image.jobs s.fwh.image).any fun j => Image.jContext j == k)

/-- The deadline of a RUN: its own, else the job's from T_LAST of its sample or from its dispatch (R312). -/
def State.runLimit (s : State) (d : List Byte) (j : List Byte) : Nat :=
  let sample := rd d 16 8
  if rd d 24 8 ≠ 0 then rd d 24 8
  else if sample = 0 then s.now + Image.jDeadline j
  else match s.sampleAt sample with
    | .held h => rd h 16 8 + Image.jDeadline j
    | _ => noDeadline

/-- RUN with PARTITION 0 (R298). One whose deadline has passed completes DEADLINE_MISSED without running (R312). -/
def State.freeRun (s : State) (qp : Nat) (d : List Byte) : State :=
  let img := s.fwh.image
  if !s.fwhOn then s.complete qp d St.NOT_AVAILABLE
  else
    match runField img d with
    | some off => s.malformed qp d off
    | none =>
      let j := (Image.job? img (rd d 8 2)).getD []
      if Image.jBind j ≠ 0xFF then s.refuse qp d 1
      else
        match s.runContext (rd d 12 1) with
        | none => s.refuse qp d 2
        | some c =>
          if 16 ≤ (s.ctxRuns c).length then s.refuse qp d 3
          else if (s.tearing c).isSome || s.ctxOut c then s.refuse qp d 4
          else
            let limit := s.runLimit d j
            let s := s.admitRun (rd d 8 2) c (rd d 11 1) (rd d 16 8) (some (qp, d)) limit
            if limit < s.now then
              match s.fwh.runs.getLast? with
              | some r => (s.jobMissed r.sample r.job).endRun r St.DEADLINE_MISSED
              | none => s
            else s

/-- RUN: PARTITION says which of the two it is (Table 4.9). -/
def State.runCommand (s : State) (qp : Nat) (d : List Byte) : State := if rd d 10 1 = 1 then s.testRun qp d else s.freeRun qp d

/-- RUN (R298). -/
def execRun (qp : Fin 64) (d : List Byte) (s : State) : Host.Outcome State Fault Refusal := gate 0x01 qp d s fun s d => s.runCommand qp d

/-- TEST_ITERATION_RUN: RUN with PARTITION 1 (R288). -/
def execTestIterationRun (qp : Fin 64) (d : List Byte) (s : State) : Host.Outcome State Fault Refusal := gate 0x01 qp d s fun s d => s.runCommand qp d

/-! ### Emission (R153, R165, R166, R298, R312, R451) -/

/-- Runs that waited for the deadline of their sample have it from now on (R312). -/
def State.sampleDeadlines (s : State) (id tLast : Nat) : State :=
  { s with fwh := { s.fwh with runs := s.fwh.runs.map fun r =>
      if r.sample = id ∧ r.deadline = noDeadline then { r with deadline := tLast + (Image.job? r.image r.job).elim 0 Image.jDeadline } else r } }

/-- The sample reaches its destination: a slot of the pool, or its region unless that is busy (R153). -/
def State.placeSample (s : State) (n id : Nat) (x : Sample) (p : Program) : State :=
  let ls := decide ((s.ctx n).path = 0)
  let tensor := s.buildTensor x p
  let s := s.useFree (p.padBytes x.channels)
  match x.slot with
  | some k =>
    let off := s.slotOffset n k
    let h := x.header p id ls false s.now (2 ^ 63 + off)
    let bad := s.accessFault true false off (128 + tensor.length)
    let s := (s.memWrite false off (h ++ tensor)).setCtx n ((s.ctx n).setSlot k { id, hdr := h })
    match bad with
    | some c => s.raiseIn c 2 n
    | none => s
  | none =>
    match Image.regionOf s.fxg.image n with
    | none => s
    | some r =>
      let k := Image.rRegion r
      if (s.region k).held.id ≠ 0 then
        let s := s.raise Cause.DEST_BUSY
        match s.fxg.variant with
        | some v => if s.variantRuns && s.regionUsed k then s.sampleMissed v id else s
        | none => s
      else s.setRegion k { held := { id, hdr := x.header p id ls false s.now 0 }, tensor, flag := true, setAt := s.flagTime }

/-- A watched context has emitted a sample: it is not lost (R451, Table 18.4). -/
def State.inputBack (s : State) (n : Nat) : State :=
  ({ s with brk := { s.brk with lost := s.brk.lost.filter (· != n), emitted := s.brk.emitted.put (fun _ => 0) n s.now } }).endHandling 13 n

/-- The oldest captured sample of a context is emitted (R166); at PL1 and above a tile is discarded instead (R165). -/
def State.emitSample (s : State) (n : Nat) : State :=
  let c := s.ctx n
  match c.ready with
  | [] => s
  | x :: t =>
    if x.needAfter then s
    else
      let s := s.setCtx n { c with ready := t }
      match x.prog with
      | none => (s.discarded n).finishClose n
      | some p =>
        if c.path = 0 ∧ 1 ≤ s.sup.level then (s.discarded n).finishClose n
        else
          let id := sampleId n c.nextSeq
          let s := s.setCtx n { s.ctx n with nextSeq := c.nextSeq + 1 }
          let s := (s.placeSample n id x p).sampleDeadlines id x.tLast
          ((s.boundAdmit n id x.tLast).inputBack n).finishClose n

/-- SAMPLE_EMIT (R166). -/
def execSampleEmit (context : Fin 24) (s : State) : Host.Outcome State Fault Refusal := .next (s.emitSample context).settle

/-! ### The pieces of a phase (R324, R327) -/

/-- The phase whose pieces a run may send: the lowest with an exchange that it has not sent, once it is released and the last wave of the phase before has ended. -/
def State.phaseDue (r : Run) : Option (List Byte) :=
  if r.state = .active ∧ r.released = true then
    ((Image.jobPhases r.image r.job).find? fun p => Image.phExchange p && !r.sent.contains (Image.phNum p)).filter fun p => r.waveDone (Image.phFirst p - 1)
  else none

/-- The piece from member a to member b as its region holds it, in whole units: its box of what this module holds of the boundary tensor; row padding and what follows the piece
in its last unit are free values (R15, R324). -/
def State.pieceUnitsOf (s : State) (p held : List Byte) (a b units size : Nat) : List Byte :=
  let free := fun k => (Config.freeValue (s.freeCount + k)).truncate 8
  let x := pieceOf p a b held free
  x ++ (List.range (units * size - x.length)).map fun k => free (x.length + k)

/-- The tiles of a piece, one a unit. -/
def pieceTiles (r : Run) (phase round image addr size : Nat) : Nat → List Byte → List TxFrame
  | 0, _ => []
  | n + 1, b =>
    { type := 1, src := .piece r.id phase round, addr, job := r.job, phase, run := r.number, image, payload := b.take size } ::
      pieceTiles r phase round image (addr + size) size n (b.drop size)

/-- One piece of a phase: to this module over the Chainring, to another in tiles (R327). `k` is the distance of the destination. -/
def State.sendPiece (s : State) (r : Run) (p g : List Byte) (a k : Nat) (held : List Byte) : State :=
  let ms := r.members
  let m := max 1 ms.length
  let b := (a + k) % m
  let n := pieceBytes p a b
  if n = 0 then s
  else
    let size := Image.aUnitBytes g
    let units := (n + size - 1) / max 1 size
    let bytes := s.pieceUnitsOf p held a b units size
    let s := s.useFree (units * size)
    let addr := Image.aBase g + pieceStart p size a
    if k = 0 then s.memWrite false (bits addr 40 0) bytes
    else
      let s := s.bump64 Reg.FWH_MAP_SENT n
      s.ihxQueue (ms.getD b 0) (pieceTiles r (Image.phNum p) ((k - 1) / 64) s.imageLow addr size units bytes)

/-- What this module holds of a phase's boundary tensor: a tensor of its own box of shards at an address in DRAM (R323; log entry 189). -/
def State.heldShards (s : State) (p : List Byte) (a : Nat) (addr : BitVec 64) : List Byte :=
  let x := shardBox p (rd p 4 1) a
  s.dramRead (bits addr.toNat 40 0) (Cells.bytes (rd p 18 1) (rd p 19 1) (rd p 20 2) x.1.2 x.2.2)

/-- The oldest run of a context sends the pieces of the phase that is due (R327), cut out of the part of the boundary tensor that lies at `addr`. -/
def State.pieceSend (s : State) (c : Nat) (addr : BitVec 64) : State :=
  match (s.ctxRuns c).head? with
  | none => s
  | some r =>
    match State.phaseDue r with
    | none => s
    | some p =>
      let s := s.putRun { r with sent := r.sent ++ [Image.phNum p] }
      match r.region? p with
      | none => s
      | some g =>
        let m := max 1 r.members.length
        let a := if r.members.isEmpty then 0 else r.members.idxOf s.moduleId
        let held := s.heldShards p a addr
        (List.range m).foldl (fun s k => s.sendPiece r p g a k held) s

/-- PIECE_SEND (R327). -/
def execPieceSend (context : Fin 32) (addr : BitVec 64) (s : State) : Host.Outcome State Fault Refusal :=
  .next (s.pieceSend context addr).settle

/-! ### Barriers that are not released (R326, R330) -/

/-- The barrier wait limit in ns. -/
def State.barrierNs (s : State) : Nat := 1000000 * s.fget Fld.FWH_MAP_CONFIG_BARRIER_MS

/-- BARRIER_TIMEOUT is raised and counted. -/
def State.barrierLate (s : State) : State := (s.bump Fld.FWH_MAP_ERRORS_TIMEOUTS).raise Cause.BARRIER_TIMEOUT

/-- The oldest run of a context, or with none the oldest host barrier, has waited BARRIER_MS for its release. -/
def State.barrierTimeout (s : State) (c : Option Nat) : State :=
  match c with
  | some c =>
    match (s.ctxRuns c).head? with
    | none => s
    | some r =>
      match r.joinedAt with
      | none => s
      | some t =>
        if r.released || decide (r.state ≠ .active) then s
        else ((s.passUntil (t + s.barrierNs)).barrierLate).endRun r St.FAULTED Cause.BARRIER_TIMEOUT
  | none =>
    match s.fwh.hostWaits with
    | [] => s
    | h :: t =>
      let s := (s.passUntil (h.joinedAt + s.barrierNs)).barrierLate
      ({ s with fwh := { s.fwh with hostWaits := t } }).complete h.qp h.d St.FAULTED Cause.BARRIER_TIMEOUT

/-- BARRIER_TIMEOUT (R326, R330): of the oldest run of a context, or of the oldest host barrier. -/
def execBarrierTimeout (context : Option (Fin 32)) (s : State) : Host.Outcome State Fault Refusal :=
  .next (s.barrierTimeout (context.map Fin.val)).settle

end Sys2Proof.Machine
end

