-- ==== Sys2Proof/Machine/StartRows.lean ====
section
/-! DEFINITION. The rows of the start sequence (chapter 3). -/
namespace Sys2Proof.Machine

/-- START_STEP (R60): the running step ends. -/
def execStartStep (ok cut : Bool) (cause : BitVec 16) (durUs detail : Word) (x : StepInput) (s : State) :
    Host.Outcome State Fault Refusal :=
  .next (s.endStep ok cut cause.toNat durUs.toNat detail.toNat x).settle

/-- STEP_TIMEOUT (R60): the running step exceeds its maximum and has failed; ST22 fails only by a module-class record (Table 3.1). -/
def execStepTimeout (s : State) : Host.Outcome State Fault Refusal :=
  .next (if s.start.stepOpen && decide (s.start.phase ≠ .awaitGo) && decide (s.start.step ≠ 22) then
      let ms := stepMax s.start.step s.start.holdWake s.start.alternate
      ((s.passUntil (s.now + ms * 1000000)).failStep 1 0 (ms * 1000) 0).settle
    else s)

/-- FAST_DOMAIN_RESTART (R62, R66): after 100 ms without power a new attempt begins at ST01, or, after 8 consecutive
attempts that ended in a failed step, the module comes up in Maintenance state. -/
def execFastDomainRestart (s : State) : Host.Outcome State Fault Refusal :=
  .next (if s.start.fastOff then
      let s := s.passUntil (s.now + 100000000)
      (if 8 ≤ s.start.failedAttempts then s.startLoop else s.beginAttempt 3).settle
    else s)

end Sys2Proof.Machine
end

