-- ==== Sys2Proof/Machine/TruingRows.lean ====
section
/-! DEFINITION. The rows of the Truing engine (chapter 14). -/
namespace Sys2Proof.Machine

/-- SOLVE (R343): `obs` is what the host memory at IN_ADDR holds. -/
def execSolve (qp : Fin 64) (d obs : List Byte) (s : State) : Host.Outcome State Fault Refusal :=
  gate 0x08 qp d s (fun s d => s.solve qp d obs)

/-- SOLVE_END (R339): `trace` is what the running solve computes. -/
def execSolveEnd (trace : SolveTrace) (s : State) : Host.Outcome State Fault Refusal := .next (s.solveEnd trace).settle

/-- TRUING_STORE_WRITE (R349): the write of the Truing store after a commit, and whether it succeeded. -/
def execTruingStoreWrite (ok : Bool) (s : State) : Host.Outcome State Fault Refusal := .next (s.storeWrite ok).settle

end Sys2Proof.Machine
end

