-- ==== Sys2Proof/Machine/Dispatch.lean ====
section
/-! DEFINITION. The dispatch of every command to its meaning: one arm per constructor. -/
namespace Sys2Proof.Machine

def exec (i : Instr) (s : State) : Host.Outcome State Fault Refusal :=
  match i with
  | .registerWrite off value fetch => Sys2Proof.Machine.execRegisterWrite off value fetch s
  | .unalignedAccess off write => Sys2Proof.Machine.execUnalignedAccess off write s
  | .reg64LowRead off => Sys2Proof.Machine.execReg64LowRead off s
  | .sysLockSet => Sys2Proof.Machine.execSysLockSet s
  | .go => Sys2Proof.Machine.execGo s
  | .restart => Sys2Proof.Machine.execRestart s
  | .jrnStepClear mask => Sys2Proof.Machine.execJrnStepClear mask s
  | .brkRestart => Sys2Proof.Machine.execBrkRestart s
  | .llcCountClear mask => Sys2Proof.Machine.execLlcCountClear mask s
  | .qpEnable qp => Sys2Proof.Machine.execQpEnable qp s
  | .qpDisable qp => Sys2Proof.Machine.execQpDisable qp s
  | .startStep ok cut cause durUs detail x => Sys2Proof.Machine.execStartStep ok cut cause durUs detail x s
  | .stepTimeout => Sys2Proof.Machine.execStepTimeout s
  | .fastDomainRestart => Sys2Proof.Machine.execFastDomainRestart s
  | .sqTailDoorbell page off width value => Sys2Proof.Machine.execSqTailDoorbell page off width value s
  | .cqHeadDoorbell page value => Sys2Proof.Machine.execCqHeadDoorbell page value s
  | .descriptorFetch data => Sys2Proof.Machine.execDescriptorFetch data s
  | .cqStall qp => Sys2Proof.Machine.execCqStall qp s
  | .hostDmaError access qp d addr => Sys2Proof.Machine.execHostDmaError access qp d addr s
  | .flr => Sys2Proof.Machine.execFlr s
  | .perstNAssert => Sys2Proof.Machine.execPerstNAssert s
  | .perstNRelease => Sys2Proof.Machine.execPerstNRelease s
  | .linkLost => Sys2Proof.Machine.execLinkLost s
  | .linkUp gen width => Sys2Proof.Machine.execLinkUp gen width s
  | .moderationTimer vector => Sys2Proof.Machine.execModerationTimer vector s
  | .stageRegisterList qp d list tables => Sys2Proof.Machine.execStageRegisterList qp d list tables s
  | .fence qp d => Sys2Proof.Machine.execFence qp d s
  | .readState qp d => Sys2Proof.Machine.execReadState qp d s
  | .readFaultQueue qp d => Sys2Proof.Machine.execReadFaultQueue qp d s
  | .badOpcode qp d => Sys2Proof.Machine.execBadOpcode qp d s
  | .powerRequest qp d => Sys2Proof.Machine.execPowerRequest qp d s
  | .supplyStart strap vin e eFull => Sys2Proof.Machine.execSupplyStart strap vin e eFull s
  | .voltageTrigger t vin => Sys2Proof.Machine.execVoltageTrigger t vin s
  | .voltageTriggerClear t vin => Sys2Proof.Machine.execVoltageTriggerClear t vin s
  | .energyTrigger e => Sys2Proof.Machine.execEnergyTrigger e s
  | .levelRestore vin e => Sys2Proof.Machine.execLevelRestore vin e s
  | .orderlyOffDone => Sys2Proof.Machine.execOrderlyOffDone s
  | .bankMeasurement mJ => Sys2Proof.Machine.execBankMeasurement mJ s
  | .crystalFail => Sys2Proof.Machine.execCrystalFail s
  | .wake src vin coarse sw rising => Sys2Proof.Machine.execWake src vin coarse sw rising s
  | .latchedWakeStart vin => Sys2Proof.Machine.execLatchedWakeStart vin s
  | .dozeToHold => Sys2Proof.Machine.execDozeToHold s
  | .sleepEntry => Sys2Proof.Machine.execSleepEntry s
  | .dozeWakeComplete phases => Sys2Proof.Machine.execDozeWakeComplete phases s
  | .wakeRelease => Sys2Proof.Machine.execWakeRelease s
  | .engineGate engine => Sys2Proof.Machine.execEngineGate engine s
  | .selftest bit pass => Sys2Proof.Machine.execSelftest bit pass s
  | .brkCrossCheck agree => Sys2Proof.Machine.execBrkCrossCheck agree s
  | .autoRestart => Sys2Proof.Machine.execAutoRestart s
  | .warnHold => Sys2Proof.Machine.execWarnHold s
  | .obstacleInputLost ctx => Sys2Proof.Machine.execObstacleInputLost ctx s
  | .warnReadback line => Sys2Proof.Machine.execWarnReadback line s
  | .warnTestPulse line => Sys2Proof.Machine.execWarnTestPulse line s
  | .safeOkReadback channel => Sys2Proof.Machine.execSafeOkReadback channel s
  | .wdogEdge level after => Sys2Proof.Machine.execWdogEdge level after s
  | .extWatchdog => Sys2Proof.Machine.execExtWatchdog s
  | .hubLockstep => Sys2Proof.Machine.execHubLockstep s
  | .hubWatchdog => Sys2Proof.Machine.execHubWatchdog s
  | .clockFault => Sys2Proof.Machine.execClockFault s
  | .railFault => Sys2Proof.Machine.execRailFault s
  | .tempMonitor tenths => Sys2Proof.Machine.execTempMonitor tenths s
  | .stemFault => Sys2Proof.Machine.execStemFault s
  | .baseplateHot tenths => Sys2Proof.Machine.execBaseplateHot tenths s
  | .powerDerate tenths pin => Sys2Proof.Machine.execPowerDerate tenths pin s
  | .sleepStrobe step msw => Sys2Proof.Machine.execSleepStrobe step msw s
  | .safeSupChange mv10 => Sys2Proof.Machine.execSafeSupChange mv10 s
  | .cxpControlRead camera => Sys2Proof.Machine.execCxpControlRead camera s
  | .cxpControlWrite camera => Sys2Proof.Machine.execCxpControlWrite camera s
  | .ctlResponse result data => Sys2Proof.Machine.execCtlResponse result data s
  | .ctlTimeout => Sys2Proof.Machine.execCtlTimeout s
  | .cxpLine camera t fmt count complete laneFull pixels => Sys2Proof.Machine.execCxpLine camera t fmt count complete laneFull pixels s
  | .triggerTimeout camera => Sys2Proof.Machine.execTriggerTimeout camera s
  | .cxpLinkLoss camera conn midLine => Sys2Proof.Machine.execCxpLinkLoss camera conn midLine s
  | .cxpDiscovery camera found speed => Sys2Proof.Machine.execCxpDiscovery camera found speed s
  | .cxpEventPacket camera => Sys2Proof.Machine.execCxpEventPacket camera s
  | .csi2FrameStart port vc t frame ecc dt width height overrun => Sys2Proof.Machine.execCsi2FrameStart port vc t frame ecc dt width height overrun s
  | .csi2LongPacket port vc ecc crcOk dt samples => Sys2Proof.Machine.execCsi2LongPacket port vc ecc crcOk dt samples s
  | .csi2FrameEnd port vc t ecc => Sys2Proof.Machine.execCsi2FrameEnd port vc t ecc s
  | .sensorLost sensor => Sys2Proof.Machine.execSensorLost sensor s
  | .apyLinkDown port => Sys2Proof.Machine.execApyLinkDown port s
  | .apyLinkUp port gear => Sys2Proof.Machine.execApyLinkUp port gear s
  | .sensorWriteAck sensor => Sys2Proof.Machine.execSensorWriteAck sensor s
  | .sensorWriteFail sensor => Sys2Proof.Machine.execSensorWriteFail sensor s
  | .decodeGap context => Sys2Proof.Machine.execDecodeGap context s
  | .streamSilent context => Sys2Proof.Machine.execStreamSilent context s
  | .decodedPicture context t stamp vui supported intact width rows => Sys2Proof.Machine.execDecodedPicture context t stamp vui supported intact width rows s
  | .streamOpen qp d => Sys2Proof.Machine.execStreamOpen qp d s
  | .streamClose qp d => Sys2Proof.Machine.execStreamClose qp d s
  | .intake qp d table => Sys2Proof.Machine.execIntake qp d table s
  | .intakeProgramEffect context => Sys2Proof.Machine.execIntakeProgramEffect context s
  | .sampleEmit context => Sys2Proof.Machine.execSampleEmit context s
  | .ptpMessage messageType portState sync => Sys2Proof.Machine.execPtpMessage messageType portState sync s
  | .ptpSyncTimeout => Sys2Proof.Machine.execPtpSyncTimeout s
  | .ptpPortTimer timer => Sys2Proof.Machine.execPtpPortTimer timer s
  | .ppsInEdge time falling wide => Sys2Proof.Machine.execPpsInEdge time falling wide s
  | .ppsInTimeout => Sys2Proof.Machine.execPpsInTimeout s
  | .ppsOutSecond => Sys2Proof.Machine.execPpsOutSecond s
  | .forwardStep => Sys2Proof.Machine.execForwardStep s
  | .stepBackApply => Sys2Proof.Machine.execStepBackApply s
  | .holdoverExpired => Sys2Proof.Machine.execHoldoverExpired s
  | .launch port => Sys2Proof.Machine.execLaunch port s
  | .launchDeadline port => Sys2Proof.Machine.execLaunchDeadline port s
  | .timedSend qp d frame => Sys2Proof.Machine.execTimedSend qp d frame s
  | .timeStepBack qp d => Sys2Proof.Machine.execTimeStepBack qp d s
  | .stageScheduleImage qp d image => Sys2Proof.Machine.execStageScheduleImage qp d image s
  | .stageCorrectionBlock qp d block => Sys2Proof.Machine.execStageCorrectionBlock qp d block s
  | .commitConfig qp d => Sys2Proof.Machine.execCommitConfig qp d s
  | .commitAbandon qp d => Sys2Proof.Machine.execCommitAbandon qp d s
  | .commitEffect => Sys2Proof.Machine.execCommitEffect s
  | .commitTimeout => Sys2Proof.Machine.execCommitTimeout s
  | .drainReprogramDone => Sys2Proof.Machine.execDrainReprogramDone s
  | .programArrays qp d images => Sys2Proof.Machine.execProgramArrays qp d images s
  | .verifyArrays qp d images => Sys2Proof.Machine.execVerifyArrays qp d images s
  | .arrayProgramDone engine ok => Sys2Proof.Machine.execArrayProgramDone engine ok s
  | .mvm engine hi lo int4 input errHi errLo slots job => Sys2Proof.Machine.execMvm engine hi lo int4 input errHi errLo slots job s
  | .patrolRead engine phys row diffs fires => Sys2Proof.Machine.execPatrolRead engine phys row diffs fires s
  | .patrolResolve engine array seen => Sys2Proof.Machine.execPatrolResolve engine array seen s
  | .arrayRetire qp d => Sys2Proof.Machine.execArrayRetire qp d s
  | .retirementBackingMove engine => Sys2Proof.Machine.execRetirementBackingMove engine s
  | .solve qp d obs => Sys2Proof.Machine.execSolve qp d obs s
  | .solveEnd trace => Sys2Proof.Machine.execSolveEnd trace s
  | .truingStoreWrite ok => Sys2Proof.Machine.execTruingStoreWrite ok s
  | .testIterationRun qp d => Sys2Proof.Machine.execTestIterationRun qp d s
  | .contextKill qp d => Sys2Proof.Machine.execContextKill qp d s
  | .iterationStart => Sys2Proof.Machine.execIterationStart s
  | .checkpoint workN cycleN placedN workS cycleS placedS warn hand => Sys2Proof.Machine.execCheckpoint workN cycleN placedN workS cycleS placedS warn hand s
  | .iterationEnd cycles work => Sys2Proof.Machine.execIterationEnd cycles work s
  | .variantChange => Sys2Proof.Machine.execVariantChange s
  | .planChangeResume => Sys2Proof.Machine.execPlanChangeResume s
  | .decisionDeadline job => Sys2Proof.Machine.execDecisionDeadline job s
  | .taskEnd engine work report => Sys2Proof.Machine.execTaskEnd engine work report s
  | .preemption engine => Sys2Proof.Machine.execPreemption engine s
  | .saveComplete engine ns content => Sys2Proof.Machine.execSaveComplete engine ns content s
  | .restoreComplete engine ns => Sys2Proof.Machine.execRestoreComplete engine ns s
  | .taskFault engine what => Sys2Proof.Machine.execTaskFault engine what s
  | .teardownComplete context => Sys2Proof.Machine.execTeardownComplete context s
  | .jobDeadline context index => Sys2Proof.Machine.execJobDeadline context index s
  | .starveClaim stop => Sys2Proof.Machine.execStarveClaim stop s
  | .carriageDelivery issued cycles code error dram merge => Sys2Proof.Machine.execCarriageDelivery issued cycles code error dram merge s
  | .chainTimeout consumer => Sys2Proof.Machine.execChainTimeout consumer s
  | .scrubPass channel errors late ended => Sys2Proof.Machine.execScrubPass channel errors late ended s
  | .dramOvertemp channel range => Sys2Proof.Machine.execDramOvertemp channel range s
  | .run qp d => Sys2Proof.Machine.execRun qp d s
  | .pieceSend context addr => Sys2Proof.Machine.execPieceSend context addr s
  | .barrierTimeout context => Sys2Proof.Machine.execBarrierTimeout context s
  | .ihlexTilePush qp d data => Sys2Proof.Machine.execIhlexTilePush qp d data s
  | .remoteDoorbellPush qp d => Sys2Proof.Machine.execRemoteDoorbellPush qp d s
  | .hostBarrierJoin qp d => Sys2Proof.Machine.execHostBarrierJoin qp d s
  | .ihlexTile frame => Sys2Proof.Machine.execIhlexTile frame s
  | .ihlexAck frame => Sys2Proof.Machine.execIhlexAck frame s
  | .ihlexDoorbell frame => Sys2Proof.Machine.execIhlexDoorbell frame s
  | .ihlexJoin frame => Sys2Proof.Machine.execIhlexJoin frame s
  | .ihlexRelease frame => Sys2Proof.Machine.execIhlexRelease frame s
  | .ihlexHello frame => Sys2Proof.Machine.execIhlexHello frame s
  | .ackTimer peer => Sys2Proof.Machine.execAckTimer peer s
  | .retransmitTimeout peer => Sys2Proof.Machine.execRetransmitTimeout peer s
  | .helloTimer peer => Sys2Proof.Machine.execHelloTimer peer s
  | .peerLostTimeout peer => Sys2Proof.Machine.execPeerLostTimeout peer s
  | .peerSlotRelease peer => Sys2Proof.Machine.execPeerSlotRelease peer s
  | .cmpLoad qp d entries => Sys2Proof.Machine.execCmpLoad qp d entries s
  | .encoderSample channel delta frac => Sys2Proof.Machine.execEncoderSample channel delta frac s
  | .standstill channel => Sys2Proof.Machine.execStandstill channel s
  | .settlingEnd channel => Sys2Proof.Machine.execSettlingEnd channel s
  | .referenceMark channel => Sys2Proof.Machine.execReferenceMark channel s
  | .encSignalFault channel => Sys2Proof.Machine.execEncSignalFault channel s
  | .encFaultEnd channel => Sys2Proof.Machine.execEncFaultEnd channel s
  | .encAmplitudeWarn channel => Sys2Proof.Machine.execEncAmplitudeWarn channel s
  | .compareFire channel direct => Sys2Proof.Machine.execCompareFire channel direct s
  | .cmpExpired channel => Sys2Proof.Machine.execCmpExpired channel s
  | .pulseEnd output count direct => Sys2Proof.Machine.execPulseEnd output count direct s
  | .generatorPoint generator direct => Sys2Proof.Machine.execGeneratorPoint generator direct s
  | .actReadbackFault output => Sys2Proof.Machine.execActReadbackFault output s
  | .actTestPulse output ok => Sys2Proof.Machine.execActTestPulse output ok s
  | .actOverload output => Sys2Proof.Machine.execActOverload output s
  | .overloadHoldEnd output => Sys2Proof.Machine.execOverloadHoldEnd output s
  | .actSupplyLost => Sys2Proof.Machine.execActSupplyLost s
  | .actSupplyRestored => Sys2Proof.Machine.execActSupplyRestored s
  | .actMaxOn output => Sys2Proof.Machine.execActMaxOn output s
  | .trgReadbackFault output => Sys2Proof.Machine.execTrgReadbackFault output s
  | .mswEdge input rising t => Sys2Proof.Machine.execMswEdge input rising t s
  | .frameReceive port frame fcsOk stamp => Sys2Proof.Machine.execFrameReceive port frame fcsOk stamp s
  | .gateEntry list => Sys2Proof.Machine.execGateEntry list s
  | .fdbAgeing mac vid => Sys2Proof.Machine.execFdbAgeing mac vid s
  | .ethernetLinkChange port up => Sys2Proof.Machine.execEthernetLinkChange port up s
  | .serialCharacter port value first last line amplitude => Sys2Proof.Machine.execSerialCharacter port value first last line amplitude s
  | .serialIdle port => Sys2Proof.Machine.execSerialIdle port s
  | .amplitudeStep port sending => Sys2Proof.Machine.execAmplitudeStep port sending s
  | .serialSend port mismatch => Sys2Proof.Machine.execSerialSend port mismatch s
  | .journalRead qp d => Sys2Proof.Machine.execJournalRead qp d s

end Sys2Proof.Machine
end

