-- ==== Sys2Proof/Machine/Step.lean ====
section
/-! DEFINITION. One step of the block: the command at the front of the queue, or a nanosecond of idle time. -/
namespace Sys2Proof.Machine

/-- With no command waiting, one nanosecond of module time passes while a clock runs (R377, DESIGN CHOICE, log entry 4). -/
def State.idle (s : State) : State := if s.sup.power = .off then s else { s with now := s.now + 1 }

/-- One step: exec on the command at the front with the queue's rest; with an empty queue, idle time. -/
def step (s : State) : Host.Outcome State Fault Refusal :=
  match s.pending with
  | [] => .next s.idle
  | c :: rest => exec c { s with pending := rest }

/-- `s` with the command that a word spells at the front of its queue; `s` itself where the word spells none. -/
def State.withFetchWord (s : State) (nbits w : Nat) : State :=
  match decodeTableWord nbits w with
  | some c => { s with pending := c :: s.pending }
  | none => s

end Sys2Proof.Machine
end

