-- ==== Sys2Proof/Laws/Tbl.lean ====
section
/-! SUPPORT. Laws of the sparse tables: what a table reads as after an update, and that every update keeps the canonical form. -/
namespace Sys2Proof.Machine

variable {α : Type}

@[simp] theorem Tbl.get_nil (d : Nat → α) (k : Nat) : Tbl.get d [] k = d k := rfl

theorem Tbl.get_insert_same (d : Nat → α) (t : Tbl α) (k : Nat) (v : α) (h : ∀ e ∈ t, e.1 ≠ k) :
    Tbl.get d (Tbl.insert t k v) k = v := by
  induction t with
  | nil => simp [Tbl.insert, Tbl.get]
  | cons e t ih =>
    obtain ⟨k', v'⟩ := e
    have hk : k' ≠ k := h (k', v') (by simp)
    unfold Tbl.insert
    split
    · simp [Tbl.get]
    · simp only [Tbl.get, if_neg (Ne.symm hk)]
      exact ih fun e he => h e (by simp [he])

theorem Tbl.get_insert_other (d : Nat → α) (t : Tbl α) (k j : Nat) (v : α) (h : j ≠ k) :
    Tbl.get d (Tbl.insert t k v) j = Tbl.get d t j := by
  induction t with
  | nil => simp [Tbl.insert, Tbl.get, h]
  | cons e t ih =>
    obtain ⟨k', v'⟩ := e
    unfold Tbl.insert
    split
    · simp [Tbl.get, h]
    · simp only [Tbl.get, ih]

theorem Tbl.mem_keep (p : Nat → Bool) (t : Tbl α) (e : Nat × α) (h : e ∈ t.keep p) : p e.1 = true ∧ e ∈ t := by
  induction t with
  | nil => simp [Tbl.keep] at h
  | cons a t ih =>
    obtain ⟨k', v'⟩ := a
    unfold Tbl.keep at h
    split at h
    · rcases List.mem_cons.mp h with rfl | h
      · exact ⟨‹_›, by simp⟩
      · exact ⟨(ih h).1, by simp [(ih h).2]⟩
    · exact ⟨(ih h).1, by simp [(ih h).2]⟩

/-- What a kept table reads as. -/
theorem Tbl.get_keep (d : Nat → α) (p : Nat → Bool) (t : Tbl α) (k : Nat) :
    Tbl.get d (t.keep p) k = if p k then Tbl.get d t k else d k := by
  induction t with
  | nil => simp [Tbl.keep, Tbl.get]
  | cons e t ih =>
    obtain ⟨k', v'⟩ := e
    unfold Tbl.keep
    by_cases hk : k = k'
    · subst hk
      by_cases hp : p k = true <;> simp_all [Tbl.get]
    · by_cases hp : p k' = true <;> simp_all [Tbl.get]

variable [DecidableEq α]

/-- A value put at a key reads back. -/
@[simp] theorem Tbl.get_put_same (d : Nat → α) (t : Tbl α) (k : Nat) (v : α) : Tbl.get d (Tbl.put d t k v) k = v := by
  unfold Tbl.put
  split
  · simp_all [Tbl.get_keep]
  · refine Tbl.get_insert_same d _ k v fun e he => ?_
    have := (Tbl.mem_keep _ _ _ he).1
    simpa using this

/-- A value put at a key leaves every other key as it was. -/
theorem Tbl.get_put_other (d : Nat → α) (t : Tbl α) (k j : Nat) (v : α) (h : j ≠ k) :
    Tbl.get d (Tbl.put d t k v) j = Tbl.get d t j := by
  unfold Tbl.put
  split
  · simp [Tbl.get_keep, h]
  · simp [Tbl.get_insert_other d _ k j v h, Tbl.get_keep, h]

/-- What a table reads as after a put. -/
theorem Tbl.get_put (d : Nat → α) (t : Tbl α) (k j : Nat) (v : α) :
    Tbl.get d (Tbl.put d t k v) j = if j = k then v else Tbl.get d t j := by
  split
  · simp_all
  · exact Tbl.get_put_other d t k j v ‹_›

theorem Tbl.wfFrom_mono (d : Nat → α) (t : Tbl α) (lo lo' : Nat) (h : lo' ≤ lo) (w : Tbl.wfFrom d lo t = true) :
    Tbl.wfFrom d lo' t = true := by
  cases t with
  | nil => rfl
  | cons e t =>
    obtain ⟨k', v'⟩ := e
    simp only [Tbl.wfFrom, Bool.and_eq_true, decide_eq_true_eq] at w ⊢
    exact ⟨⟨Nat.le_trans h w.1.1, w.1.2⟩, w.2⟩

theorem Tbl.wfFrom_keep (d : Nat → α) (p : Nat → Bool) (t : Tbl α) (lo : Nat) (w : Tbl.wfFrom d lo t = true) :
    Tbl.wfFrom d lo (t.keep p) = true := by
  induction t generalizing lo with
  | nil => rfl
  | cons e t ih =>
    obtain ⟨k', v'⟩ := e
    simp [Tbl.wfFrom] at w
    unfold Tbl.keep
    split
    · simp [Tbl.wfFrom, w.1, ih _ w.2]
    · exact Tbl.wfFrom_mono d _ (k' + 1) lo (by omega) (ih _ w.2)

theorem Tbl.wfFrom_insert (d : Nat → α) (t : Tbl α) (lo k : Nat) (v : α) (w : Tbl.wfFrom d lo t = true) (hv : v ≠ d k)
    (hk : lo ≤ k) (h : ∀ e ∈ t, e.1 ≠ k) : Tbl.wfFrom d lo (Tbl.insert t k v) = true := by
  induction t generalizing lo with
  | nil => simp [Tbl.insert, Tbl.wfFrom, hv, hk]
  | cons e t ih =>
    obtain ⟨k', v'⟩ := e
    simp [Tbl.wfFrom] at w
    have hne : k' ≠ k := h (k', v') (by simp)
    unfold Tbl.insert
    split
    · have : k + 1 ≤ k' := by omega
      simp [Tbl.wfFrom, w, hv, hk, this]
    · simp only [Tbl.wfFrom, w.1, Bool.and_eq_true, decide_eq_true_eq]
      refine ⟨⟨trivial, ?_⟩, ih _ w.2 (by omega) fun e he => h e (by simp [he])⟩
      simpa using w.1.2

/-- A table stays canonical when entries are dropped. -/
theorem Tbl.wf_keep (d : Nat → α) (p : Nat → Bool) (t : Tbl α) (w : t.wf d = true) : (t.keep p).wf d = true :=
  Tbl.wfFrom_keep d p t 0 w

/-- A table stays canonical under put. -/
theorem Tbl.wf_put (d : Nat → α) (t : Tbl α) (k : Nat) (v : α) (w : t.wf d = true) : (Tbl.put d t k v).wf d = true := by
  unfold Tbl.put
  split
  · exact Tbl.wf_keep d _ t w
  · refine Tbl.wfFrom_insert d _ 0 k v (Tbl.wf_keep d _ t w) ‹_› (Nat.zero_le _) fun e he => ?_
    have := (Tbl.mem_keep _ _ _ he).1
    simpa using this

@[simp] theorem Tbl.wf_nil (d : Nat → α) : Tbl.wf d [] = true := rfl

end Sys2Proof.Machine
end

