-- ==== Sys2Proof/Laws/State.lean ====
section
/-! SUPPORT. What each elementary update of the state leaves as it was, and what it reads back as: one lemma per field and update, so that no proof unfolds one. -/
namespace Sys2Proof.Machine

variable (s : State)

@[simp] theorem State.latches_setWord (off v : Nat) : (s.setWord off v).latches = s.latches := rfl
@[simp] theorem State.holding_setWord (off v : Nat) : (s.setWord off v).holding = s.holding := rfl
@[simp] theorem State.stWords_setWord (off v : Nat) : (s.setWord off v).stWords = s.stWords := rfl
@[simp] theorem State.now_setWord (off v : Nat) : (s.setWord off v).now = s.now := rfl
@[simp] theorem State.freeCount_setWord (off v : Nat) : (s.setWord off v).freeCount = s.freeCount := rfl
@[simp] theorem State.sup_setWord (off v : Nat) : (s.setWord off v).sup = s.sup := rfl
@[simp] theorem State.jrn_setWord (off v : Nat) : (s.setWord off v).jrn = s.jrn := rfl
@[simp] theorem State.start_setWord (off v : Nat) : (s.setWord off v).start = s.start := rfl
@[simp] theorem State.hif_setWord (off v : Nat) : (s.setWord off v).hif = s.hif := rfl
@[simp] theorem State.qps_setWord (off v : Nat) : (s.setWord off v).qps = s.qps := rfl
@[simp] theorem State.brk_setWord (off v : Nat) : (s.setWord off v).brk = s.brk := rfl
@[simp] theorem State.tb_setWord (off v : Nat) : (s.setWord off v).tb = s.tb := rfl
@[simp] theorem State.cams_setWord (off v : Nat) : (s.setWord off v).cams = s.cams := rfl
@[simp] theorem State.engs_setWord (off v : Nat) : (s.setWord off v).engs = s.engs := rfl
@[simp] theorem State.progs_setWord (off v : Nat) : (s.setWord off v).progs = s.progs := rfl
@[simp] theorem State.mem_setWord (off v : Nat) : (s.setWord off v).mem = s.mem := rfl
@[simp] theorem State.fxg_setWord (off v : Nat) : (s.setWord off v).fxg = s.fxg := rfl
@[simp] theorem State.fwh_setWord (off v : Nat) : (s.setWord off v).fwh = s.fwh := rfl
@[simp] theorem State.tru_setWord (off v : Nat) : (s.setWord off v).tru = s.tru := rfl
@[simp] theorem State.spk_setWord (off v : Nat) : (s.setWord off v).spk = s.spk := rfl
@[simp] theorem State.sw_setWord (off v : Nat) : (s.setWord off v).sw = s.sw := rfl
@[simp] theorem State.ihx_setWord (off v : Nat) : (s.setWord off v).ihx = s.ihx := rfl
@[simp] theorem State.ser_setWord (off v : Nat) : (s.setWord off v).ser = s.ser := rfl
@[simp] theorem State.flash_setWord (off v : Nat) : (s.setWord off v).flash = s.flash := rfl
@[simp] theorem State.pending_setWord (off v : Nat) : (s.setWord off v).pending = s.pending := rfl

@[simp] theorem State.latches_fset (f : Fld) (v : Nat) : (s.fset f v).latches = s.latches := rfl
@[simp] theorem State.holding_fset (f : Fld) (v : Nat) : (s.fset f v).holding = s.holding := rfl
@[simp] theorem State.stWords_fset (f : Fld) (v : Nat) : (s.fset f v).stWords = s.stWords := rfl
@[simp] theorem State.now_fset (f : Fld) (v : Nat) : (s.fset f v).now = s.now := rfl
@[simp] theorem State.freeCount_fset (f : Fld) (v : Nat) : (s.fset f v).freeCount = s.freeCount := rfl
@[simp] theorem State.sup_fset (f : Fld) (v : Nat) : (s.fset f v).sup = s.sup := rfl
@[simp] theorem State.jrn_fset (f : Fld) (v : Nat) : (s.fset f v).jrn = s.jrn := rfl
@[simp] theorem State.start_fset (f : Fld) (v : Nat) : (s.fset f v).start = s.start := rfl
@[simp] theorem State.hif_fset (f : Fld) (v : Nat) : (s.fset f v).hif = s.hif := rfl
@[simp] theorem State.qps_fset (f : Fld) (v : Nat) : (s.fset f v).qps = s.qps := rfl
@[simp] theorem State.brk_fset (f : Fld) (v : Nat) : (s.fset f v).brk = s.brk := rfl
@[simp] theorem State.tb_fset (f : Fld) (v : Nat) : (s.fset f v).tb = s.tb := rfl
@[simp] theorem State.cams_fset (f : Fld) (v : Nat) : (s.fset f v).cams = s.cams := rfl
@[simp] theorem State.engs_fset (f : Fld) (v : Nat) : (s.fset f v).engs = s.engs := rfl
@[simp] theorem State.progs_fset (f : Fld) (v : Nat) : (s.fset f v).progs = s.progs := rfl
@[simp] theorem State.mem_fset (f : Fld) (v : Nat) : (s.fset f v).mem = s.mem := rfl
@[simp] theorem State.fxg_fset (f : Fld) (v : Nat) : (s.fset f v).fxg = s.fxg := rfl
@[simp] theorem State.fwh_fset (f : Fld) (v : Nat) : (s.fset f v).fwh = s.fwh := rfl
@[simp] theorem State.tru_fset (f : Fld) (v : Nat) : (s.fset f v).tru = s.tru := rfl
@[simp] theorem State.spk_fset (f : Fld) (v : Nat) : (s.fset f v).spk = s.spk := rfl
@[simp] theorem State.sw_fset (f : Fld) (v : Nat) : (s.fset f v).sw = s.sw := rfl
@[simp] theorem State.ihx_fset (f : Fld) (v : Nat) : (s.fset f v).ihx = s.ihx := rfl
@[simp] theorem State.ser_fset (f : Fld) (v : Nat) : (s.fset f v).ser = s.ser := rfl
@[simp] theorem State.flash_fset (f : Fld) (v : Nat) : (s.fset f v).flash = s.flash := rfl
@[simp] theorem State.pending_fset (f : Fld) (v : Nat) : (s.fset f v).pending = s.pending := rfl

@[simp] theorem State.latches_bump (f : Fld) (k : Nat) : (s.bump f k).latches = s.latches := rfl
@[simp] theorem State.holding_bump (f : Fld) (k : Nat) : (s.bump f k).holding = s.holding := rfl
@[simp] theorem State.stWords_bump (f : Fld) (k : Nat) : (s.bump f k).stWords = s.stWords := rfl
@[simp] theorem State.now_bump (f : Fld) (k : Nat) : (s.bump f k).now = s.now := rfl
@[simp] theorem State.freeCount_bump (f : Fld) (k : Nat) : (s.bump f k).freeCount = s.freeCount := rfl
@[simp] theorem State.sup_bump (f : Fld) (k : Nat) : (s.bump f k).sup = s.sup := rfl
@[simp] theorem State.jrn_bump (f : Fld) (k : Nat) : (s.bump f k).jrn = s.jrn := rfl
@[simp] theorem State.start_bump (f : Fld) (k : Nat) : (s.bump f k).start = s.start := rfl
@[simp] theorem State.hif_bump (f : Fld) (k : Nat) : (s.bump f k).hif = s.hif := rfl
@[simp] theorem State.qps_bump (f : Fld) (k : Nat) : (s.bump f k).qps = s.qps := rfl
@[simp] theorem State.brk_bump (f : Fld) (k : Nat) : (s.bump f k).brk = s.brk := rfl
@[simp] theorem State.tb_bump (f : Fld) (k : Nat) : (s.bump f k).tb = s.tb := rfl
@[simp] theorem State.cams_bump (f : Fld) (k : Nat) : (s.bump f k).cams = s.cams := rfl
@[simp] theorem State.engs_bump (f : Fld) (k : Nat) : (s.bump f k).engs = s.engs := rfl
@[simp] theorem State.progs_bump (f : Fld) (k : Nat) : (s.bump f k).progs = s.progs := rfl
@[simp] theorem State.mem_bump (f : Fld) (k : Nat) : (s.bump f k).mem = s.mem := rfl
@[simp] theorem State.fxg_bump (f : Fld) (k : Nat) : (s.bump f k).fxg = s.fxg := rfl
@[simp] theorem State.fwh_bump (f : Fld) (k : Nat) : (s.bump f k).fwh = s.fwh := rfl
@[simp] theorem State.tru_bump (f : Fld) (k : Nat) : (s.bump f k).tru = s.tru := rfl
@[simp] theorem State.spk_bump (f : Fld) (k : Nat) : (s.bump f k).spk = s.spk := rfl
@[simp] theorem State.sw_bump (f : Fld) (k : Nat) : (s.bump f k).sw = s.sw := rfl
@[simp] theorem State.ihx_bump (f : Fld) (k : Nat) : (s.bump f k).ihx = s.ihx := rfl
@[simp] theorem State.ser_bump (f : Fld) (k : Nat) : (s.bump f k).ser = s.ser := rfl
@[simp] theorem State.flash_bump (f : Fld) (k : Nat) : (s.bump f k).flash = s.flash := rfl
@[simp] theorem State.pending_bump (f : Fld) (k : Nat) : (s.bump f k).pending = s.pending := rfl

@[simp] theorem State.latches_setWord64 (off v : Nat) : (s.setWord64 off v).latches = s.latches := rfl
@[simp] theorem State.holding_setWord64 (off v : Nat) : (s.setWord64 off v).holding = s.holding := rfl
@[simp] theorem State.stWords_setWord64 (off v : Nat) : (s.setWord64 off v).stWords = s.stWords := rfl
@[simp] theorem State.now_setWord64 (off v : Nat) : (s.setWord64 off v).now = s.now := rfl
@[simp] theorem State.freeCount_setWord64 (off v : Nat) : (s.setWord64 off v).freeCount = s.freeCount := rfl
@[simp] theorem State.sup_setWord64 (off v : Nat) : (s.setWord64 off v).sup = s.sup := rfl
@[simp] theorem State.jrn_setWord64 (off v : Nat) : (s.setWord64 off v).jrn = s.jrn := rfl
@[simp] theorem State.start_setWord64 (off v : Nat) : (s.setWord64 off v).start = s.start := rfl
@[simp] theorem State.hif_setWord64 (off v : Nat) : (s.setWord64 off v).hif = s.hif := rfl
@[simp] theorem State.qps_setWord64 (off v : Nat) : (s.setWord64 off v).qps = s.qps := rfl
@[simp] theorem State.brk_setWord64 (off v : Nat) : (s.setWord64 off v).brk = s.brk := rfl
@[simp] theorem State.tb_setWord64 (off v : Nat) : (s.setWord64 off v).tb = s.tb := rfl
@[simp] theorem State.cams_setWord64 (off v : Nat) : (s.setWord64 off v).cams = s.cams := rfl
@[simp] theorem State.engs_setWord64 (off v : Nat) : (s.setWord64 off v).engs = s.engs := rfl
@[simp] theorem State.progs_setWord64 (off v : Nat) : (s.setWord64 off v).progs = s.progs := rfl
@[simp] theorem State.mem_setWord64 (off v : Nat) : (s.setWord64 off v).mem = s.mem := rfl
@[simp] theorem State.fxg_setWord64 (off v : Nat) : (s.setWord64 off v).fxg = s.fxg := rfl
@[simp] theorem State.fwh_setWord64 (off v : Nat) : (s.setWord64 off v).fwh = s.fwh := rfl
@[simp] theorem State.tru_setWord64 (off v : Nat) : (s.setWord64 off v).tru = s.tru := rfl
@[simp] theorem State.spk_setWord64 (off v : Nat) : (s.setWord64 off v).spk = s.spk := rfl
@[simp] theorem State.sw_setWord64 (off v : Nat) : (s.setWord64 off v).sw = s.sw := rfl
@[simp] theorem State.ihx_setWord64 (off v : Nat) : (s.setWord64 off v).ihx = s.ihx := rfl
@[simp] theorem State.ser_setWord64 (off v : Nat) : (s.setWord64 off v).ser = s.ser := rfl
@[simp] theorem State.flash_setWord64 (off v : Nat) : (s.setWord64 off v).flash = s.flash := rfl
@[simp] theorem State.pending_setWord64 (off v : Nat) : (s.setWord64 off v).pending = s.pending := rfl

@[simp] theorem State.regs_useFree (k : Nat) : (s.useFree k).regs = s.regs := rfl
@[simp] theorem State.latches_useFree (k : Nat) : (s.useFree k).latches = s.latches := rfl
@[simp] theorem State.holding_useFree (k : Nat) : (s.useFree k).holding = s.holding := rfl
@[simp] theorem State.stWords_useFree (k : Nat) : (s.useFree k).stWords = s.stWords := rfl
@[simp] theorem State.now_useFree (k : Nat) : (s.useFree k).now = s.now := rfl
@[simp] theorem State.sup_useFree (k : Nat) : (s.useFree k).sup = s.sup := rfl
@[simp] theorem State.jrn_useFree (k : Nat) : (s.useFree k).jrn = s.jrn := rfl
@[simp] theorem State.start_useFree (k : Nat) : (s.useFree k).start = s.start := rfl
@[simp] theorem State.hif_useFree (k : Nat) : (s.useFree k).hif = s.hif := rfl
@[simp] theorem State.qps_useFree (k : Nat) : (s.useFree k).qps = s.qps := rfl
@[simp] theorem State.brk_useFree (k : Nat) : (s.useFree k).brk = s.brk := rfl
@[simp] theorem State.tb_useFree (k : Nat) : (s.useFree k).tb = s.tb := rfl
@[simp] theorem State.cams_useFree (k : Nat) : (s.useFree k).cams = s.cams := rfl
@[simp] theorem State.engs_useFree (k : Nat) : (s.useFree k).engs = s.engs := rfl
@[simp] theorem State.progs_useFree (k : Nat) : (s.useFree k).progs = s.progs := rfl
@[simp] theorem State.mem_useFree (k : Nat) : (s.useFree k).mem = s.mem := rfl
@[simp] theorem State.fxg_useFree (k : Nat) : (s.useFree k).fxg = s.fxg := rfl
@[simp] theorem State.fwh_useFree (k : Nat) : (s.useFree k).fwh = s.fwh := rfl
@[simp] theorem State.tru_useFree (k : Nat) : (s.useFree k).tru = s.tru := rfl
@[simp] theorem State.spk_useFree (k : Nat) : (s.useFree k).spk = s.spk := rfl
@[simp] theorem State.sw_useFree (k : Nat) : (s.useFree k).sw = s.sw := rfl
@[simp] theorem State.ihx_useFree (k : Nat) : (s.useFree k).ihx = s.ihx := rfl
@[simp] theorem State.ser_useFree (k : Nat) : (s.useFree k).ser = s.ser := rfl
@[simp] theorem State.flash_useFree (k : Nat) : (s.useFree k).flash = s.flash := rfl
@[simp] theorem State.pending_useFree (k : Nat) : (s.useFree k).pending = s.pending := rfl

@[simp] theorem State.regs_passUntil (t : Nat) : (s.passUntil t).regs = s.regs := rfl
@[simp] theorem State.latches_passUntil (t : Nat) : (s.passUntil t).latches = s.latches := rfl
@[simp] theorem State.holding_passUntil (t : Nat) : (s.passUntil t).holding = s.holding := rfl
@[simp] theorem State.stWords_passUntil (t : Nat) : (s.passUntil t).stWords = s.stWords := rfl
@[simp] theorem State.freeCount_passUntil (t : Nat) : (s.passUntil t).freeCount = s.freeCount := rfl
@[simp] theorem State.sup_passUntil (t : Nat) : (s.passUntil t).sup = s.sup := rfl
@[simp] theorem State.jrn_passUntil (t : Nat) : (s.passUntil t).jrn = s.jrn := rfl
@[simp] theorem State.start_passUntil (t : Nat) : (s.passUntil t).start = s.start := rfl
@[simp] theorem State.hif_passUntil (t : Nat) : (s.passUntil t).hif = s.hif := rfl
@[simp] theorem State.qps_passUntil (t : Nat) : (s.passUntil t).qps = s.qps := rfl
@[simp] theorem State.brk_passUntil (t : Nat) : (s.passUntil t).brk = s.brk := rfl
@[simp] theorem State.tb_passUntil (t : Nat) : (s.passUntil t).tb = s.tb := rfl
@[simp] theorem State.cams_passUntil (t : Nat) : (s.passUntil t).cams = s.cams := rfl
@[simp] theorem State.engs_passUntil (t : Nat) : (s.passUntil t).engs = s.engs := rfl
@[simp] theorem State.progs_passUntil (t : Nat) : (s.passUntil t).progs = s.progs := rfl
@[simp] theorem State.mem_passUntil (t : Nat) : (s.passUntil t).mem = s.mem := rfl
@[simp] theorem State.fxg_passUntil (t : Nat) : (s.passUntil t).fxg = s.fxg := rfl
@[simp] theorem State.fwh_passUntil (t : Nat) : (s.passUntil t).fwh = s.fwh := rfl
@[simp] theorem State.tru_passUntil (t : Nat) : (s.passUntil t).tru = s.tru := rfl
@[simp] theorem State.spk_passUntil (t : Nat) : (s.passUntil t).spk = s.spk := rfl
@[simp] theorem State.sw_passUntil (t : Nat) : (s.passUntil t).sw = s.sw := rfl
@[simp] theorem State.ihx_passUntil (t : Nat) : (s.passUntil t).ihx = s.ihx := rfl
@[simp] theorem State.ser_passUntil (t : Nat) : (s.passUntil t).ser = s.ser := rfl
@[simp] theorem State.flash_passUntil (t : Nat) : (s.passUntil t).flash = s.flash := rfl
@[simp] theorem State.pending_passUntil (t : Nat) : (s.passUntil t).pending = s.pending := rfl

@[simp] theorem State.regs_setVec (v : Nat) (x : Vec) : (s.setVec v x).regs = s.regs := rfl
@[simp] theorem State.latches_setVec (v : Nat) (x : Vec) : (s.setVec v x).latches = s.latches := rfl
@[simp] theorem State.holding_setVec (v : Nat) (x : Vec) : (s.setVec v x).holding = s.holding := rfl
@[simp] theorem State.stWords_setVec (v : Nat) (x : Vec) : (s.setVec v x).stWords = s.stWords := rfl
@[simp] theorem State.now_setVec (v : Nat) (x : Vec) : (s.setVec v x).now = s.now := rfl
@[simp] theorem State.freeCount_setVec (v : Nat) (x : Vec) : (s.setVec v x).freeCount = s.freeCount := rfl
@[simp] theorem State.sup_setVec (v : Nat) (x : Vec) : (s.setVec v x).sup = s.sup := rfl
@[simp] theorem State.jrn_setVec (v : Nat) (x : Vec) : (s.setVec v x).jrn = s.jrn := rfl
@[simp] theorem State.start_setVec (v : Nat) (x : Vec) : (s.setVec v x).start = s.start := rfl
@[simp] theorem State.qps_setVec (v : Nat) (x : Vec) : (s.setVec v x).qps = s.qps := rfl
@[simp] theorem State.brk_setVec (v : Nat) (x : Vec) : (s.setVec v x).brk = s.brk := rfl
@[simp] theorem State.tb_setVec (v : Nat) (x : Vec) : (s.setVec v x).tb = s.tb := rfl
@[simp] theorem State.cams_setVec (v : Nat) (x : Vec) : (s.setVec v x).cams = s.cams := rfl
@[simp] theorem State.engs_setVec (v : Nat) (x : Vec) : (s.setVec v x).engs = s.engs := rfl
@[simp] theorem State.progs_setVec (v : Nat) (x : Vec) : (s.setVec v x).progs = s.progs := rfl
@[simp] theorem State.mem_setVec (v : Nat) (x : Vec) : (s.setVec v x).mem = s.mem := rfl
@[simp] theorem State.fxg_setVec (v : Nat) (x : Vec) : (s.setVec v x).fxg = s.fxg := rfl
@[simp] theorem State.fwh_setVec (v : Nat) (x : Vec) : (s.setVec v x).fwh = s.fwh := rfl
@[simp] theorem State.tru_setVec (v : Nat) (x : Vec) : (s.setVec v x).tru = s.tru := rfl
@[simp] theorem State.spk_setVec (v : Nat) (x : Vec) : (s.setVec v x).spk = s.spk := rfl
@[simp] theorem State.sw_setVec (v : Nat) (x : Vec) : (s.setVec v x).sw = s.sw := rfl
@[simp] theorem State.ihx_setVec (v : Nat) (x : Vec) : (s.setVec v x).ihx = s.ihx := rfl
@[simp] theorem State.ser_setVec (v : Nat) (x : Vec) : (s.setVec v x).ser = s.ser := rfl
@[simp] theorem State.flash_setVec (v : Nat) (x : Vec) : (s.setVec v x).flash = s.flash := rfl
@[simp] theorem State.pending_setVec (v : Nat) (x : Vec) : (s.setVec v x).pending = s.pending := rfl

@[simp] theorem State.regs_setQp (n : Nat) (q : Qp) : (s.setQp n q).regs = s.regs := rfl
@[simp] theorem State.latches_setQp (n : Nat) (q : Qp) : (s.setQp n q).latches = s.latches := rfl
@[simp] theorem State.holding_setQp (n : Nat) (q : Qp) : (s.setQp n q).holding = s.holding := rfl
@[simp] theorem State.stWords_setQp (n : Nat) (q : Qp) : (s.setQp n q).stWords = s.stWords := rfl
@[simp] theorem State.now_setQp (n : Nat) (q : Qp) : (s.setQp n q).now = s.now := rfl
@[simp] theorem State.freeCount_setQp (n : Nat) (q : Qp) : (s.setQp n q).freeCount = s.freeCount := rfl
@[simp] theorem State.sup_setQp (n : Nat) (q : Qp) : (s.setQp n q).sup = s.sup := rfl
@[simp] theorem State.jrn_setQp (n : Nat) (q : Qp) : (s.setQp n q).jrn = s.jrn := rfl
@[simp] theorem State.start_setQp (n : Nat) (q : Qp) : (s.setQp n q).start = s.start := rfl
@[simp] theorem State.hif_setQp (n : Nat) (q : Qp) : (s.setQp n q).hif = s.hif := rfl
@[simp] theorem State.brk_setQp (n : Nat) (q : Qp) : (s.setQp n q).brk = s.brk := rfl
@[simp] theorem State.tb_setQp (n : Nat) (q : Qp) : (s.setQp n q).tb = s.tb := rfl
@[simp] theorem State.cams_setQp (n : Nat) (q : Qp) : (s.setQp n q).cams = s.cams := rfl
@[simp] theorem State.engs_setQp (n : Nat) (q : Qp) : (s.setQp n q).engs = s.engs := rfl
@[simp] theorem State.progs_setQp (n : Nat) (q : Qp) : (s.setQp n q).progs = s.progs := rfl
@[simp] theorem State.mem_setQp (n : Nat) (q : Qp) : (s.setQp n q).mem = s.mem := rfl
@[simp] theorem State.fxg_setQp (n : Nat) (q : Qp) : (s.setQp n q).fxg = s.fxg := rfl
@[simp] theorem State.fwh_setQp (n : Nat) (q : Qp) : (s.setQp n q).fwh = s.fwh := rfl
@[simp] theorem State.tru_setQp (n : Nat) (q : Qp) : (s.setQp n q).tru = s.tru := rfl
@[simp] theorem State.spk_setQp (n : Nat) (q : Qp) : (s.setQp n q).spk = s.spk := rfl
@[simp] theorem State.sw_setQp (n : Nat) (q : Qp) : (s.setQp n q).sw = s.sw := rfl
@[simp] theorem State.ihx_setQp (n : Nat) (q : Qp) : (s.setQp n q).ihx = s.ihx := rfl
@[simp] theorem State.ser_setQp (n : Nat) (q : Qp) : (s.setQp n q).ser = s.ser := rfl
@[simp] theorem State.flash_setQp (n : Nat) (q : Qp) : (s.setQp n q).flash = s.flash := rfl
@[simp] theorem State.pending_setQp (n : Nat) (q : Qp) : (s.setQp n q).pending = s.pending := rfl

@[simp] theorem State.regs_setSet (k : Nat) (x : StageSet) : (s.setSet k x).regs = s.regs := rfl
@[simp] theorem State.latches_setSet (k : Nat) (x : StageSet) : (s.setSet k x).latches = s.latches := rfl
@[simp] theorem State.holding_setSet (k : Nat) (x : StageSet) : (s.setSet k x).holding = s.holding := rfl
@[simp] theorem State.stWords_setSet (k : Nat) (x : StageSet) : (s.setSet k x).stWords = s.stWords := rfl
@[simp] theorem State.now_setSet (k : Nat) (x : StageSet) : (s.setSet k x).now = s.now := rfl
@[simp] theorem State.freeCount_setSet (k : Nat) (x : StageSet) : (s.setSet k x).freeCount = s.freeCount := rfl
@[simp] theorem State.sup_setSet (k : Nat) (x : StageSet) : (s.setSet k x).sup = s.sup := rfl
@[simp] theorem State.jrn_setSet (k : Nat) (x : StageSet) : (s.setSet k x).jrn = s.jrn := rfl
@[simp] theorem State.start_setSet (k : Nat) (x : StageSet) : (s.setSet k x).start = s.start := rfl
@[simp] theorem State.qps_setSet (k : Nat) (x : StageSet) : (s.setSet k x).qps = s.qps := rfl
@[simp] theorem State.brk_setSet (k : Nat) (x : StageSet) : (s.setSet k x).brk = s.brk := rfl
@[simp] theorem State.tb_setSet (k : Nat) (x : StageSet) : (s.setSet k x).tb = s.tb := rfl
@[simp] theorem State.cams_setSet (k : Nat) (x : StageSet) : (s.setSet k x).cams = s.cams := rfl
@[simp] theorem State.engs_setSet (k : Nat) (x : StageSet) : (s.setSet k x).engs = s.engs := rfl
@[simp] theorem State.progs_setSet (k : Nat) (x : StageSet) : (s.setSet k x).progs = s.progs := rfl
@[simp] theorem State.mem_setSet (k : Nat) (x : StageSet) : (s.setSet k x).mem = s.mem := rfl
@[simp] theorem State.fxg_setSet (k : Nat) (x : StageSet) : (s.setSet k x).fxg = s.fxg := rfl
@[simp] theorem State.fwh_setSet (k : Nat) (x : StageSet) : (s.setSet k x).fwh = s.fwh := rfl
@[simp] theorem State.tru_setSet (k : Nat) (x : StageSet) : (s.setSet k x).tru = s.tru := rfl
@[simp] theorem State.spk_setSet (k : Nat) (x : StageSet) : (s.setSet k x).spk = s.spk := rfl
@[simp] theorem State.sw_setSet (k : Nat) (x : StageSet) : (s.setSet k x).sw = s.sw := rfl
@[simp] theorem State.ihx_setSet (k : Nat) (x : StageSet) : (s.setSet k x).ihx = s.ihx := rfl
@[simp] theorem State.ser_setSet (k : Nat) (x : StageSet) : (s.setSet k x).ser = s.ser := rfl
@[simp] theorem State.flash_setSet (k : Nat) (x : StageSet) : (s.setSet k x).flash = s.flash := rfl
@[simp] theorem State.pending_setSet (k : Nat) (x : StageSet) : (s.setSet k x).pending = s.pending := rfl

@[simp] theorem State.regs_setCtx (n : Nat) (c : Ctx) : (s.setCtx n c).regs = s.regs := rfl
@[simp] theorem State.latches_setCtx (n : Nat) (c : Ctx) : (s.setCtx n c).latches = s.latches := rfl
@[simp] theorem State.holding_setCtx (n : Nat) (c : Ctx) : (s.setCtx n c).holding = s.holding := rfl
@[simp] theorem State.stWords_setCtx (n : Nat) (c : Ctx) : (s.setCtx n c).stWords = s.stWords := rfl
@[simp] theorem State.now_setCtx (n : Nat) (c : Ctx) : (s.setCtx n c).now = s.now := rfl
@[simp] theorem State.freeCount_setCtx (n : Nat) (c : Ctx) : (s.setCtx n c).freeCount = s.freeCount := rfl
@[simp] theorem State.sup_setCtx (n : Nat) (c : Ctx) : (s.setCtx n c).sup = s.sup := rfl
@[simp] theorem State.jrn_setCtx (n : Nat) (c : Ctx) : (s.setCtx n c).jrn = s.jrn := rfl
@[simp] theorem State.start_setCtx (n : Nat) (c : Ctx) : (s.setCtx n c).start = s.start := rfl
@[simp] theorem State.hif_setCtx (n : Nat) (c : Ctx) : (s.setCtx n c).hif = s.hif := rfl
@[simp] theorem State.qps_setCtx (n : Nat) (c : Ctx) : (s.setCtx n c).qps = s.qps := rfl
@[simp] theorem State.brk_setCtx (n : Nat) (c : Ctx) : (s.setCtx n c).brk = s.brk := rfl
@[simp] theorem State.tb_setCtx (n : Nat) (c : Ctx) : (s.setCtx n c).tb = s.tb := rfl
@[simp] theorem State.engs_setCtx (n : Nat) (c : Ctx) : (s.setCtx n c).engs = s.engs := rfl
@[simp] theorem State.progs_setCtx (n : Nat) (c : Ctx) : (s.setCtx n c).progs = s.progs := rfl
@[simp] theorem State.mem_setCtx (n : Nat) (c : Ctx) : (s.setCtx n c).mem = s.mem := rfl
@[simp] theorem State.fxg_setCtx (n : Nat) (c : Ctx) : (s.setCtx n c).fxg = s.fxg := rfl
@[simp] theorem State.fwh_setCtx (n : Nat) (c : Ctx) : (s.setCtx n c).fwh = s.fwh := rfl
@[simp] theorem State.tru_setCtx (n : Nat) (c : Ctx) : (s.setCtx n c).tru = s.tru := rfl
@[simp] theorem State.spk_setCtx (n : Nat) (c : Ctx) : (s.setCtx n c).spk = s.spk := rfl
@[simp] theorem State.sw_setCtx (n : Nat) (c : Ctx) : (s.setCtx n c).sw = s.sw := rfl
@[simp] theorem State.ihx_setCtx (n : Nat) (c : Ctx) : (s.setCtx n c).ihx = s.ihx := rfl
@[simp] theorem State.ser_setCtx (n : Nat) (c : Ctx) : (s.setCtx n c).ser = s.ser := rfl
@[simp] theorem State.flash_setCtx (n : Nat) (c : Ctx) : (s.setCtx n c).flash = s.flash := rfl
@[simp] theorem State.pending_setCtx (n : Nat) (c : Ctx) : (s.setCtx n c).pending = s.pending := rfl

@[simp] theorem State.regs_setCam (k : Nat) (c : CxpCam) : (s.setCam k c).regs = s.regs := rfl
@[simp] theorem State.latches_setCam (k : Nat) (c : CxpCam) : (s.setCam k c).latches = s.latches := rfl
@[simp] theorem State.holding_setCam (k : Nat) (c : CxpCam) : (s.setCam k c).holding = s.holding := rfl
@[simp] theorem State.stWords_setCam (k : Nat) (c : CxpCam) : (s.setCam k c).stWords = s.stWords := rfl
@[simp] theorem State.now_setCam (k : Nat) (c : CxpCam) : (s.setCam k c).now = s.now := rfl
@[simp] theorem State.freeCount_setCam (k : Nat) (c : CxpCam) : (s.setCam k c).freeCount = s.freeCount := rfl
@[simp] theorem State.sup_setCam (k : Nat) (c : CxpCam) : (s.setCam k c).sup = s.sup := rfl
@[simp] theorem State.jrn_setCam (k : Nat) (c : CxpCam) : (s.setCam k c).jrn = s.jrn := rfl
@[simp] theorem State.start_setCam (k : Nat) (c : CxpCam) : (s.setCam k c).start = s.start := rfl
@[simp] theorem State.hif_setCam (k : Nat) (c : CxpCam) : (s.setCam k c).hif = s.hif := rfl
@[simp] theorem State.qps_setCam (k : Nat) (c : CxpCam) : (s.setCam k c).qps = s.qps := rfl
@[simp] theorem State.brk_setCam (k : Nat) (c : CxpCam) : (s.setCam k c).brk = s.brk := rfl
@[simp] theorem State.tb_setCam (k : Nat) (c : CxpCam) : (s.setCam k c).tb = s.tb := rfl
@[simp] theorem State.engs_setCam (k : Nat) (c : CxpCam) : (s.setCam k c).engs = s.engs := rfl
@[simp] theorem State.progs_setCam (k : Nat) (c : CxpCam) : (s.setCam k c).progs = s.progs := rfl
@[simp] theorem State.mem_setCam (k : Nat) (c : CxpCam) : (s.setCam k c).mem = s.mem := rfl
@[simp] theorem State.fxg_setCam (k : Nat) (c : CxpCam) : (s.setCam k c).fxg = s.fxg := rfl
@[simp] theorem State.fwh_setCam (k : Nat) (c : CxpCam) : (s.setCam k c).fwh = s.fwh := rfl
@[simp] theorem State.tru_setCam (k : Nat) (c : CxpCam) : (s.setCam k c).tru = s.tru := rfl
@[simp] theorem State.spk_setCam (k : Nat) (c : CxpCam) : (s.setCam k c).spk = s.spk := rfl
@[simp] theorem State.sw_setCam (k : Nat) (c : CxpCam) : (s.setCam k c).sw = s.sw := rfl
@[simp] theorem State.ihx_setCam (k : Nat) (c : CxpCam) : (s.setCam k c).ihx = s.ihx := rfl
@[simp] theorem State.ser_setCam (k : Nat) (c : CxpCam) : (s.setCam k c).ser = s.ser := rfl
@[simp] theorem State.flash_setCam (k : Nat) (c : CxpCam) : (s.setCam k c).flash = s.flash := rfl
@[simp] theorem State.pending_setCam (k : Nat) (c : CxpCam) : (s.setCam k c).pending = s.pending := rfl

@[simp] theorem State.regs_setSensor (k : Nat) (x : Sensor) : (s.setSensor k x).regs = s.regs := rfl
@[simp] theorem State.latches_setSensor (k : Nat) (x : Sensor) : (s.setSensor k x).latches = s.latches := rfl
@[simp] theorem State.holding_setSensor (k : Nat) (x : Sensor) : (s.setSensor k x).holding = s.holding := rfl
@[simp] theorem State.stWords_setSensor (k : Nat) (x : Sensor) : (s.setSensor k x).stWords = s.stWords := rfl
@[simp] theorem State.now_setSensor (k : Nat) (x : Sensor) : (s.setSensor k x).now = s.now := rfl
@[simp] theorem State.freeCount_setSensor (k : Nat) (x : Sensor) : (s.setSensor k x).freeCount = s.freeCount := rfl
@[simp] theorem State.sup_setSensor (k : Nat) (x : Sensor) : (s.setSensor k x).sup = s.sup := rfl
@[simp] theorem State.jrn_setSensor (k : Nat) (x : Sensor) : (s.setSensor k x).jrn = s.jrn := rfl
@[simp] theorem State.start_setSensor (k : Nat) (x : Sensor) : (s.setSensor k x).start = s.start := rfl
@[simp] theorem State.hif_setSensor (k : Nat) (x : Sensor) : (s.setSensor k x).hif = s.hif := rfl
@[simp] theorem State.qps_setSensor (k : Nat) (x : Sensor) : (s.setSensor k x).qps = s.qps := rfl
@[simp] theorem State.brk_setSensor (k : Nat) (x : Sensor) : (s.setSensor k x).brk = s.brk := rfl
@[simp] theorem State.tb_setSensor (k : Nat) (x : Sensor) : (s.setSensor k x).tb = s.tb := rfl
@[simp] theorem State.engs_setSensor (k : Nat) (x : Sensor) : (s.setSensor k x).engs = s.engs := rfl
@[simp] theorem State.progs_setSensor (k : Nat) (x : Sensor) : (s.setSensor k x).progs = s.progs := rfl
@[simp] theorem State.mem_setSensor (k : Nat) (x : Sensor) : (s.setSensor k x).mem = s.mem := rfl
@[simp] theorem State.fxg_setSensor (k : Nat) (x : Sensor) : (s.setSensor k x).fxg = s.fxg := rfl
@[simp] theorem State.fwh_setSensor (k : Nat) (x : Sensor) : (s.setSensor k x).fwh = s.fwh := rfl
@[simp] theorem State.tru_setSensor (k : Nat) (x : Sensor) : (s.setSensor k x).tru = s.tru := rfl
@[simp] theorem State.spk_setSensor (k : Nat) (x : Sensor) : (s.setSensor k x).spk = s.spk := rfl
@[simp] theorem State.sw_setSensor (k : Nat) (x : Sensor) : (s.setSensor k x).sw = s.sw := rfl
@[simp] theorem State.ihx_setSensor (k : Nat) (x : Sensor) : (s.setSensor k x).ihx = s.ihx := rfl
@[simp] theorem State.ser_setSensor (k : Nat) (x : Sensor) : (s.setSensor k x).ser = s.ser := rfl
@[simp] theorem State.flash_setSensor (k : Nat) (x : Sensor) : (s.setSensor k x).flash = s.flash := rfl
@[simp] theorem State.pending_setSensor (k : Nat) (x : Sensor) : (s.setSensor k x).pending = s.pending := rfl

@[simp] theorem State.regs_setDec (k : Nat) (x : Decoder) : (s.setDec k x).regs = s.regs := rfl
@[simp] theorem State.latches_setDec (k : Nat) (x : Decoder) : (s.setDec k x).latches = s.latches := rfl
@[simp] theorem State.holding_setDec (k : Nat) (x : Decoder) : (s.setDec k x).holding = s.holding := rfl
@[simp] theorem State.stWords_setDec (k : Nat) (x : Decoder) : (s.setDec k x).stWords = s.stWords := rfl
@[simp] theorem State.now_setDec (k : Nat) (x : Decoder) : (s.setDec k x).now = s.now := rfl
@[simp] theorem State.freeCount_setDec (k : Nat) (x : Decoder) : (s.setDec k x).freeCount = s.freeCount := rfl
@[simp] theorem State.sup_setDec (k : Nat) (x : Decoder) : (s.setDec k x).sup = s.sup := rfl
@[simp] theorem State.jrn_setDec (k : Nat) (x : Decoder) : (s.setDec k x).jrn = s.jrn := rfl
@[simp] theorem State.start_setDec (k : Nat) (x : Decoder) : (s.setDec k x).start = s.start := rfl
@[simp] theorem State.hif_setDec (k : Nat) (x : Decoder) : (s.setDec k x).hif = s.hif := rfl
@[simp] theorem State.qps_setDec (k : Nat) (x : Decoder) : (s.setDec k x).qps = s.qps := rfl
@[simp] theorem State.brk_setDec (k : Nat) (x : Decoder) : (s.setDec k x).brk = s.brk := rfl
@[simp] theorem State.tb_setDec (k : Nat) (x : Decoder) : (s.setDec k x).tb = s.tb := rfl
@[simp] theorem State.engs_setDec (k : Nat) (x : Decoder) : (s.setDec k x).engs = s.engs := rfl
@[simp] theorem State.progs_setDec (k : Nat) (x : Decoder) : (s.setDec k x).progs = s.progs := rfl
@[simp] theorem State.mem_setDec (k : Nat) (x : Decoder) : (s.setDec k x).mem = s.mem := rfl
@[simp] theorem State.fxg_setDec (k : Nat) (x : Decoder) : (s.setDec k x).fxg = s.fxg := rfl
@[simp] theorem State.fwh_setDec (k : Nat) (x : Decoder) : (s.setDec k x).fwh = s.fwh := rfl
@[simp] theorem State.tru_setDec (k : Nat) (x : Decoder) : (s.setDec k x).tru = s.tru := rfl
@[simp] theorem State.spk_setDec (k : Nat) (x : Decoder) : (s.setDec k x).spk = s.spk := rfl
@[simp] theorem State.sw_setDec (k : Nat) (x : Decoder) : (s.setDec k x).sw = s.sw := rfl
@[simp] theorem State.ihx_setDec (k : Nat) (x : Decoder) : (s.setDec k x).ihx = s.ihx := rfl
@[simp] theorem State.ser_setDec (k : Nat) (x : Decoder) : (s.setDec k x).ser = s.ser := rfl
@[simp] theorem State.flash_setDec (k : Nat) (x : Decoder) : (s.setDec k x).flash = s.flash := rfl
@[simp] theorem State.pending_setDec (k : Nat) (x : Decoder) : (s.setDec k x).pending = s.pending := rfl

@[simp] theorem State.regs_setEng (e : Nat) (x : Engine) : (s.setEng e x).regs = s.regs := rfl
@[simp] theorem State.latches_setEng (e : Nat) (x : Engine) : (s.setEng e x).latches = s.latches := rfl
@[simp] theorem State.holding_setEng (e : Nat) (x : Engine) : (s.setEng e x).holding = s.holding := rfl
@[simp] theorem State.stWords_setEng (e : Nat) (x : Engine) : (s.setEng e x).stWords = s.stWords := rfl
@[simp] theorem State.now_setEng (e : Nat) (x : Engine) : (s.setEng e x).now = s.now := rfl
@[simp] theorem State.freeCount_setEng (e : Nat) (x : Engine) : (s.setEng e x).freeCount = s.freeCount := rfl
@[simp] theorem State.sup_setEng (e : Nat) (x : Engine) : (s.setEng e x).sup = s.sup := rfl
@[simp] theorem State.jrn_setEng (e : Nat) (x : Engine) : (s.setEng e x).jrn = s.jrn := rfl
@[simp] theorem State.start_setEng (e : Nat) (x : Engine) : (s.setEng e x).start = s.start := rfl
@[simp] theorem State.hif_setEng (e : Nat) (x : Engine) : (s.setEng e x).hif = s.hif := rfl
@[simp] theorem State.qps_setEng (e : Nat) (x : Engine) : (s.setEng e x).qps = s.qps := rfl
@[simp] theorem State.brk_setEng (e : Nat) (x : Engine) : (s.setEng e x).brk = s.brk := rfl
@[simp] theorem State.tb_setEng (e : Nat) (x : Engine) : (s.setEng e x).tb = s.tb := rfl
@[simp] theorem State.cams_setEng (e : Nat) (x : Engine) : (s.setEng e x).cams = s.cams := rfl
@[simp] theorem State.progs_setEng (e : Nat) (x : Engine) : (s.setEng e x).progs = s.progs := rfl
@[simp] theorem State.mem_setEng (e : Nat) (x : Engine) : (s.setEng e x).mem = s.mem := rfl
@[simp] theorem State.fxg_setEng (e : Nat) (x : Engine) : (s.setEng e x).fxg = s.fxg := rfl
@[simp] theorem State.fwh_setEng (e : Nat) (x : Engine) : (s.setEng e x).fwh = s.fwh := rfl
@[simp] theorem State.tru_setEng (e : Nat) (x : Engine) : (s.setEng e x).tru = s.tru := rfl
@[simp] theorem State.spk_setEng (e : Nat) (x : Engine) : (s.setEng e x).spk = s.spk := rfl
@[simp] theorem State.sw_setEng (e : Nat) (x : Engine) : (s.setEng e x).sw = s.sw := rfl
@[simp] theorem State.ihx_setEng (e : Nat) (x : Engine) : (s.setEng e x).ihx = s.ihx := rfl
@[simp] theorem State.ser_setEng (e : Nat) (x : Engine) : (s.setEng e x).ser = s.ser := rfl
@[simp] theorem State.flash_setEng (e : Nat) (x : Engine) : (s.setEng e x).flash = s.flash := rfl
@[simp] theorem State.pending_setEng (e : Nat) (x : Engine) : (s.setEng e x).pending = s.pending := rfl

@[simp] theorem State.regs_setChan (n : Nat) (c : Chan) : (s.setChan n c).regs = s.regs := rfl
@[simp] theorem State.latches_setChan (n : Nat) (c : Chan) : (s.setChan n c).latches = s.latches := rfl
@[simp] theorem State.holding_setChan (n : Nat) (c : Chan) : (s.setChan n c).holding = s.holding := rfl
@[simp] theorem State.stWords_setChan (n : Nat) (c : Chan) : (s.setChan n c).stWords = s.stWords := rfl
@[simp] theorem State.now_setChan (n : Nat) (c : Chan) : (s.setChan n c).now = s.now := rfl
@[simp] theorem State.freeCount_setChan (n : Nat) (c : Chan) : (s.setChan n c).freeCount = s.freeCount := rfl
@[simp] theorem State.sup_setChan (n : Nat) (c : Chan) : (s.setChan n c).sup = s.sup := rfl
@[simp] theorem State.jrn_setChan (n : Nat) (c : Chan) : (s.setChan n c).jrn = s.jrn := rfl
@[simp] theorem State.start_setChan (n : Nat) (c : Chan) : (s.setChan n c).start = s.start := rfl
@[simp] theorem State.hif_setChan (n : Nat) (c : Chan) : (s.setChan n c).hif = s.hif := rfl
@[simp] theorem State.qps_setChan (n : Nat) (c : Chan) : (s.setChan n c).qps = s.qps := rfl
@[simp] theorem State.brk_setChan (n : Nat) (c : Chan) : (s.setChan n c).brk = s.brk := rfl
@[simp] theorem State.tb_setChan (n : Nat) (c : Chan) : (s.setChan n c).tb = s.tb := rfl
@[simp] theorem State.cams_setChan (n : Nat) (c : Chan) : (s.setChan n c).cams = s.cams := rfl
@[simp] theorem State.engs_setChan (n : Nat) (c : Chan) : (s.setChan n c).engs = s.engs := rfl
@[simp] theorem State.progs_setChan (n : Nat) (c : Chan) : (s.setChan n c).progs = s.progs := rfl
@[simp] theorem State.mem_setChan (n : Nat) (c : Chan) : (s.setChan n c).mem = s.mem := rfl
@[simp] theorem State.fxg_setChan (n : Nat) (c : Chan) : (s.setChan n c).fxg = s.fxg := rfl
@[simp] theorem State.fwh_setChan (n : Nat) (c : Chan) : (s.setChan n c).fwh = s.fwh := rfl
@[simp] theorem State.tru_setChan (n : Nat) (c : Chan) : (s.setChan n c).tru = s.tru := rfl
@[simp] theorem State.sw_setChan (n : Nat) (c : Chan) : (s.setChan n c).sw = s.sw := rfl
@[simp] theorem State.ihx_setChan (n : Nat) (c : Chan) : (s.setChan n c).ihx = s.ihx := rfl
@[simp] theorem State.ser_setChan (n : Nat) (c : Chan) : (s.setChan n c).ser = s.ser := rfl
@[simp] theorem State.flash_setChan (n : Nat) (c : Chan) : (s.setChan n c).flash = s.flash := rfl
@[simp] theorem State.pending_setChan (n : Nat) (c : Chan) : (s.setChan n c).pending = s.pending := rfl

@[simp] theorem State.regs_setOut (o : Nat) (x : Out) : (s.setOut o x).regs = s.regs := rfl
@[simp] theorem State.latches_setOut (o : Nat) (x : Out) : (s.setOut o x).latches = s.latches := rfl
@[simp] theorem State.holding_setOut (o : Nat) (x : Out) : (s.setOut o x).holding = s.holding := rfl
@[simp] theorem State.stWords_setOut (o : Nat) (x : Out) : (s.setOut o x).stWords = s.stWords := rfl
@[simp] theorem State.now_setOut (o : Nat) (x : Out) : (s.setOut o x).now = s.now := rfl
@[simp] theorem State.freeCount_setOut (o : Nat) (x : Out) : (s.setOut o x).freeCount = s.freeCount := rfl
@[simp] theorem State.sup_setOut (o : Nat) (x : Out) : (s.setOut o x).sup = s.sup := rfl
@[simp] theorem State.jrn_setOut (o : Nat) (x : Out) : (s.setOut o x).jrn = s.jrn := rfl
@[simp] theorem State.start_setOut (o : Nat) (x : Out) : (s.setOut o x).start = s.start := rfl
@[simp] theorem State.hif_setOut (o : Nat) (x : Out) : (s.setOut o x).hif = s.hif := rfl
@[simp] theorem State.qps_setOut (o : Nat) (x : Out) : (s.setOut o x).qps = s.qps := rfl
@[simp] theorem State.brk_setOut (o : Nat) (x : Out) : (s.setOut o x).brk = s.brk := rfl
@[simp] theorem State.tb_setOut (o : Nat) (x : Out) : (s.setOut o x).tb = s.tb := rfl
@[simp] theorem State.cams_setOut (o : Nat) (x : Out) : (s.setOut o x).cams = s.cams := rfl
@[simp] theorem State.engs_setOut (o : Nat) (x : Out) : (s.setOut o x).engs = s.engs := rfl
@[simp] theorem State.progs_setOut (o : Nat) (x : Out) : (s.setOut o x).progs = s.progs := rfl
@[simp] theorem State.mem_setOut (o : Nat) (x : Out) : (s.setOut o x).mem = s.mem := rfl
@[simp] theorem State.fxg_setOut (o : Nat) (x : Out) : (s.setOut o x).fxg = s.fxg := rfl
@[simp] theorem State.fwh_setOut (o : Nat) (x : Out) : (s.setOut o x).fwh = s.fwh := rfl
@[simp] theorem State.tru_setOut (o : Nat) (x : Out) : (s.setOut o x).tru = s.tru := rfl
@[simp] theorem State.sw_setOut (o : Nat) (x : Out) : (s.setOut o x).sw = s.sw := rfl
@[simp] theorem State.ihx_setOut (o : Nat) (x : Out) : (s.setOut o x).ihx = s.ihx := rfl
@[simp] theorem State.ser_setOut (o : Nat) (x : Out) : (s.setOut o x).ser = s.ser := rfl
@[simp] theorem State.flash_setOut (o : Nat) (x : Out) : (s.setOut o x).flash = s.flash := rfl
@[simp] theorem State.pending_setOut (o : Nat) (x : Out) : (s.setOut o x).pending = s.pending := rfl

@[simp] theorem State.regs_setGen (g : Nat) (x : Gen) : (s.setGen g x).regs = s.regs := rfl
@[simp] theorem State.latches_setGen (g : Nat) (x : Gen) : (s.setGen g x).latches = s.latches := rfl
@[simp] theorem State.holding_setGen (g : Nat) (x : Gen) : (s.setGen g x).holding = s.holding := rfl
@[simp] theorem State.stWords_setGen (g : Nat) (x : Gen) : (s.setGen g x).stWords = s.stWords := rfl
@[simp] theorem State.now_setGen (g : Nat) (x : Gen) : (s.setGen g x).now = s.now := rfl
@[simp] theorem State.freeCount_setGen (g : Nat) (x : Gen) : (s.setGen g x).freeCount = s.freeCount := rfl
@[simp] theorem State.sup_setGen (g : Nat) (x : Gen) : (s.setGen g x).sup = s.sup := rfl
@[simp] theorem State.jrn_setGen (g : Nat) (x : Gen) : (s.setGen g x).jrn = s.jrn := rfl
@[simp] theorem State.start_setGen (g : Nat) (x : Gen) : (s.setGen g x).start = s.start := rfl
@[simp] theorem State.hif_setGen (g : Nat) (x : Gen) : (s.setGen g x).hif = s.hif := rfl
@[simp] theorem State.qps_setGen (g : Nat) (x : Gen) : (s.setGen g x).qps = s.qps := rfl
@[simp] theorem State.brk_setGen (g : Nat) (x : Gen) : (s.setGen g x).brk = s.brk := rfl
@[simp] theorem State.tb_setGen (g : Nat) (x : Gen) : (s.setGen g x).tb = s.tb := rfl
@[simp] theorem State.cams_setGen (g : Nat) (x : Gen) : (s.setGen g x).cams = s.cams := rfl
@[simp] theorem State.engs_setGen (g : Nat) (x : Gen) : (s.setGen g x).engs = s.engs := rfl
@[simp] theorem State.progs_setGen (g : Nat) (x : Gen) : (s.setGen g x).progs = s.progs := rfl
@[simp] theorem State.mem_setGen (g : Nat) (x : Gen) : (s.setGen g x).mem = s.mem := rfl
@[simp] theorem State.fxg_setGen (g : Nat) (x : Gen) : (s.setGen g x).fxg = s.fxg := rfl
@[simp] theorem State.fwh_setGen (g : Nat) (x : Gen) : (s.setGen g x).fwh = s.fwh := rfl
@[simp] theorem State.tru_setGen (g : Nat) (x : Gen) : (s.setGen g x).tru = s.tru := rfl
@[simp] theorem State.sw_setGen (g : Nat) (x : Gen) : (s.setGen g x).sw = s.sw := rfl
@[simp] theorem State.ihx_setGen (g : Nat) (x : Gen) : (s.setGen g x).ihx = s.ihx := rfl
@[simp] theorem State.ser_setGen (g : Nat) (x : Gen) : (s.setGen g x).ser = s.ser := rfl
@[simp] theorem State.flash_setGen (g : Nat) (x : Gen) : (s.setGen g x).flash = s.flash := rfl
@[simp] theorem State.pending_setGen (g : Nat) (x : Gen) : (s.setGen g x).pending = s.pending := rfl

@[simp] theorem State.regs_setRegion (r : Nat) (x : Region) : (s.setRegion r x).regs = s.regs := rfl
@[simp] theorem State.latches_setRegion (r : Nat) (x : Region) : (s.setRegion r x).latches = s.latches := rfl
@[simp] theorem State.holding_setRegion (r : Nat) (x : Region) : (s.setRegion r x).holding = s.holding := rfl
@[simp] theorem State.stWords_setRegion (r : Nat) (x : Region) : (s.setRegion r x).stWords = s.stWords := rfl
@[simp] theorem State.now_setRegion (r : Nat) (x : Region) : (s.setRegion r x).now = s.now := rfl
@[simp] theorem State.freeCount_setRegion (r : Nat) (x : Region) : (s.setRegion r x).freeCount = s.freeCount := rfl
@[simp] theorem State.sup_setRegion (r : Nat) (x : Region) : (s.setRegion r x).sup = s.sup := rfl
@[simp] theorem State.jrn_setRegion (r : Nat) (x : Region) : (s.setRegion r x).jrn = s.jrn := rfl
@[simp] theorem State.start_setRegion (r : Nat) (x : Region) : (s.setRegion r x).start = s.start := rfl
@[simp] theorem State.hif_setRegion (r : Nat) (x : Region) : (s.setRegion r x).hif = s.hif := rfl
@[simp] theorem State.qps_setRegion (r : Nat) (x : Region) : (s.setRegion r x).qps = s.qps := rfl
@[simp] theorem State.brk_setRegion (r : Nat) (x : Region) : (s.setRegion r x).brk = s.brk := rfl
@[simp] theorem State.tb_setRegion (r : Nat) (x : Region) : (s.setRegion r x).tb = s.tb := rfl
@[simp] theorem State.cams_setRegion (r : Nat) (x : Region) : (s.setRegion r x).cams = s.cams := rfl
@[simp] theorem State.engs_setRegion (r : Nat) (x : Region) : (s.setRegion r x).engs = s.engs := rfl
@[simp] theorem State.progs_setRegion (r : Nat) (x : Region) : (s.setRegion r x).progs = s.progs := rfl
@[simp] theorem State.mem_setRegion (r : Nat) (x : Region) : (s.setRegion r x).mem = s.mem := rfl
@[simp] theorem State.fwh_setRegion (r : Nat) (x : Region) : (s.setRegion r x).fwh = s.fwh := rfl
@[simp] theorem State.tru_setRegion (r : Nat) (x : Region) : (s.setRegion r x).tru = s.tru := rfl
@[simp] theorem State.spk_setRegion (r : Nat) (x : Region) : (s.setRegion r x).spk = s.spk := rfl
@[simp] theorem State.sw_setRegion (r : Nat) (x : Region) : (s.setRegion r x).sw = s.sw := rfl
@[simp] theorem State.ihx_setRegion (r : Nat) (x : Region) : (s.setRegion r x).ihx = s.ihx := rfl
@[simp] theorem State.ser_setRegion (r : Nat) (x : Region) : (s.setRegion r x).ser = s.ser := rfl
@[simp] theorem State.flash_setRegion (r : Nat) (x : Region) : (s.setRegion r x).flash = s.flash := rfl
@[simp] theorem State.pending_setRegion (r : Nat) (x : Region) : (s.setRegion r x).pending = s.pending := rfl

@[simp] theorem State.regs_setPeer (id : Nat) (p : Peer) : (s.setPeer id p).regs = s.regs := rfl
@[simp] theorem State.latches_setPeer (id : Nat) (p : Peer) : (s.setPeer id p).latches = s.latches := rfl
@[simp] theorem State.holding_setPeer (id : Nat) (p : Peer) : (s.setPeer id p).holding = s.holding := rfl
@[simp] theorem State.stWords_setPeer (id : Nat) (p : Peer) : (s.setPeer id p).stWords = s.stWords := rfl
@[simp] theorem State.now_setPeer (id : Nat) (p : Peer) : (s.setPeer id p).now = s.now := rfl
@[simp] theorem State.freeCount_setPeer (id : Nat) (p : Peer) : (s.setPeer id p).freeCount = s.freeCount := rfl
@[simp] theorem State.sup_setPeer (id : Nat) (p : Peer) : (s.setPeer id p).sup = s.sup := rfl
@[simp] theorem State.jrn_setPeer (id : Nat) (p : Peer) : (s.setPeer id p).jrn = s.jrn := rfl
@[simp] theorem State.start_setPeer (id : Nat) (p : Peer) : (s.setPeer id p).start = s.start := rfl
@[simp] theorem State.hif_setPeer (id : Nat) (p : Peer) : (s.setPeer id p).hif = s.hif := rfl
@[simp] theorem State.qps_setPeer (id : Nat) (p : Peer) : (s.setPeer id p).qps = s.qps := rfl
@[simp] theorem State.brk_setPeer (id : Nat) (p : Peer) : (s.setPeer id p).brk = s.brk := rfl
@[simp] theorem State.tb_setPeer (id : Nat) (p : Peer) : (s.setPeer id p).tb = s.tb := rfl
@[simp] theorem State.cams_setPeer (id : Nat) (p : Peer) : (s.setPeer id p).cams = s.cams := rfl
@[simp] theorem State.engs_setPeer (id : Nat) (p : Peer) : (s.setPeer id p).engs = s.engs := rfl
@[simp] theorem State.progs_setPeer (id : Nat) (p : Peer) : (s.setPeer id p).progs = s.progs := rfl
@[simp] theorem State.mem_setPeer (id : Nat) (p : Peer) : (s.setPeer id p).mem = s.mem := rfl
@[simp] theorem State.fxg_setPeer (id : Nat) (p : Peer) : (s.setPeer id p).fxg = s.fxg := rfl
@[simp] theorem State.fwh_setPeer (id : Nat) (p : Peer) : (s.setPeer id p).fwh = s.fwh := rfl
@[simp] theorem State.tru_setPeer (id : Nat) (p : Peer) : (s.setPeer id p).tru = s.tru := rfl
@[simp] theorem State.spk_setPeer (id : Nat) (p : Peer) : (s.setPeer id p).spk = s.spk := rfl
@[simp] theorem State.sw_setPeer (id : Nat) (p : Peer) : (s.setPeer id p).sw = s.sw := rfl
@[simp] theorem State.ser_setPeer (id : Nat) (p : Peer) : (s.setPeer id p).ser = s.ser := rfl
@[simp] theorem State.flash_setPeer (id : Nat) (p : Peer) : (s.setPeer id p).flash = s.flash := rfl
@[simp] theorem State.pending_setPeer (id : Nat) (p : Peer) : (s.setPeer id p).pending = s.pending := rfl

@[simp] theorem State.regs_setSwPort (p : Nat) (x : SwPort) : (s.setSwPort p x).regs = s.regs := rfl
@[simp] theorem State.latches_setSwPort (p : Nat) (x : SwPort) : (s.setSwPort p x).latches = s.latches := rfl
@[simp] theorem State.holding_setSwPort (p : Nat) (x : SwPort) : (s.setSwPort p x).holding = s.holding := rfl
@[simp] theorem State.stWords_setSwPort (p : Nat) (x : SwPort) : (s.setSwPort p x).stWords = s.stWords := rfl
@[simp] theorem State.now_setSwPort (p : Nat) (x : SwPort) : (s.setSwPort p x).now = s.now := rfl
@[simp] theorem State.freeCount_setSwPort (p : Nat) (x : SwPort) : (s.setSwPort p x).freeCount = s.freeCount := rfl
@[simp] theorem State.sup_setSwPort (p : Nat) (x : SwPort) : (s.setSwPort p x).sup = s.sup := rfl
@[simp] theorem State.jrn_setSwPort (p : Nat) (x : SwPort) : (s.setSwPort p x).jrn = s.jrn := rfl
@[simp] theorem State.start_setSwPort (p : Nat) (x : SwPort) : (s.setSwPort p x).start = s.start := rfl
@[simp] theorem State.hif_setSwPort (p : Nat) (x : SwPort) : (s.setSwPort p x).hif = s.hif := rfl
@[simp] theorem State.qps_setSwPort (p : Nat) (x : SwPort) : (s.setSwPort p x).qps = s.qps := rfl
@[simp] theorem State.brk_setSwPort (p : Nat) (x : SwPort) : (s.setSwPort p x).brk = s.brk := rfl
@[simp] theorem State.tb_setSwPort (p : Nat) (x : SwPort) : (s.setSwPort p x).tb = s.tb := rfl
@[simp] theorem State.cams_setSwPort (p : Nat) (x : SwPort) : (s.setSwPort p x).cams = s.cams := rfl
@[simp] theorem State.engs_setSwPort (p : Nat) (x : SwPort) : (s.setSwPort p x).engs = s.engs := rfl
@[simp] theorem State.progs_setSwPort (p : Nat) (x : SwPort) : (s.setSwPort p x).progs = s.progs := rfl
@[simp] theorem State.mem_setSwPort (p : Nat) (x : SwPort) : (s.setSwPort p x).mem = s.mem := rfl
@[simp] theorem State.fxg_setSwPort (p : Nat) (x : SwPort) : (s.setSwPort p x).fxg = s.fxg := rfl
@[simp] theorem State.fwh_setSwPort (p : Nat) (x : SwPort) : (s.setSwPort p x).fwh = s.fwh := rfl
@[simp] theorem State.tru_setSwPort (p : Nat) (x : SwPort) : (s.setSwPort p x).tru = s.tru := rfl
@[simp] theorem State.spk_setSwPort (p : Nat) (x : SwPort) : (s.setSwPort p x).spk = s.spk := rfl
@[simp] theorem State.ihx_setSwPort (p : Nat) (x : SwPort) : (s.setSwPort p x).ihx = s.ihx := rfl
@[simp] theorem State.ser_setSwPort (p : Nat) (x : SwPort) : (s.setSwPort p x).ser = s.ser := rfl
@[simp] theorem State.flash_setSwPort (p : Nat) (x : SwPort) : (s.setSwPort p x).flash = s.flash := rfl
@[simp] theorem State.pending_setSwPort (p : Nat) (x : SwPort) : (s.setSwPort p x).pending = s.pending := rfl

@[simp] theorem State.regs_setSer (n : Nat) (p : SerPort) : (s.setSer n p).regs = s.regs := rfl
@[simp] theorem State.latches_setSer (n : Nat) (p : SerPort) : (s.setSer n p).latches = s.latches := rfl
@[simp] theorem State.holding_setSer (n : Nat) (p : SerPort) : (s.setSer n p).holding = s.holding := rfl
@[simp] theorem State.stWords_setSer (n : Nat) (p : SerPort) : (s.setSer n p).stWords = s.stWords := rfl
@[simp] theorem State.now_setSer (n : Nat) (p : SerPort) : (s.setSer n p).now = s.now := rfl
@[simp] theorem State.freeCount_setSer (n : Nat) (p : SerPort) : (s.setSer n p).freeCount = s.freeCount := rfl
@[simp] theorem State.sup_setSer (n : Nat) (p : SerPort) : (s.setSer n p).sup = s.sup := rfl
@[simp] theorem State.jrn_setSer (n : Nat) (p : SerPort) : (s.setSer n p).jrn = s.jrn := rfl
@[simp] theorem State.start_setSer (n : Nat) (p : SerPort) : (s.setSer n p).start = s.start := rfl
@[simp] theorem State.hif_setSer (n : Nat) (p : SerPort) : (s.setSer n p).hif = s.hif := rfl
@[simp] theorem State.qps_setSer (n : Nat) (p : SerPort) : (s.setSer n p).qps = s.qps := rfl
@[simp] theorem State.brk_setSer (n : Nat) (p : SerPort) : (s.setSer n p).brk = s.brk := rfl
@[simp] theorem State.tb_setSer (n : Nat) (p : SerPort) : (s.setSer n p).tb = s.tb := rfl
@[simp] theorem State.cams_setSer (n : Nat) (p : SerPort) : (s.setSer n p).cams = s.cams := rfl
@[simp] theorem State.engs_setSer (n : Nat) (p : SerPort) : (s.setSer n p).engs = s.engs := rfl
@[simp] theorem State.progs_setSer (n : Nat) (p : SerPort) : (s.setSer n p).progs = s.progs := rfl
@[simp] theorem State.mem_setSer (n : Nat) (p : SerPort) : (s.setSer n p).mem = s.mem := rfl
@[simp] theorem State.fxg_setSer (n : Nat) (p : SerPort) : (s.setSer n p).fxg = s.fxg := rfl
@[simp] theorem State.fwh_setSer (n : Nat) (p : SerPort) : (s.setSer n p).fwh = s.fwh := rfl
@[simp] theorem State.tru_setSer (n : Nat) (p : SerPort) : (s.setSer n p).tru = s.tru := rfl
@[simp] theorem State.spk_setSer (n : Nat) (p : SerPort) : (s.setSer n p).spk = s.spk := rfl
@[simp] theorem State.sw_setSer (n : Nat) (p : SerPort) : (s.setSer n p).sw = s.sw := rfl
@[simp] theorem State.ihx_setSer (n : Nat) (p : SerPort) : (s.setSer n p).ihx = s.ihx := rfl
@[simp] theorem State.flash_setSer (n : Nat) (p : SerPort) : (s.setSer n p).flash = s.flash := rfl
@[simp] theorem State.pending_setSer (n : Nat) (p : SerPort) : (s.setSer n p).pending = s.pending := rfl

@[simp] theorem State.regs_setArrival (k : Nat) (a : Arrival) : (s.setArrival k a).regs = s.regs := rfl
@[simp] theorem State.latches_setArrival (k : Nat) (a : Arrival) : (s.setArrival k a).latches = s.latches := rfl
@[simp] theorem State.holding_setArrival (k : Nat) (a : Arrival) : (s.setArrival k a).holding = s.holding := rfl
@[simp] theorem State.stWords_setArrival (k : Nat) (a : Arrival) : (s.setArrival k a).stWords = s.stWords := rfl
@[simp] theorem State.now_setArrival (k : Nat) (a : Arrival) : (s.setArrival k a).now = s.now := rfl
@[simp] theorem State.freeCount_setArrival (k : Nat) (a : Arrival) : (s.setArrival k a).freeCount = s.freeCount := rfl
@[simp] theorem State.sup_setArrival (k : Nat) (a : Arrival) : (s.setArrival k a).sup = s.sup := rfl
@[simp] theorem State.jrn_setArrival (k : Nat) (a : Arrival) : (s.setArrival k a).jrn = s.jrn := rfl
@[simp] theorem State.start_setArrival (k : Nat) (a : Arrival) : (s.setArrival k a).start = s.start := rfl
@[simp] theorem State.hif_setArrival (k : Nat) (a : Arrival) : (s.setArrival k a).hif = s.hif := rfl
@[simp] theorem State.qps_setArrival (k : Nat) (a : Arrival) : (s.setArrival k a).qps = s.qps := rfl
@[simp] theorem State.brk_setArrival (k : Nat) (a : Arrival) : (s.setArrival k a).brk = s.brk := rfl
@[simp] theorem State.tb_setArrival (k : Nat) (a : Arrival) : (s.setArrival k a).tb = s.tb := rfl
@[simp] theorem State.cams_setArrival (k : Nat) (a : Arrival) : (s.setArrival k a).cams = s.cams := rfl
@[simp] theorem State.engs_setArrival (k : Nat) (a : Arrival) : (s.setArrival k a).engs = s.engs := rfl
@[simp] theorem State.progs_setArrival (k : Nat) (a : Arrival) : (s.setArrival k a).progs = s.progs := rfl
@[simp] theorem State.fxg_setArrival (k : Nat) (a : Arrival) : (s.setArrival k a).fxg = s.fxg := rfl
@[simp] theorem State.fwh_setArrival (k : Nat) (a : Arrival) : (s.setArrival k a).fwh = s.fwh := rfl
@[simp] theorem State.tru_setArrival (k : Nat) (a : Arrival) : (s.setArrival k a).tru = s.tru := rfl
@[simp] theorem State.spk_setArrival (k : Nat) (a : Arrival) : (s.setArrival k a).spk = s.spk := rfl
@[simp] theorem State.sw_setArrival (k : Nat) (a : Arrival) : (s.setArrival k a).sw = s.sw := rfl
@[simp] theorem State.ihx_setArrival (k : Nat) (a : Arrival) : (s.setArrival k a).ihx = s.ihx := rfl
@[simp] theorem State.ser_setArrival (k : Nat) (a : Arrival) : (s.setArrival k a).ser = s.ser := rfl
@[simp] theorem State.flash_setArrival (k : Nat) (a : Arrival) : (s.setArrival k a).flash = s.flash := rfl
@[simp] theorem State.pending_setArrival (k : Nat) (a : Arrival) : (s.setArrival k a).pending = s.pending := rfl

theorem State.qp_setQp (n m : Nat) (q : Qp) : (s.setQp n q).qp m = if m = n then q else s.qp m := by
  simp [State.qp, State.setQp, Tbl.get_put]

theorem State.set_setSet (k j : Nat) (x : StageSet) : (s.setSet k x).set j = if j = k then x else s.set j := by
  simp [State.set, State.setSet, Tbl.get_put]

theorem State.ctx_setCtx (k j : Nat) (x : Ctx) : (s.setCtx k x).ctx j = if j = k then x else s.ctx j := by
  simp [State.ctx, State.setCtx, Tbl.get_put]

theorem State.cam_setCam (k j : Nat) (x : CxpCam) : (s.setCam k x).cam j = if j = k then x else s.cam j := by
  simp [State.cam, State.setCam, Tbl.get_put]

theorem State.sensor_setSensor (k j : Nat) (x : Sensor) : (s.setSensor k x).sensor j = if j = k then x else s.sensor j := by
  simp [State.sensor, State.setSensor, Tbl.get_put]

theorem State.dec_setDec (k j : Nat) (x : Decoder) : (s.setDec k x).dec j = if j = k then x else s.dec j := by
  simp [State.dec, State.setDec, Tbl.get_put]

theorem State.eng_setEng (k j : Nat) (x : Engine) : (s.setEng k x).eng j = if j = k then x else s.eng j := by
  simp [State.eng, State.setEng, Tbl.get_put]

theorem State.chan_setChan (k j : Nat) (x : Chan) : (s.setChan k x).chan j = if j = k then x else s.chan j := by
  simp [State.chan, State.setChan, Tbl.get_put]

theorem State.out_setOut (k j : Nat) (x : Out) : (s.setOut k x).out j = if j = k then x else s.out j := by
  simp [State.out, State.setOut, Tbl.get_put]

theorem State.gen_setGen (k j : Nat) (x : Gen) : (s.setGen k x).gen j = if j = k then x else s.gen j := by
  simp [State.gen, State.setGen, Tbl.get_put]

theorem State.region_setRegion (k j : Nat) (x : Region) : (s.setRegion k x).region j = if j = k then x else s.region j := by
  simp [State.region, State.setRegion, Tbl.get_put]

theorem State.peer_setPeer (k j : Nat) (x : Peer) : (s.setPeer k x).peer j = if j = k then x else s.peer j := by
  simp [State.peer, State.setPeer, Tbl.get_put]

theorem State.swPort_setSwPort (k j : Nat) (x : SwPort) : (s.setSwPort k x).swPort j = if j = k then x else s.swPort j := by
  simp [State.swPort, State.setSwPort, Tbl.get_put]

theorem State.serPort_setSer (k j : Nat) (x : SerPort) : (s.setSer k x).serPort j = if j = k then x else s.serPort j := by
  simp [State.serPort, State.setSer, Tbl.get_put]

theorem State.vec_setVec (k j : Nat) (x : Vec) : (s.setVec k x).vec j = if j = k then x else s.vec j := by
  simp [State.vec, State.setVec, Tbl.get_put]

theorem State.arrival_setArrival (k j : Nat) (x : Arrival) : (s.setArrival k x).arrival j = if j = k then x else s.arrival j := by
  simp [State.arrival, State.setArrival, Tbl.get_put]

@[simp] theorem State.qp_setQp_same (k : Nat) (x : Qp) : (s.setQp k x).qp k = x := by simp [State.qp_setQp]
@[simp] theorem State.set_setSet_same (k : Nat) (x : StageSet) : (s.setSet k x).set k = x := by simp [State.set_setSet]
@[simp] theorem State.ctx_setCtx_same (k : Nat) (x : Ctx) : (s.setCtx k x).ctx k = x := by simp [State.ctx_setCtx]
@[simp] theorem State.cam_setCam_same (k : Nat) (x : CxpCam) : (s.setCam k x).cam k = x := by simp [State.cam_setCam]
@[simp] theorem State.sensor_setSensor_same (k : Nat) (x : Sensor) : (s.setSensor k x).sensor k = x := by simp [State.sensor_setSensor]
@[simp] theorem State.dec_setDec_same (k : Nat) (x : Decoder) : (s.setDec k x).dec k = x := by simp [State.dec_setDec]
@[simp] theorem State.eng_setEng_same (k : Nat) (x : Engine) : (s.setEng k x).eng k = x := by simp [State.eng_setEng]
@[simp] theorem State.chan_setChan_same (k : Nat) (x : Chan) : (s.setChan k x).chan k = x := by simp [State.chan_setChan]
@[simp] theorem State.out_setOut_same (k : Nat) (x : Out) : (s.setOut k x).out k = x := by simp [State.out_setOut]
@[simp] theorem State.gen_setGen_same (k : Nat) (x : Gen) : (s.setGen k x).gen k = x := by simp [State.gen_setGen]
@[simp] theorem State.region_setRegion_same (k : Nat) (x : Region) : (s.setRegion k x).region k = x := by simp [State.region_setRegion]
@[simp] theorem State.peer_setPeer_same (k : Nat) (x : Peer) : (s.setPeer k x).peer k = x := by simp [State.peer_setPeer]
@[simp] theorem State.swPort_setSwPort_same (k : Nat) (x : SwPort) : (s.setSwPort k x).swPort k = x := by simp [State.swPort_setSwPort]
@[simp] theorem State.serPort_setSer_same (k : Nat) (x : SerPort) : (s.setSer k x).serPort k = x := by simp [State.serPort_setSer]
@[simp] theorem State.vec_setVec_same (k : Nat) (x : Vec) : (s.setVec k x).vec k = x := by simp [State.vec_setVec]
@[simp] theorem State.arrival_setArrival_same (k : Nat) (x : Arrival) : (s.setArrival k x).arrival k = x := by simp [State.arrival_setArrival]

end Sys2Proof.Machine
end

