-- ==== Sys2Proof/Laws/Words.lean ====
section
/-! SUPPORT. Laws of bit fields and of the register file: a word or field written reads back, and leaves the others as they were. -/
namespace Sys2Proof

theorem bits_lt (n hi lo : Nat) : bits n hi lo < 2 ^ (hi + 1 - lo) := Nat.mod_lt _ (Nat.two_pow_pos _)

theorem testBit_bits (n hi lo i : Nat) : (bits n hi lo).testBit i = (decide (i < hi + 1 - lo) && n.testBit (lo + i)) := by
  unfold bits
  rw [Nat.testBit_mod_two_pow, Nat.testBit_div_two_pow, Nat.add_comm lo i]

/-- The part of a word up to the top of a field, cut into the field and its part below. -/
theorem low_split (n lo w : Nat) : n % 2 ^ (lo + w) = n / 2 ^ lo % 2 ^ w * 2 ^ lo + n % 2 ^ lo := by
  rw [pow_add, Nat.mod_mul]; ring

/-- A word is its part above a field, the field, and its part below. -/
theorem split_field (n hi lo : Nat) (h : lo ≤ hi) :
    n = n / 2 ^ (hi + 1) * 2 ^ (hi + 1) + bits n hi lo * 2 ^ lo + n % 2 ^ lo := by
  obtain ⟨w, rfl⟩ := Nat.exists_eq_add_of_le h
  have e : lo + w + 1 - lo = w + 1 := by omega
  have h1 := Nat.div_add_mod n (2 ^ (lo + w + 1))
  have h2 := low_split n lo (w + 1)
  rw [← Nat.add_assoc] at h2
  unfold bits
  rw [e, Nat.add_assoc, ← h2, Nat.mul_comm, h1]

theorem setBits_eq (n hi lo v : Nat) (h : lo ≤ hi) :
    setBits n hi lo v = n / 2 ^ (hi + 1) * 2 ^ (hi + 1) + v % 2 ^ (hi + 1 - lo) * 2 ^ lo + n % 2 ^ lo := by
  have := split_field n hi lo h
  unfold setBits
  omega

/-- Writing a field leaves the bits above it. -/
theorem setBits_div (n hi lo v : Nat) (h : lo ≤ hi) : setBits n hi lo v / 2 ^ (hi + 1) = n / 2 ^ (hi + 1) := by
  rw [setBits_eq n hi lo v h]
  obtain ⟨w, rfl⟩ := Nat.exists_eq_add_of_le h
  have e : lo + w + 1 - lo = w + 1 := by omega
  rw [e]
  have l1 : v % 2 ^ (w + 1) * 2 ^ lo + n % 2 ^ lo < 2 ^ (lo + w + 1) := by
    have h1 : v % 2 ^ (w + 1) + 1 ≤ 2 ^ (w + 1) := Nat.mod_lt _ (Nat.two_pow_pos _)
    have h2 : n % 2 ^ lo < 2 ^ lo := Nat.mod_lt _ (Nat.two_pow_pos _)
    have h3 := Nat.mul_le_mul_right (2 ^ lo) h1
    have p : (2:Nat) ^ (lo + w + 1) = 2 ^ (w + 1) * 2 ^ lo := by rw [← pow_add]; ring_nf
    nlinarith
  rw [Nat.add_assoc, Nat.add_comm, Nat.add_mul_div_right _ _ (Nat.two_pow_pos _), Nat.div_eq_of_lt l1, Nat.zero_add]

/-- Writing a field leaves the bits below it. -/
theorem setBits_mod (n hi lo v : Nat) (h : lo ≤ hi) : setBits n hi lo v % 2 ^ lo = n % 2 ^ lo := by
  rw [setBits_eq n hi lo v h]
  obtain ⟨w, rfl⟩ := Nat.exists_eq_add_of_le h
  have p : (2:Nat) ^ (lo + w + 1) = 2 ^ (w + 1) * 2 ^ lo := by rw [← pow_add]; ring_nf
  rw [p, ← Nat.mul_assoc, ← Nat.add_mul, Nat.mul_add_mod_self_right, Nat.mod_mod]

/-- A field that is written reads back. -/
theorem bits_setBits_same (n hi lo v : Nat) (h : lo ≤ hi) : bits (setBits n hi lo v) hi lo = v % 2 ^ (hi + 1 - lo) := by
  rw [setBits_eq n hi lo v h]
  obtain ⟨w, rfl⟩ := Nat.exists_eq_add_of_le h
  have e : lo + w + 1 - lo = w + 1 := by omega
  unfold bits
  rw [e]
  have p : (2:Nat) ^ (lo + w + 1) = 2 ^ lo * 2 ^ (w + 1) := by rw [← pow_add]; ring_nf
  have : n / 2 ^ (lo + w + 1) * 2 ^ (lo + w + 1) + v % 2 ^ (w + 1) * 2 ^ lo + n % 2 ^ lo
      = n % 2 ^ lo + 2 ^ lo * (v % 2 ^ (w + 1) + 2 ^ (w + 1) * (n / 2 ^ (lo + w + 1))) := by rw [p]; ring
  rw [this, Nat.add_mul_div_left _ _ (Nat.two_pow_pos _), Nat.div_eq_of_lt (Nat.mod_lt _ (Nat.two_pow_pos _)), Nat.zero_add,
    Nat.add_mul_mod_self_left, Nat.mod_mod]

/-- A field that is written leaves a field above it as it was. -/
theorem bits_setBits_above (n hi lo v hi' lo' : Nat) (h : lo ≤ hi) (k : hi < lo') :
    bits (setBits n hi lo v) hi' lo' = bits n hi' lo' := by
  obtain ⟨j, rfl⟩ := Nat.exists_eq_add_of_lt k
  unfold bits
  rw [show hi + j + 1 = (hi + 1) + j by omega, pow_add, ← Nat.div_div_eq_div_mul, ← Nat.div_div_eq_div_mul,
    setBits_div n hi lo v h]

theorem bits_mod (n hi lo w : Nat) (k : hi < w) : bits (n % 2 ^ w) hi lo = bits n hi lo := by
  refine Nat.eq_of_testBit_eq fun i => ?_
  rw [testBit_bits, testBit_bits, Nat.testBit_mod_two_pow]
  by_cases c : i < hi + 1 - lo
  · have : lo + i < w := by omega
    simp [this]
  · simp [c]

/-- A field that is written leaves a field below it as it was. -/
theorem bits_setBits_below (n hi lo v hi' lo' : Nat) (h : lo ≤ hi) (k : hi' < lo) :
    bits (setBits n hi lo v) hi' lo' = bits n hi' lo' := by
  rw [← bits_mod _ hi' lo' lo k, setBits_mod n hi lo v h, bits_mod _ hi' lo' lo k]

theorem setBits_lt (n hi lo v w : Nat) (h : lo ≤ hi) (hw : hi < w) (hn : n < 2 ^ w) : setBits n hi lo v < 2 ^ w := by
  obtain ⟨j, rfl⟩ := Nat.exists_eq_add_of_lt hw
  have p : (2:Nat) ^ (hi + j + 1) = 2 ^ (hi + 1) * 2 ^ j := by rw [← pow_add]; ring_nf
  rw [p] at hn ⊢
  have := Nat.div_lt_of_lt_mul hn
  rw [← setBits_div n hi lo v h] at this
  exact Nat.lt_mul_of_div_lt this (Nat.two_pow_pos _) |> fun x => by rwa [Nat.mul_comm] at x

namespace Machine

theorem State.word_lt (s : State) (off : Nat) : s.word off < 2 ^ 32 := (s.regs.get regDefault off).isLt

/-- A register word that is stored reads back. -/
theorem State.word_setWord (s : State) (off off' v : Nat) :
    (s.setWord off v).word off' = if off' = off then v % 2 ^ 32 else s.word off' := by
  unfold State.word State.setWord
  simp only [Tbl.get_put]
  split <;> simp

@[simp] theorem State.word_setWord_same (s : State) (off v : Nat) : (s.setWord off v).word off = v % 2 ^ 32 := by
  simp [State.word_setWord]

theorem State.word_setWord_other (s : State) (off off' v : Nat) (h : off' ≠ off) : (s.setWord off v).word off' = s.word off' := by
  simp [State.word_setWord, h]

/-- A field of a register word lies within it. -/
def Fld.inWord (f : Fld) : Prop := f.lo ≤ f.hi ∧ f.hi < 32

theorem State.word_fset (s : State) (f : Fld) (v : Nat) (h : f.inWord) :
    (s.fset f v).word f.off = setBits (s.word f.off) f.hi f.lo v := by
  unfold State.fset
  rw [State.word_setWord_same, Nat.mod_eq_of_lt (setBits_lt _ _ _ _ 32 h.1 h.2 (s.word_lt _))]

/-- A field that is stored reads back. -/
theorem State.fget_fset_same (s : State) (f : Fld) (v : Nat) (h : f.inWord) :
    (s.fset f v).fget f = v % 2 ^ (f.hi + 1 - f.lo) := by
  unfold State.fget
  rw [State.word_fset s f v h, bits_setBits_same _ _ _ _ h.1]

/-- A field that is stored leaves every field elsewhere as it was. -/
theorem State.fget_fset_other (s : State) (f g : Fld) (v : Nat) (h : f.inWord)
    (d : g.off ≠ f.off ∨ f.hi < g.lo ∨ g.hi < f.lo) : (s.fset f v).fget g = s.fget g := by
  unfold State.fget
  by_cases e : g.off = f.off
  · rw [e, State.word_fset s f v h]
    rcases d with d | d | d
    · exact absurd e d
    · exact bits_setBits_above _ _ _ _ _ _ h.1 d
    · exact bits_setBits_below _ _ _ _ _ _ h.1 d
  · rw [show (s.fset f v).word g.off = s.word g.off from State.word_setWord_other _ _ _ _ e]

theorem State.word_fset_other (s : State) (f : Fld) (v off : Nat) (h : off ≠ f.off) : (s.fset f v).word off = s.word off :=
  State.word_setWord_other _ _ _ _ h

end Machine
end Sys2Proof
end

