-- ==== Sys2Proof/Safety.lean ====
section
/-! DEFINITION. What counts as a safe state of the module, as claims use it: the safety lines, records, quiet states. -/
namespace Sys2Proof.Machine

/-- The module is in safe state or in Maintenance state (R71, R455). -/
def State.stopped (s : State) : Prop := s.start.phase = .safe ∨ s.start.phase = .maintenance

/-- WARN_AVAIL is energised exactly while the conditions of R450 hold and AVAIL_OK is 1. -/
def State.AvailAgrees (s : State) : Prop := s.brk.warnAvail = (s.availConds && s.fget Fld.CAD_STATUS_AVAIL_OK == 1)

/-- In safe state and in Maintenance state SAFE_OK is stopped on both channels and every WARN, ACT and TRG output is de-energised (R71, R456). -/
def State.LinesDown (s : State) : Prop :=
  s.stopped → s.brk.warnA = false ∧ s.brk.warnB = false ∧ s.brk.safeOkA = false ∧ s.brk.safeOkB = false ∧
    ∀ o, o < 12 → (s.out o).on = false

/-- Descriptor `d` of queue pair `n` is a descriptor of opcode `op` that the module carries out now, as `e` in its units: it is operational, and neither an ORDERED bit nor a
power request holds the descriptor back (R54, R71, R98). -/
def State.Runs (s : State) (op n : Nat) (d e : List Byte) : Prop :=
  isDescr op d = true ∧ s.nextDesc n d = some e ∧ s.held n e = false ∧ s.powerHolds op e = false ∧ s.operational = true

/-- The safety lines agree with the phase and with the conditions of R450. -/
def State.LinesSafe (s : State) : Prop := s.AvailAgrees ∧ s.LinesDown

/-- `t` is `s` after fault records: only the record queue, handling and the actions that records have still to take, the journal ring, interrupt messages with the host writes that carry them, and the
words BRK_COUNTS and BRK_NEXT_SEQ may differ. -/
def State.RecordsOnly (s t : State) : Prop :=
  t = { s with
    regs := t.regs
    jrn := { s.jrn with ring := t.jrn.ring, wrapped := t.jrn.wrapped, nextSeq := t.jrn.nextSeq, retOk := t.jrn.retOk }
    hif := { s.hif with pending := t.hif.pending, sent := t.hif.sent, hostWrites := t.hif.hostWrites }
    brk := { s.brk with queue := t.brk.queue, handling := t.brk.handling, actions := t.brk.actions } } ∧
  ∀ off, off ≠ Reg.BRK_COUNTS → off ≠ Reg.BRK_NEXT_SEQ → t.word off = s.word off

/-- Nothing waits to go on by itself: no record has still to act, no voltage trigger is due, no changed budget waits for its boundary, no run, commit, solve, fence, power request, closing context,
held completion, queued or waiting frame is left, no region waits for a variant, no test pulse runs, and the safety lines agree with their conditions. -/
def State.quiet (s : State) : Bool :=
  s.brk.actions.isEmpty && s.fwh.runs.isEmpty && !s.fwh.taskEnded && s.fwh.cplHeld.isEmpty && s.hif.commits.isEmpty && s.hif.fences.isEmpty &&
    s.tru.queue.isEmpty && s.sup.request.isNone && s.sup.queued.isEmpty && s.sup.budgetAt.isNone &&
    (List.range 24).all (fun n => (s.ctx n).closing.isNone) &&
    (s.variantRuns || (List.range 16).all fun r => decide ((s.region r).held.id = 0) || (s.region r).started) &&
    (List.range 6).all (fun p => (s.swPort p).queue.isEmpty && (s.swPort p).nextGates.isNone) &&
    s.ihx.peers.all (fun p => p.2.wait.isEmpty) &&
    decide (s.start.phase ≠ .safe) && decide (s.start.phase ≠ .maintenance) &&
    (([0, 1, 2, 3, 4] : List VTrig).all fun t => !s.trigRipe t) && s.brk.testPulse.isNone && s.brk.conds == s.availConds && s.brk.warnAvail == (s.availConds && s.fget Fld.CAD_STATUS_AVAIL_OK == 1)

end Sys2Proof.Machine
end

