-- ==== Sys2Proof/Laws/Records.lean ====
section
/-! SUPPORT. What raising a fault record can change: the one lemma that proofs about raising rows cite. -/
namespace Sys2Proof.Machine

theorem State.RecordsOnly.refl (s : State) : s.RecordsOnly s := ⟨rfl, fun _ _ _ => rfl⟩

theorem State.RecordsOnly.trans {s t u : State} (h : s.RecordsOnly t) (k : t.RecordsOnly u) : s.RecordsOnly u := by
  obtain ⟨h1, h2⟩ := h
  obtain ⟨k1, k2⟩ := k
  refine ⟨?_, fun off a b => (k2 off a b).trans (h2 off a b)⟩
  rw [k1, h1]

theorem State.recordsOnly_bump (s : State) (f : Fld) (k : Nat) (h : f.off = Reg.BRK_COUNTS ∨ f.off = Reg.BRK_NEXT_SEQ) :
    s.RecordsOnly (s.bump f k) := by
  refine ⟨rfl, fun off a b => State.word_fset_other _ _ _ _ ?_⟩
  rcases h with h | h <;> simp_all

theorem State.recordsOnly_jrnWrite (s : State) (type : Nat) (p : List Byte) : s.RecordsOnly (s.jrnWrite type p) := by
  unfold State.jrnWrite
  split
  · exact .refl s
  · exact ⟨rfl, fun _ _ _ => rfl⟩

theorem State.recordsOnly_jrnFault (s : State) (r : FaultRec) : s.RecordsOnly (s.jrnFault r) := by
  unfold State.jrnFault
  split
  · exact s.recordsOnly_jrnWrite _ _
  · exact .refl s

theorem State.recordsOnly_msix (s : State) (v : Nat) : s.RecordsOnly (s.msix v) := by
  unfold State.msix State.message State.hostPut
  split
  · exact ⟨rfl, fun _ _ _ => rfl⟩
  · split <;> exact ⟨rfl, fun _ _ _ => rfl⟩

theorem State.recordsOnly_brk (s : State) (q : List FaultRec) (h : List Handling) (a : List Action) :
    s.RecordsOnly { s with brk := { s.brk with queue := q, handling := h, actions := a } } := ⟨rfl, fun _ _ _ => rfl⟩

theorem State.recordsOnly_enqueue (s : State) (r : FaultRec) : s.RecordsOnly (s.enqueue r) := by
  unfold State.enqueue
  extract_lets q b1 s1 s2 b2 s3 o s4 b4
  split
  · split
    · exact (s.recordsOnly_brk (q ++ [r]) s.brk.handling s.brk.actions).trans (State.recordsOnly_msix _ _)
    · exact s.recordsOnly_brk (q ++ [r]) s.brk.handling s.brk.actions
  · have h1 : s.RecordsOnly s2 := s.recordsOnly_bump Fld.BRK_COUNTS_DROPPED _ (Or.inl rfl)
    refine h1.trans ?_
    split
    · exact s2.recordsOnly_brk (dropOldestNotice q ++ [r]) s2.brk.handling s2.brk.actions
    · split
      · exact .refl _
      · have h3 : s2.RecordsOnly s3 := by
          show s2.RecordsOnly (if _ then _ else _)
          split
          · exact .refl _
          · exact State.recordsOnly_jrnWrite _ _ _
        have h4 : s3.RecordsOnly s4 :=
          (s3.recordsOnly_bump Fld.BRK_NEXT_SEQ_SEQ _ (Or.inr rfl)).trans (State.recordsOnly_jrnFault _ _)
        exact h3.trans (h4.trans (s4.recordsOnly_brk s4.brk.queue s4.brk.handling _))

/-- Raising a record changes nothing but what `RecordsOnly` names. -/
theorem State.recordsOnly_raiseIn (s : State) (code kind region detail : Nat) :
    s.RecordsOnly (s.raiseIn code kind region detail) := by
  unfold State.raiseIn
  extract_lets cls block cause acting rep esc ecls s1 b1 r
  have h1 : s.RecordsOnly s1 := by
    show s.RecordsOnly (if _ then _ else _)
    split
    · exact s.recordsOnly_bump Fld.BRK_COUNTS_ESCALATIONS _ (Or.inl rfl)
    · exact .refl s
  generalize (if ecls = 4 then (s1.brk.queue, none) else coalesce block cause cls kind region s1.brk.queue) = qh
  obtain ⟨q, hit⟩ := qh
  refine h1.trans ?_
  simp -zeta only []
  extract_lets s2 b2 s3 b3
  have h2 : s1.RecordsOnly s2 := by
    cases hit with
    | some r => exact (s1.recordsOnly_brk q _ _).trans (State.recordsOnly_jrnFault _ _)
    | none =>
      exact (s1.recordsOnly_bump Fld.BRK_NEXT_SEQ_SEQ _ (Or.inr rfl)).trans
        ((State.recordsOnly_jrnFault _ _).trans (State.recordsOnly_enqueue _ _))
  have h3 : s2.RecordsOnly s3 := by
    show s2.RecordsOnly (if _ then _ else _)
    split
    · exact s2.recordsOnly_brk _ _ _
    · exact .refl _
  refine h2.trans (h3.trans ?_)
  split
  · exact s3.recordsOnly_brk _ _ _
  · split
    · exact s3.recordsOnly_brk _ _ _
    · exact .refl _

/-- See `recordsOnly_raiseIn`. -/
theorem State.recordsOnly_raise (s : State) (code detail : Nat) : s.RecordsOnly (s.raise code detail) :=
  s.recordsOnly_raiseIn _ _ _ _

/-! Each part of the state that raising a record leaves as it was. -/

@[simp] theorem State.latches_raiseIn (s : State) (c k r d : Nat) : (s.raiseIn c k r d).latches = s.latches := by
  rw [(s.recordsOnly_raiseIn c k r d).1]
@[simp] theorem State.latches_raise (s : State) (c d : Nat) : (s.raise c d).latches = s.latches := s.latches_raiseIn _ _ _ _
@[simp] theorem State.holding_raiseIn (s : State) (c k r d : Nat) : (s.raiseIn c k r d).holding = s.holding := by
  rw [(s.recordsOnly_raiseIn c k r d).1]
@[simp] theorem State.holding_raise (s : State) (c d : Nat) : (s.raise c d).holding = s.holding := s.holding_raiseIn _ _ _ _
@[simp] theorem State.now_raiseIn (s : State) (c k r d : Nat) : (s.raiseIn c k r d).now = s.now := by
  rw [(s.recordsOnly_raiseIn c k r d).1]
@[simp] theorem State.now_raise (s : State) (c d : Nat) : (s.raise c d).now = s.now := s.now_raiseIn _ _ _ _
@[simp] theorem State.freeCount_raiseIn (s : State) (c k r d : Nat) : (s.raiseIn c k r d).freeCount = s.freeCount := by
  rw [(s.recordsOnly_raiseIn c k r d).1]
@[simp] theorem State.freeCount_raise (s : State) (c d : Nat) : (s.raise c d).freeCount = s.freeCount := s.freeCount_raiseIn _ _ _ _
@[simp] theorem State.sup_raiseIn (s : State) (c k r d : Nat) : (s.raiseIn c k r d).sup = s.sup := by
  rw [(s.recordsOnly_raiseIn c k r d).1]
@[simp] theorem State.sup_raise (s : State) (c d : Nat) : (s.raise c d).sup = s.sup := s.sup_raiseIn _ _ _ _
@[simp] theorem State.start_raiseIn (s : State) (c k r d : Nat) : (s.raiseIn c k r d).start = s.start := by
  rw [(s.recordsOnly_raiseIn c k r d).1]
@[simp] theorem State.start_raise (s : State) (c d : Nat) : (s.raise c d).start = s.start := s.start_raiseIn _ _ _ _
@[simp] theorem State.qps_raiseIn (s : State) (c k r d : Nat) : (s.raiseIn c k r d).qps = s.qps := by
  rw [(s.recordsOnly_raiseIn c k r d).1]
@[simp] theorem State.qps_raise (s : State) (c d : Nat) : (s.raise c d).qps = s.qps := s.qps_raiseIn _ _ _ _
@[simp] theorem State.tb_raiseIn (s : State) (c k r d : Nat) : (s.raiseIn c k r d).tb = s.tb := by
  rw [(s.recordsOnly_raiseIn c k r d).1]
@[simp] theorem State.tb_raise (s : State) (c d : Nat) : (s.raise c d).tb = s.tb := s.tb_raiseIn _ _ _ _
@[simp] theorem State.cams_raiseIn (s : State) (c k r d : Nat) : (s.raiseIn c k r d).cams = s.cams := by
  rw [(s.recordsOnly_raiseIn c k r d).1]
@[simp] theorem State.cams_raise (s : State) (c d : Nat) : (s.raise c d).cams = s.cams := s.cams_raiseIn _ _ _ _
@[simp] theorem State.engs_raiseIn (s : State) (c k r d : Nat) : (s.raiseIn c k r d).engs = s.engs := by
  rw [(s.recordsOnly_raiseIn c k r d).1]
@[simp] theorem State.engs_raise (s : State) (c d : Nat) : (s.raise c d).engs = s.engs := s.engs_raiseIn _ _ _ _
@[simp] theorem State.progs_raiseIn (s : State) (c k r d : Nat) : (s.raiseIn c k r d).progs = s.progs := by
  rw [(s.recordsOnly_raiseIn c k r d).1]
@[simp] theorem State.progs_raise (s : State) (c d : Nat) : (s.raise c d).progs = s.progs := s.progs_raiseIn _ _ _ _
@[simp] theorem State.mem_raiseIn (s : State) (c k r d : Nat) : (s.raiseIn c k r d).mem = s.mem := by
  rw [(s.recordsOnly_raiseIn c k r d).1]
@[simp] theorem State.mem_raise (s : State) (c d : Nat) : (s.raise c d).mem = s.mem := s.mem_raiseIn _ _ _ _
@[simp] theorem State.fxg_raiseIn (s : State) (c k r d : Nat) : (s.raiseIn c k r d).fxg = s.fxg := by
  rw [(s.recordsOnly_raiseIn c k r d).1]
@[simp] theorem State.fxg_raise (s : State) (c d : Nat) : (s.raise c d).fxg = s.fxg := s.fxg_raiseIn _ _ _ _
@[simp] theorem State.fwh_raiseIn (s : State) (c k r d : Nat) : (s.raiseIn c k r d).fwh = s.fwh := by
  rw [(s.recordsOnly_raiseIn c k r d).1]
@[simp] theorem State.fwh_raise (s : State) (c d : Nat) : (s.raise c d).fwh = s.fwh := s.fwh_raiseIn _ _ _ _
@[simp] theorem State.tru_raiseIn (s : State) (c k r d : Nat) : (s.raiseIn c k r d).tru = s.tru := by
  rw [(s.recordsOnly_raiseIn c k r d).1]
@[simp] theorem State.tru_raise (s : State) (c d : Nat) : (s.raise c d).tru = s.tru := s.tru_raiseIn _ _ _ _
@[simp] theorem State.spk_raiseIn (s : State) (c k r d : Nat) : (s.raiseIn c k r d).spk = s.spk := by
  rw [(s.recordsOnly_raiseIn c k r d).1]
@[simp] theorem State.spk_raise (s : State) (c d : Nat) : (s.raise c d).spk = s.spk := s.spk_raiseIn _ _ _ _
@[simp] theorem State.sw_raiseIn (s : State) (c k r d : Nat) : (s.raiseIn c k r d).sw = s.sw := by
  rw [(s.recordsOnly_raiseIn c k r d).1]
@[simp] theorem State.sw_raise (s : State) (c d : Nat) : (s.raise c d).sw = s.sw := s.sw_raiseIn _ _ _ _
@[simp] theorem State.ihx_raiseIn (s : State) (c k r d : Nat) : (s.raiseIn c k r d).ihx = s.ihx := by
  rw [(s.recordsOnly_raiseIn c k r d).1]
@[simp] theorem State.ihx_raise (s : State) (c d : Nat) : (s.raise c d).ihx = s.ihx := s.ihx_raiseIn _ _ _ _
@[simp] theorem State.ser_raiseIn (s : State) (c k r d : Nat) : (s.raiseIn c k r d).ser = s.ser := by
  rw [(s.recordsOnly_raiseIn c k r d).1]
@[simp] theorem State.ser_raise (s : State) (c d : Nat) : (s.raise c d).ser = s.ser := s.ser_raiseIn _ _ _ _
@[simp] theorem State.flash_raiseIn (s : State) (c k r d : Nat) : (s.raiseIn c k r d).flash = s.flash := by
  rw [(s.recordsOnly_raiseIn c k r d).1]
@[simp] theorem State.flash_raise (s : State) (c d : Nat) : (s.raise c d).flash = s.flash := s.flash_raiseIn _ _ _ _
@[simp] theorem State.pending_raiseIn (s : State) (c k r d : Nat) : (s.raiseIn c k r d).pending = s.pending := by
  rw [(s.recordsOnly_raiseIn c k r d).1]
@[simp] theorem State.pending_raise (s : State) (c d : Nat) : (s.raise c d).pending = s.pending := s.pending_raiseIn _ _ _ _

end Sys2Proof.Machine
end

