-- ==== Sys2Proof/Laws/Settle.lean ====
section
/-! SUPPORT. What the end of every command leaves: the safety lines agree with the phase and with their conditions. -/
namespace Sys2Proof.Machine

/-- `updateAvail` changes the two fields of CAD_STATUS and the Brake controller's own view, nothing else. -/
theorem State.updateAvail_eq (s : State) :
    s.updateAvail = { s with regs := s.updateAvail.regs
                             brk := { s.brk with conds := s.availConds, warnAvail := s.updateAvail.brk.warnAvail, testPulse := s.updateAvail.brk.testPulse } } := by
  unfold State.updateAvail
  dsimp only
  split <;> rfl

@[simp] theorem State.updateAvail_start (s : State) : s.updateAvail.start = s.start := by rw [s.updateAvail_eq]
@[simp] theorem State.updateAvail_spk (s : State) : s.updateAvail.spk = s.spk := by rw [s.updateAvail_eq]

theorem State.fget_updateAvail (s : State) (g : Fld) (h : g.off ≠ Fld.CAD_STATUS_GOOD.off) : s.updateAvail.fget g = s.fget g := by
  unfold State.updateAvail
  dsimp only
  split
  · have e : ∀ v w, ((s.fset Fld.CAD_STATUS_GOOD v).fset Fld.CAD_STATUS_AVAIL_OK w).fget g = s.fget g := fun v w => by
      have h' : g.off ≠ Fld.CAD_STATUS_AVAIL_OK.off := h
      exact (State.fget_fset_other _ _ g w ⟨by decide, by decide⟩ (Or.inl h')).trans
        (State.fget_fset_other _ _ g v ⟨by decide, by decide⟩ (Or.inl h))
    exact e 0 0
  · rfl

/-- The conditions of R450 other than AVAIL_OK do not read what `updateAvail` writes. -/
theorem State.availConds_updateAvail (s : State) : s.updateAvail.availConds = s.availConds := by
  have e1 := s.fget_updateAvail Fld.BRK_CONFIG_SENSOR_POLICY (by decide)
  unfold State.availConds State.variantRuns State.inputsOk State.watchedCtxs State.regionUsed State.operational
  rw [e1, s.updateAvail_eq]

theorem State.availAgrees_updateAvail (s : State) : s.updateAvail.AvailAgrees := by
  unfold State.AvailAgrees
  rw [s.availConds_updateAvail]
  unfold State.updateAvail
  dsimp only
  split <;> rfl

theorem State.out_putOut (s : State) (o p : Nat) (x : Out) (q : Nat) :
    ((s.putOut o x q).out p).on = if p = o then x.on else (s.out p).on := by
  unfold State.putOut
  dsimp only
  split
  · rw [State.out_setOut]; split <;> rfl
  · show (State.out (State.setOut s o _) p).on = _
    rw [State.out_setOut]; split <;> rfl

theorem State.on_outOff (s : State) (o p : Nat) : ((s.outOff o).out p).on = (decide (p ≠ o) && (s.out p).on) := by
  unfold State.outOff
  rw [State.out_putOut]
  split <;> simp_all [Out.on]

theorem State.on_foldl_outOff (l : List Nat) (s : State) (p : Nat) :
    ((l.foldl State.outOff s).out p).on = (decide (p ∉ l) && (s.out p).on) := by
  induction l generalizing s with
  | nil => simp
  | cons a l ih =>
    rw [List.foldl_cons, ih, State.on_outOff]
    by_cases h : p = a <;> by_cases k : p ∈ l <;> simp [h, k]

/-- De-energising every output leaves none of the twelve on (R63, R455). -/
theorem State.on_outsOff (s : State) (o : Nat) (h : o < 12) : (s.outsOff.out o).on = false := by
  unfold State.outsOff
  rw [State.on_foldl_outOff]
  simp [h]

theorem State.putOut_spk (s : State) (o : Nat) (x : Out) (q : Nat) : s.putOut o x q = { s with spk := (s.putOut o x q).spk } := by
  unfold State.putOut
  dsimp only
  split <;> rfl

theorem State.foldl_outOff_spk (l : List Nat) (s : State) :
    l.foldl State.outOff s = { s with spk := (l.foldl State.outOff s).spk } := by
  induction l generalizing s with
  | nil => rfl
  | cons a l ih =>
    rw [List.foldl_cons, ih, State.outOff, s.putOut_spk]

/-- De-energising the outputs changes the outputs alone. -/
theorem State.outsOff_spk (s : State) : s.outsOff = { s with spk := s.outsOff.spk } := State.foldl_outOff_spk _ s

@[simp] theorem State.outsOff_brk (s : State) : s.outsOff.brk = s.brk := by rw [State.outsOff_spk]
@[simp] theorem State.updateAvail_out (s : State) (o : Nat) : s.updateAvail.out o = s.out o := by
  unfold State.out; rw [State.updateAvail_spk]
theorem State.updateAvail_brk (s : State) :
    s.updateAvail.brk = { s.brk with conds := s.availConds, warnAvail := s.updateAvail.brk.warnAvail, testPulse := s.updateAvail.brk.testPulse } :=
  congrArg State.brk s.updateAvail_eq

/-- Every command that ends with `settle` leaves the safety lines safe. -/
theorem State.linesSafe_settle (s : State) : s.settle.LinesSafe := by
  unfold State.settle
  dsimp only
  generalize State.settleQueued _ = u
  refine ⟨State.availAgrees_updateAvail _, fun h => ?_⟩
  unfold State.stopped at h
  rw [State.updateAvail_start] at h
  unfold State.linesHeld at h ⊢
  split at h
  · rename_i c
    rw [if_pos c]
    rw [State.updateAvail_brk]
    simp only [State.updateAvail_out, State.outsOff_brk]
    exact ⟨trivial, trivial, trivial, trivial, fun o ho => State.on_outsOff _ o ho⟩
  · rename_i c
    exact absurd h c

end Sys2Proof.Machine
end

