-- ==== Sys2Proof/Certificates/Slice0/Obligations.lean ====
section
/-! DEFINITION. The statements of the model, for the provers: what the spec says of the module. -/
open Sys2Proof Sys2Proof.Machine

/-- Every well-formed command answers a next state, in every state: nothing that a well-formed command does stops the module (R60, R110, chapter 4 (4.3, Table 4.8)) -/
def Obligations.EveryCommandAnswers : Prop :=
  ∀ (c : Instr) (s : State), c.wellFormed = true → ∃ t : State, exec c s = .next t

/-- A descriptor command whose bytes are no descriptor of its opcode is refused by name and changes nothing (chapter 4 (4.3, Table 4.8)) -/
def Obligations.IllFormedRefused : Prop :=
  ∀ (qp : Fin 64) (d : List Byte) (s : State),
    (isDescr 0x0B d = false → exec (.fence qp d) s = .refused (.illFormed "not a descriptor of this opcode")) ∧
    (isDescr 0x01 d = false → exec (.run qp d) s = .refused (.illFormed "not a descriptor of this opcode")) ∧
    (isDescr 0x03 d = false → exec (.commitConfig qp d) s = .refused (.illFormed "not a descriptor of this opcode")) ∧
    (isBadOpcode d = false → exec (.badOpcode qp d) s = .refused (.illFormed "the opcode is one of Table 4.8"))

/-- A step takes the command at the front of the queue and runs it on the state with the rest of the queue (chapter 0 (the commands of the block)) -/
def Obligations.StepRunsTheFront : Prop :=
  ∀ (c : Instr) (rest : List Instr) (s : State),
    Sys2Proof.Machine.step { s with pending := c :: rest } = exec c { s with pending := rest }

/-- On an empty queue a step lets one nanosecond of module time pass while the module is powered, and changes nothing else (the model's choice, log entry 4) (R377) -/
def Obligations.EmptyQueueIdles : Prop :=
  ∀ s : State, s.pending = [] →
    (s.sup.power = .off → Sys2Proof.Machine.step s = .next s) ∧
    (s.sup.power ≠ .off → Sys2Proof.Machine.step s = .next { s with now := s.now + 1 })

/-- At reset the safety lines are safe (R450, R456) -/
def Obligations.LinesSafeAtReset : Prop :=
  State.reset.LinesSafe

/-- Every step keeps the safety lines safe: WARN_AVAIL follows its conditions, and in safe and Maintenance state SAFE_OK, WARN, ACT and TRG are off (R71, R450, R456) -/
def Obligations.EveryStepKeepsLinesSafe : Prop :=
  ∀ s t : State, s.LinesSafe → Sys2Proof.Machine.step s = .next t → t.LinesSafe

/-- In a quiet state the module does nothing by itself: the end of a command leaves such a state as it is (R98, R300, R402) -/
def Obligations.QuietStateSettlesToItself : Prop :=
  ∀ s : State, s.quiet = true → s.settle = s

/-- What reset leaves: the module in Off with nothing in its queues, every pair DISABLED, every register word at its reset value, DRAM in canonical form (R6, R17, R86, R113, R442) -/
def Obligations.ResetState : Prop :=
  State.reset.sup.power = .off ∧ State.reset.pending = [] ∧ State.reset.brk.queue = [] ∧ State.reset.brk.handling = [] ∧
    (∀ n, (State.reset.qp n).state = .disabled) ∧ State.reset.hif.epoch = 0 ∧
    (∀ off, State.reset.latches.get (fun _ => 0) off = 0) ∧ State.reset.word 0x00000 = 0x4B575316 ∧
    State.reset.word 0x04810 = 0x00040401 ∧ State.reset.fget Fld.SYS_LOCK_LOCK = 0 ∧ Mem.wf State.reset.mem

/-- Two canonical memories that read alike everywhere are equal (chapter 10 (module DRAM)) -/
def Obligations.DramIsCanonical : Prop :=
  ∀ a b : Tbl Byte, a.wf dramDefault = true → b.wf dramDefault = true → (∀ k, a.get dramDefault k = b.get dramDefault k) → a = b

/-- Bytes written to module DRAM read back where the layout lets the writer write, every other byte is unchanged, and the memory stays canonical (R259, R269) -/
def Obligations.DramWriteReadsBack : Prop :=
  ∀ (s : State) (fixed : Bool) (off : Nat) (b : List Byte),
    (∀ o, o < off ∨ off + b.length ≤ o → (s.dramWrite fixed off b).mem.byte o = s.mem.byte o) ∧
    (∀ i, i < b.length → s.windowMode (off + i) ≠ 0 → (fixed = true ∨ s.windowMode (off + i) ≠ 3) →
      (s.dramWrite fixed off b).mem.byte (off + i) = b.getD i 0) ∧
    (∀ i, i < b.length → (s.windowMode (off + i) = 0 ∨ (fixed = false ∧ s.windowMode (off + i) = 3)) →
      (s.dramWrite fixed off b).mem.byte (off + i) = s.mem.byte (off + i)) ∧
    (Mem.wf s.mem → Mem.wf (s.dramWrite fixed off b).mem) ∧
    s.dramWrite fixed off b = { s with mem := (s.dramWrite fixed off b).mem }

/-- A field of n bytes that the module lays out reads back as its value: every multi-byte quantity is little-endian (R2) -/
def Obligations.LittleEndianFields : Prop :=
  ∀ n v : Nat, v < 256 ^ n →
    (leBytes n v).length = n ∧ rd (leBytes n v) 0 n = v ∧ ∀ i, i < n → ((leBytes n v).getD i 0).toNat = v / 256 ^ i % 256

/-- The CRC of the module is CRC-32C (Castagnoli): its check value is 0xE3069283 (R235) -/
def Obligations.CrcCheckValue : Prop :=
  crc32c [0x31, 0x32, 0x33, 0x34, 0x35, 0x36, 0x37, 0x38, 0x39] = 0xE3069283

/-- An access of another width or alignment completes, reads all ones, writes nothing and raises UNALIGNED_ACCESS (R5) -/
def Obligations.UnalignedAccessIsDiscarded : Prop :=
  ∀ (off : BitVec 20) (write : Bool) (s : State), ∃ t : State,
    exec (.unalignedAccess off write) s = .next t.settle ∧
    t = (if write then s else { s with hif := { s.hif with hostRead := 0xFFFFFFFF } }).raise Cause.UNALIGNED_ACCESS off.toNat ∧
    (∀ o, o ≠ Reg.BRK_COUNTS → o ≠ Reg.BRK_NEXT_SEQ → t.word o = s.word o) ∧
    (write = false → t.hif.hostRead = 0xFFFFFFFF) ∧ (write = true → s.RecordsOnly t) ∧
    Cause.UNALIGNED_ACCESS / 4096 = 0 ∧ bits Cause.UNALIGNED_ACCESS 11 6 = 0 ∧ bits Cause.UNALIGNED_ACCESS 5 0 = 0x01

/-- Offsets that no register table lists are unmapped: a read gives zero, a write is discarded with UNMAPPED_ACCESS; every offset from 0x2_D000 on is unmapped (R11) -/
def Obligations.UnmappedOffsets : Prop :=
  ∀ (off : BitVec 20) (v : Word) (f : Option (List Byte)) (s : State),
    (0x2D000 ≤ off.toNat → findReg off.toNat = none) ∧
    (findReg off.toNat = none → (s.hostReads off.toNat).hif.hostRead = 0 ∧
      (off.toNat % 4 = 0 → ∃ t : State, exec (.registerWrite off v f) s = .next t.settle ∧ t = s.raise Cause.UNMAPPED_ACCESS off.toNat ∧ s.RecordsOnly t ∧
        Cause.UNMAPPED_ACCESS = 0x0002))

/-- A register write changes each field as its access type says (R4, R7) -/
def Obligations.FieldsFollowAccessType : Prop :=
  ∀ (off cur v : Nat) (h : RegHit), findReg off = some h →
    (∀ f ∈ h.spec.fields,
      (f.access = .ro → bits (writeFields h.spec.fields cur v) f.hi f.lo = bits cur f.hi f.lo) ∧
      (f.access = .w1c → bits (writeFields h.spec.fields cur v) f.hi f.lo =
        (bits cur f.hi f.lo - (bits cur f.hi f.lo &&& bits v f.hi f.lo)) % 2 ^ (f.hi + 1 - f.lo)) ∧
      (f.access ≠ .ro → f.access ≠ .w1c → bits (writeFields h.spec.fields cur v) f.hi f.lo = bits v f.hi f.lo)) ∧
    (∀ b, (∀ f ∈ h.spec.fields, b < f.lo ∨ f.hi < b) → bits (writeFields h.spec.fields cur v) b b = bits cur b b)

/-- A locked write leaves the register as it is, is counted and remembered, and raises a notice with the offset and the low 16 bits of the value (R8) -/
def Obligations.LockedWriteChangesNothing : Prop :=
  ∀ (off : BitVec 20) (v : Word) (f : Option (List Byte)) (s : State) (h : RegHit), off.toNat % 4 = 0 → findReg off.toNat = some h → h.spec.wide = false →
    s.lockedWrite h (s.word h.offset) v.toNat = true → ∃ t : State,
    exec (.registerWrite off v f) s = .next t.settle ∧
    t.fget Fld.SYS_LOCK_VIOLATIONS_COUNT = satAdd 32 (s.fget Fld.SYS_LOCK_VIOLATIONS_COUNT) 1 ∧
    t.fget Fld.SYS_LOCK_LAST_OFFSET_OFFSET = off.toNat ∧ t.fget Fld.SYS_LOCK_LAST_VALUE_VALUE = v.toNat % 2 ^ 16 ∧
    (∀ o, o ≠ Fld.SYS_LOCK_VIOLATIONS_COUNT.off → o ≠ Fld.SYS_LOCK_LAST_OFFSET_OFFSET.off → o ≠ Fld.SYS_LOCK_LAST_VALUE_VALUE.off →
      o ≠ Reg.BRK_COUNTS → o ≠ Reg.BRK_NEXT_SEQ → t.word o = s.word o) ∧
    ∃ u : State, u = { s with regs := u.regs } ∧ t = u.raise Cause.LOCKED_WRITE (off.toNat + 2 ^ 32 * (v.toNat % 2 ^ 16)) ∧ Cause.LOCKED_WRITE / 4096 = 0

/-- A write that sets any field to a value its table does not allow is discarded whole with the BAD_CONFIG of the block (R479, R8) -/
def Obligations.ReservedValueDiscardsWrite : Prop :=
  ∀ (off : BitVec 20) (v : Word) (f : Option (List Byte)) (s : State) (h : RegHit), off.toNat % 4 = 0 → findReg off.toNat = some h → h.spec.wide = false →
    s.lockedWrite h (s.word h.offset) v.toNat = false → s.qpSetupBusy h.offset (s.word h.offset) v.toNat = false → reservedValue h v.toNat = true → ∃ t : State,
    exec (.registerWrite off v f) s = .next t.settle ∧ t = s.badConfig off.toNat ∧ s.RecordsOnly t

/-- A register write that no rule discards stores the register and does what the register's rule adds (R7) -/
def Obligations.PlainRegisterWriteCompletes : Prop :=
  ∀ (off : BitVec 20) (v : Word) (f : Option (List Byte)) (s : State) (h : RegHit), off.toNat % 4 = 0 → findReg off.toNat = some h → h.spec.wide = false →
    s.lockedWrite h (s.word h.offset) v.toNat = false → s.qpSetupBusy h.offset (s.word h.offset) v.toNat = false → reservedValue h v.toNat = false →
    s.blockRejects h.offset (s.word h.offset) v.toNat = false →
    let new := writeFields h.spec.fields (s.word h.offset) v.toNat
    (gateReg h.offset = true → s.frozen = false → exec (.registerWrite off v f) s = .next (s.shadowWrite h new).settle) ∧
    ((gateReg h.offset = false ∨ s.frozen = true) →
      exec (.registerWrite off v f) s = .next ((s.setWord h.offset new).written h.offset (s.word h.offset) new f).settle) ∧
    (s.setWord h.offset new).word h.offset = new % 2 ^ 32 ∧
    (∀ o, o ≠ h.offset → (s.setWord h.offset new).word o = s.word o)

/-- A 64-bit register: a low-word read latches the high word, a low-word write is held, a high-word write applies both, the low word unchanged if none is held (R6) -/
def Obligations.WideRegisterAccess : Prop :=
  ∀ (off : BitVec 20) (v : Word) (f : Option (List Byte)) (s : State) (h : RegHit), off.toNat % 4 = 0 → findReg off.toNat = some h → h.spec.wide = true →
    (h.high = false → ∃ t : State, exec (.reg64LowRead off) s = .next t ∧ t.hif.hostRead = s.readWord off.toNat ∧
      (t.latches.get (fun _ => 0) off.toNat) = BitVec.ofNat 32 (s.readWord (off.toNat + 4)) ∧ t.regs = s.regs) ∧
    (h.high = true → ∃ t : State, exec (.reg64LowRead off) s = .next t ∧ t.hif.hostRead = (s.latches.get (fun _ => 0) h.offset).toNat ∧ t.latches = s.latches) ∧
    (h.high = false → h.writable = true → ∃ t : State, exec (.registerWrite off v f) s = .next t.settle ∧ t = { s with holding := t.holding } ∧
      t.holding.get (fun o => BitVec.ofNat 32 (s.word o)) h.offset = v) ∧
    (h.high = true → h.writable = true → ∃ t : State, exec (.registerWrite off v f) s = .next t.settle ∧
      ∃ u : State, u = { s with holding := u.holding } ∧ u.holding.get (fun o => BitVec.ofNat 32 (s.word o)) h.offset = BitVec.ofNat 32 (s.word h.offset) ∧
        t = u.writeReg h ((s.holding.get (fun o => BitVec.ofNat 32 (s.word o)) h.offset).toNat + 2 ^ 32 * v.toNat) off.toNat v.toNat f)

/-- SYS_LOCK is set after ST21, GO is latched or ends ST22, RESTART and BRK_RESTART begin a cold start (R69, R72, R78, R457) -/
def Obligations.LockAndRestartCompletes : Prop :=
  ∀ s : State,
    (s.lockAllowed = true → s.word Reg.SYS_LOCK = 0 → ∃ t : State, exec .sysLockSet s = .next t.settle ∧ t.fget Fld.SYS_LOCK_LOCK = 1 ∧
      t = (s.setWord Reg.SYS_LOCK 1).jrnWrite 7 (leBytes 4 (s.fget Fld.SYS_LOCK_VIOLATIONS_COUNT))) ∧
    (s.frozen = false → s.word Reg.SYS_CONTROL = 0 → ∃ t : State, exec .go s = .next t.settle ∧
      ∃ u : State, u = { s with regs := u.regs, start := { s.start with go := true } } ∧ u.word Reg.SYS_CONTROL = 1 ∧
        t = (if s.start.phase = .awaitGo ∧ s.start.stepOpen = true then u.passGo else u)) ∧
    (s.frozen = false → s.word Reg.SYS_CONTROL = 0 → ∃ t : State, exec .restart s = .next t.settle ∧
      ∃ u : State, u = { s with regs := u.regs } ∧ t = u.fastDomainOff.beginAttempt 2) ∧
    (s.word Reg.BRK_CONTROL = 0 → ∃ t : State, exec .brkRestart s = .next t.settle ∧ ∃ u : State, u = { s with regs := u.regs } ∧
      t = (if s.start.phase = .safe then u.fastDomainOff.beginAttempt 2 else u.raise Cause.BRK_BAD_CONFIG))

/-- JRN_STEP_CLEAR makes each step named PRIMARY with CONSEC 0, leaves the other entries, and writes HISTORY_CLEARED (R64, R76) -/
def Obligations.StepClearMakesPrimary : Prop :=
  ∀ (mask : BitVec 22) (s : State), mask ≠ 0 → s.sysLocked = false → s.start.phase ≠ .safe → s.word Reg.JRN_STEP_CLEAR = 0 →
    s.jrn.failed = false → s.jrn.retOk = true → ∃ t : State, exec (.jrnStepClear mask) s = .next t.settle ∧
    (∀ i, i < 22 → bitOn mask.toNat i = true → (t.jrn.entry (i + 1)).state = .primary ∧ (t.jrn.entry (i + 1)).consec = 0) ∧
    (∀ i, i < 22 → bitOn mask.toNat i = false → t.jrn.entry (i + 1) = s.jrn.entry (i + 1)) ∧
    (∃ r, t.jrn.ring.getLast? = some r ∧ r.type = 8 ∧ r.payload = slice (leBytes 4 mask.toNat) 0 32) ∧
    t = { s with regs := t.regs, jrn := t.jrn }

/-- LLC_COUNT_CLEAR returns the hit and miss counters of the classes named to 0 and changes nothing else (R272) -/
def Obligations.CountClearZeroesClasses : Prop :=
  ∀ (mask : BitVec 8) (s : State), ∃ t : State, exec (.llcCountClear mask) s = .next t.settle ∧ t = { s with regs := t.regs } ∧
    (∀ k, k < 8 → bitOn mask.toNat k = true → t.word64 (Reg.LLC_CLASSk_HITS k) = 0 ∧ t.word64 (Reg.LLC_CLASSk_MISSES k) = 0) ∧
    (∀ k, k < 8 → bitOn mask.toNat k = false →
      t.word64 (Reg.LLC_CLASSk_HITS k) = s.word64 (Reg.LLC_CLASSk_HITS k) ∧ t.word64 (Reg.LLC_CLASSk_MISSES k) = s.word64 (Reg.LLC_CLASSk_MISSES k))

/-- ENABLE written 1 to a DISABLED pair makes it ACTIVE with empty rings and phase 1; written 0 it stops an ACTIVE pair and frees one in ERROR unless it is held (R85, R86, R112) -/
def Obligations.EnableActivatesPair : Prop :=
  ∀ (n : Fin 64) (s : State), (s.qp n).held = false →
    4 ≤ s.fget (Fld.HIF_QP_n_CFG_SQ_LOG2 n) → s.fget (Fld.HIF_QP_n_CFG_SQ_LOG2 n) ≤ 16 →
    4 ≤ s.fget (Fld.HIF_QP_n_CFG_CQ_LOG2 n) → s.fget (Fld.HIF_QP_n_CFG_CQ_LOG2 n) ≤ 16 → 1 ≤ s.fget (Fld.HIF_QP_n_CFG_WEIGHT n) →
    ((s.qp n).state = .disabled → ∃ t : State, exec (.qpEnable n) s = .next t.settle ∧ t = { s with regs := t.regs, qps := t.qps } ∧
      t.qp n = { s.qp n with state := .active, sqHead := 0, sqTail := 0, cqHead := 0, cqTail := 0, phase := 1, waiting := [], stallRaised := false, cause := 0 } ∧
      ∀ m, m ≠ n.val → t.qp m = s.qp m) ∧
    ((s.qp n).state = .active → ∃ t : State, exec (.qpDisable n) s = .next t.settle ∧ t = { s with regs := t.regs, qps := t.qps } ∧
      (t.qp n).state = (if (s.qp n).inflight = [] then .disabled else .draining) ∧ (t.qp n).inflight = (s.qp n).inflight ∧ (t.qp n).waiting = [] ∧
      ∀ m, m ≠ n.val → t.qp m = s.qp m) ∧
    ((s.qp n).state = .error → ∃ t : State, exec (.qpDisable n) s = .next t.settle ∧ (t.qp n).state = .disabled ∧ (t.qp n).cause = 0 ∧
      ∀ m, m ≠ n.val → t.qp m = s.qp m)

/-- A doorbell write is tested in the order of its rule, and a valid one moves the tail or the head (R88, R92) -/
def Obligations.DoorbellsInOrder : Prop :=
  ∀ (n : Fin 64) (off : BitVec 12) (width : BitVec 8) (v : Word) (s : State),
    ((width ≠ 4 ∨ (off ≠ 0 ∧ off ≠ 4)) → exec (.sqTailDoorbell n off width v) s = .next (s.raise Cause.BAD_DOORBELL).settle) ∧
    ((s.qp n).state ≠ .active → exec (.sqTailDoorbell n 0 4 v) s = .next (s.raise Cause.DOORBELL_IGNORED).settle ∧
      exec (.cqHeadDoorbell n v) s = .next (s.raise Cause.DOORBELL_IGNORED).settle) ∧
    ((s.qp n).state = .active → v.toNat < s.sqSize n →
      exec (.sqTailDoorbell n 0 4 v) s = .next (s.setQp n { s.qp n with sqTail := v.toNat }).settle) ∧
    ((s.qp n).state = .active → s.sqSize n ≤ v.toNat → exec (.sqTailDoorbell n 0 4 v) s = .next (s.raise Cause.BAD_DOORBELL).settle) ∧
    ((s.qp n).state = .active → s.cqHeadOk n v.toNat = false → exec (.cqHeadDoorbell n v) s = .next (s.raise Cause.BAD_DOORBELL).settle) ∧
    ((s.qp n).state = .active → s.cqHeadOk n v.toNat = true → (s.qp n).cqHead = v.toNat → exec (.cqHeadDoorbell n v) s = .next s.settle) ∧
    ((s.qp n).state = .active → s.cqHeadOk n v.toNat = true → (s.qp n).cqHead ≠ v.toNat → ∃ t : State, exec (.cqHeadDoorbell n v) s = .next t.settle ∧
      t = (s.setQp n { s.qp n with cqHead := v.toNat, stallRaised := false }).flushCpls n (s.qp n).waiting) ∧
    exec (.sqTailDoorbell n off width none) s = .next { s with hif := { s.hif with hostRead := 0 } }

/-- A descriptor read takes at most 8 descriptors of the pair whose turn it is, in ring order, no more than its SQ holds and its CQ has free, and they are in flight (R90, R91) -/
def Obligations.FetchTakesAtMostEight : Prop :=
  ∀ (data : List (List Byte)) (s : State),
    (s.visits.1 = [] → exec (.descriptorFetch data) s = .next s.settle) ∧
    (∀ n w rest start, s.visits = ((n, w) :: rest, start) → (s.qp n).sqHead < s.sqSize n → s.readLength n ≤ data.length → ∃ t : State,
      exec (.descriptorFetch data) s = .next t.settle ∧ s.readLength n ≤ 8 ∧ s.readLength n ≤ s.sqAvail n ∧ s.readLength n ≤ s.cqFree n ∧
      (t.qp n).inflight.map (·.bytes) = (s.qp n).inflight.map (·.bytes) ++ (data.take (s.readLength n)).map (fun b => slice b 0 64) ∧
      (t.qp n).sqHead = ((s.qp n).sqHead + s.readLength n) % s.sqSize n ∧ t.hif.fetchSeq = s.hif.fetchSeq + s.readLength n ∧
      (∀ m, m ≠ n → t.qp m = s.qp m) ∧
      t = { s with qps := t.qps, hif := { s.hif with round := t.hif.round, roundStart := t.hif.roundStart, fetchSeq := t.hif.fetchSeq, lastRead := s.sqSlot n (s.qp n).sqHead } })

/-- A stalled CQ and a failing host access have the effects of their rules (R83, R92, R111) -/
def Obligations.HostAccessFaults : Prop :=
  ∀ (n : Fin 64) (d : List Byte) (addr : BitVec 64) (s : State),
    ((s.qp n).state = .active → s.cqFull n = true → (s.qp n).stallRaised = false →
      exec (.cqStall n) s = .next ((s.setQp n { s.qp n with stallRaised := true }).raise Cause.CQ_STALL).settle) ∧
    (s.hif.linkUp = true → (s.qp n).state = .active →
      exec (.hostDmaError 0 n d addr) s = .next ((s.setQp n { s.qp n with state := .error, cause := bits Cause.FETCH_ERROR 5 0, waiting := [] }).raiseIn
        Cause.FETCH_ERROR 1 n addr.toNat).settle ∧
      exec (.hostDmaError 2 n d addr) s = .next ((s.setQp n { s.qp n with state := .error, cause := bits Cause.CPL_WRITE_ERROR 5 0, waiting := [] }).raiseIn
        Cause.CPL_WRITE_ERROR 1 n addr.toNat).settle) ∧
    (∀ e, s.begunDesc n d = e → let u := if s.hif.linkUp = true then (s.complete n e St.DMA_ERROR Cause.DMA_READ_ERROR addr.toNat).raiseIn Cause.DMA_READ_ERROR 1 n addr.toNat else s.endDesc n e
      (descNo e = unfetched → exec (.hostDmaError 1 n d addr) s = .next u.settle) ∧
      (descNo e ≠ unfetched → exec (.hostDmaError 1 n d addr) s = .next (u.dropWork n e).settle))

/-- FLR, loss of the link and PERST_N reset the host interface alone: pairs not held leave ACTIVE, the epoch, staged sets and the rest are kept (R6, R81, R83, R480) -/
def Obligations.HostResetsKeepTheModule : Prop :=
  ∀ s : State, (∀ n, n < 64 → (s.qp n).held = true → (s.qp n).state = .error) → (∀ n, 64 ≤ n → (s.qp n).state ≠ .active) → (
    ∀ c : Instr, (c = .flr ∨ c = .perstNAssert ∨ (c = .linkLost ∧ s.hif.linkUp = true)) → ∃ t : State, exec c s = .next t.settle ∧
      (∀ n, (t.qp n).state ≠ .active) ∧ (∀ n, n < 64 → (s.qp n).held = true → t.qp n = s.qp n) ∧
      t.hif.epoch = s.hif.epoch ∧ t.hif.sets = s.hif.sets ∧ t.hif.commits = s.hif.commits ∧
      t.fxg = s.fxg ∧ t.engs = s.engs ∧ t.mem = s.mem ∧ t.spk = s.spk ∧ t.now = s.now ∧ t.sup = s.sup ∧ t.start = s.start ∧
      (∀ o, (o < 0x4000 ∨ 0x8000 ≤ o) → o ≠ Reg.BRK_COUNTS → o ≠ Reg.BRK_NEXT_SEQ → t.word o = s.word o) ∧
      (c ≠ .linkLost → (∀ o, 0x4000 ≤ o → o < 0x8000 → t.word o = (regDefault o).toNat ∧ t.latches.get (fun _ => 0) o = 0)) ∧
      (c = .flr → t = (s.disableAll.resetHif).raise Cause.FLR_RECEIVED) ∧
      (c = .linkLost → t.hif.linkUp = false ∧ t = (if s.operational = true then ({ s with hif := { s.hif with linkUp := false } }).disableAll.raise Cause.LINK_LOST
        else ({ s with hif := { s.hif with linkUp := false } }).disableAll)))

/-- The link comes up, PERST_N is released, a moderation timer fires its vector (R48, R80, R101) -/
def Obligations.LinkAndInterruptEvents : Prop :=
  ∀ (gen : Fin 5) (width : BitVec 4) (v : Fin 64) (s : State),
    (s.endpointUp = true → gen ≠ 0 → width.toNat ∈ [1, 2, 4] → exec (.linkUp gen width) s = .next (({ s with
      hif := { s.hif with linkUp := true, linkGen := if s.hif.linkCap3 then min gen.val 3 else gen.val, linkWidth := width.toNat }
      sup := { s.sup with wakePin := false } } : State).sendPending).settle) ∧
    exec .perstNRelease s = .next ({ s with hif := { s.hif with perst := false } } : State).settle ∧
    (∀ t0, (s.vec v).since = some t0 → s.fget (Fld.HIF_VEC_n_MOD_TIME_US v) ≠ 0 → ∃ t : State, exec (.moderationTimer v) s = .next t.settle ∧
      t = (({ s with now := max s.now (t0 + 1000 * s.fget (Fld.HIF_VEC_n_MOD_TIME_US v)) } : State).setVec v {}).msix v)

/-- READ_STATE with SPACE 2 copies the oldest records and removes them, and its LENGTH must be a multiple of 32 (R97, R442) -/
def Obligations.FaultQueueReads : Prop :=
  ∀ (n : Fin 64) (w d : List Byte) (s0 : State), isDescr 0x0C w = true → s0.nextDesc n w = some d → rd d 8 1 = 2 → rd d 9 1 ≤ 3 → (s0.start.phase = .maintenance → n = 0) →
    s0.held n d = false → s0.powerHolds 0x0C d = false →
    let s := s0.starts n d
    (rd d 16 4 % 32 ≠ 0 → exec (.readFaultQueue n w) s0 = .next ((s.complete n d St.MALFORMED Cause.BAD_FIELD 16).raise Cause.BAD_FIELD).settle ∧
      exec (.readState n w) s0 = exec (.readFaultQueue n w) s0) ∧
    (rd d 16 4 % 32 = 0 → rd d 16 4 ≤ 65536 → hostAddr (rd d 24 8) = true → ∃ t : State, exec (.readFaultQueue n w) s0 = .next t.settle ∧
      exec (.readState n w) s0 = exec (.readFaultQueue n w) s0 ∧
      ∃ k u, k = min (rd d 16 4 / 32) s.brk.queue.length ∧
        u = { s.hostWrite (rd d 24 8) ((s.brk.queue.take k).flatMap FaultRec.bytes) with brk := { s.brk with queue := s.brk.queue.drop k } } ∧
        t = u.complete n d St.OK 0 (32 * k))

/-- A fault record is 32 bytes in the layout of Table 18.3, and it is the payload of its journal record (R437, R443) -/
def Obligations.FaultRecordLayout : Prop :=
  ∀ (r : FaultRec) (s : State), r.time < 2 ^ 64 → r.cls < 16 → r.block < 64 → r.cause < 64 → r.quality < 4 → r.origCls < 16 → r.epoch < 2 ^ 16 → r.timeEpoch < 256 →
    r.level < 256 → r.region < 2 ^ 16 → r.kind < 256 → r.count < 256 → r.seq < 2 ^ 32 → r.detail < 2 ^ 64 →
    r.bytes.length = 32 ∧ rd r.bytes 0 8 = r.time ∧ rd r.bytes 8 2 = r.cls * 4096 + r.block * 64 + r.cause ∧
    bits (rd r.bytes 10 1) 1 0 = r.quality ∧ bitOn (rd r.bytes 10 1) 2 = r.escalated ∧ bitOn (rd r.bytes 10 1) 3 = r.journalled ∧
    bitOn (rd r.bytes 10 1) 4 = r.safeCause ∧ rd r.bytes 11 1 = r.origCls ∧ rd r.bytes 12 2 = r.epoch ∧ rd r.bytes 14 1 = r.timeEpoch ∧
    rd r.bytes 15 1 = r.level ∧ rd r.bytes 16 2 = r.region ∧ rd r.bytes 18 1 = r.kind ∧ rd r.bytes 19 1 = r.count ∧ rd r.bytes 20 4 = r.seq ∧
    rd r.bytes 24 8 = r.detail ∧
    (r.journalled = true → s.jrn.failed = false → ∃ x, (s.jrnFault r).jrn.ring.getLast? = some x ∧ x.type = 5 ∧ x.payload = r.bytes)

/-- A fault that no queued record matches appends one record with time, epochs, level and SEQ, and takes the next SEQ; one that matches is counted in it (R437, R438, R440, R444) -/
def Obligations.RaiseQueuesOneRecord : Prop :=
  ∀ (s : State) (code kind region detail : Nat), (code / 4096 = 0 ∨ code / 4096 = 1 ∨ code / 4096 = 5) → s.brk.queue.length < 64 →
    let t := s.raiseIn code kind region detail
    let same := fun r : FaultRec => r.matches (bits code 11 6) (bits code 5 0) (code / 4096) kind region
    t.brk.handling = s.brk.handling ∧ t.brk.actions = s.brk.actions ∧
    (s.brk.queue.any same = false → ∃ r, t.brk.queue = s.brk.queue ++ [r] ∧ r.time = s.now ∧ r.cls = code / 4096 ∧ r.origCls = code / 4096 ∧ r.block = bits code 11 6 ∧
      r.cause = bits code 5 0 ∧ r.kind = kind ∧ r.region = region ∧ r.detail = detail ∧ r.count = 1 ∧ r.seq = s.fget Fld.BRK_NEXT_SEQ_SEQ ∧
      t.fget Fld.BRK_NEXT_SEQ_SEQ = satAdd 32 (s.fget Fld.BRK_NEXT_SEQ_SEQ) 1) ∧
    (s.brk.queue.any same = true → t.brk.queue.length = s.brk.queue.length ∧ ∃ i r, s.brk.queue[i]? = some r ∧ same r = true ∧
      t.brk.queue = s.brk.queue.set i { r with count := min 255 (r.count + 1) })

/-- A FENCE waits for the descriptors fetched before it in its scope; a reserved opcode completes BAD_OPCODE (R97, R98, R110) -/
def Obligations.FencesAndReserved : Prop :=
  ∀ (n : Fin 64) (w d : List Byte) (s0 : State), (s0.start.phase = .maintenance → n = 0) → s0.nextDesc n w = some d → s0.held n d = false → s0.powerHolds (rd w 0 1) d = false →
    let s := s0.starts n d
    (isDescr 0x0B w = true → 1 < rd d 8 1 → exec (.fence n w) s0 = .next ((s.complete n d St.MALFORMED Cause.BAD_FIELD 8).raise Cause.BAD_FIELD).settle) ∧
    (isDescr 0x0B w = true → rd d 8 1 ≤ 1 → ∃ t : State, exec (.fence n w) s0 = .next t.settle ∧
      ∃ ids, t = { s with hif := { s.hif with fences := s.hif.fences ++ [⟨n, d, ids, ids.length⟩] } } ∧
        ∀ id, id ∈ ids ↔ ∃ m, m < 64 ∧ (rd d 8 1 = 1 ∨ m = n.val) ∧ ∃ f ∈ (s.qp m).inflight, f.id = id ∧ f.id < descNo d) ∧
    (isDescr 0x0C w = true → rd d 8 1 = 0 → rd d 9 1 ≤ 3 → rd d 12 4 % 4 = 0 → rd d 16 4 % 4 = 0 → rd d 16 4 ≤ 65536 → hostAddr (rd d 24 8) = true →
      exec (.readState n w) s0 = .next (((s.afterRead (bits (rd d 12 4) 19 0) (rd d 16 4)).useFree.hostWrite (rd d 24 8) (stateWords (bits (rd d 12 4) 19 0) (rd d 16 4) s.readWord)).complete n d St.OK 0 (rd d 16 4)).settle) ∧
    (isBadOpcode w = true → exec (.badOpcode n w) s0 = .next ((s.complete n d St.BAD_OPCODE Cause.BAD_OPCODE_SEEN).raise Cause.BAD_OPCODE_SEEN).settle)

/-- A failed step's history moves as Table 3.2 states, and a failure is counted (R64) -/
def Obligations.StepHistoryFails : Prop :=
  ∀ (h : StepHist) (n outcome cause count : Nat),
    (h.state = .primary → (h.fail n outcome cause count).state = .retry ∧ (h.fail n outcome cause count).consec = 1) ∧
    (h.state = .retry → (h.fail n outcome cause count).state = (if n ∈ [7, 10, 12, 16, 17, 18] then .skipped else .halted) ∧
      (h.fail n outcome cause count).consec = 2) ∧
    (h.state = .skipped → (h.fail n outcome cause count).state = .skipped) ∧ (h.state = .halted → (h.fail n outcome cause count).state = .halted) ∧
    (h.fail n outcome cause count).failures = min (h.failures + 1) (2 ^ 32 - 1)

/-- A start step passes, fails or is cut; a failure ends the attempt, and after 100 ms a new one begins or the start loop ends in Maintenance state (R60, R62, R65, R66) -/
def Obligations.StartStepsEnd : Prop :=
  ∀ (ok : Bool) (cause : BitVec 16) (dur detail : Word) (x : StepInput) (s : State),
    let p := s.passUntil (s.now + dur.toNat * 1000)
    let q := p.damageSeen x
    let inTime := decide (dur.toNat ≤ 1000 * stepMax s.start.step s.start.holdWake q.start.alternate)
    (s.start.stepOpen = true → exec (.startStep ok true cause dur detail x) s = .next p.cutStep.settle) ∧
    (s.start.stepOpen = true → s.start.phase ≠ .awaitGo → s.start.step = 22 → s.jrn.snapshot.crcOk = true →
      exec (.startStep ok false cause dur detail x) s = .next ((p.restoreSnapshot).passStep dur.toNat detail.toNat x).settle) ∧
    (s.start.stepOpen = true → s.start.phase ≠ .awaitGo → s.start.step ≠ 22 →
      (ok = true → inTime = true → q.stepFault s.start.step x = none → (s.start.step = 1 → q.start.alternate = true ∨ q.jrn.mountFails = false) →
        exec (.startStep ok false cause dur detail x) s = .next ((q.passStep dur.toNat detail.toNat x).latchedGo).settle) ∧
      (ok = false → s.start.step = 21 → Image.mask q.fxg.image ≠ 0 →
        exec (.startStep ok false cause dur detail x) s =
          .next ((q.raiseRow Cause.TEST_MISMATCH 0).failStep 1 Cause.TEST_MISMATCH dur.toNat detail.toNat).settle) ∧
      (∀ c row, (ok = true ∨ s.start.step ≠ 21) → q.stepFault s.start.step x = some (c, row) → c ≠ 0 →
        exec (.startStep ok false cause dur detail x) s = .next ((q.raiseRow c row).failStep 1 c dur.toNat detail.toNat).settle) ∧
      (ok = false → s.start.step ≠ 21 → q.stepFault s.start.step x = none →
        exec (.startStep ok false cause dur detail x) s = .next (q.failStep 1 cause.toNat dur.toNat detail.toNat).settle)) ∧
    (s.start.stepOpen = true → s.start.phase ≠ .awaitGo → s.start.step ≠ 22 → let ms := stepMax s.start.step s.start.holdWake s.start.alternate
      exec .stepTimeout s = .next ((s.passUntil (s.now + ms * 1000000)).failStep 1 0 (ms * 1000) 0).settle) ∧
    (s.start.fastOff = true → let u := s.passUntil (s.now + 100000000)
      exec .fastDomainRestart s = .next (if 8 ≤ s.start.failedAttempts then u.startLoop else u.beginAttempt 3).settle)

/-- A failed step or a cut leaves the fast domain off: link and SAFE_OK down, WARN, ACT and TRG de-energised, no step open; a loss of supply is no failure (R62, R63, R65) -/
def Obligations.FailedAttemptHoldsOutputs : Prop :=
  ∀ (s : State) (outcome cause dur detail : Nat), s.start.bringUp = false →
    (∀ t : State, (t = s.failStep outcome cause dur detail ∨ (s.start.supplyLost = false ∧ t = s.cutStep)) →
      t.hif.linkUp = false ∧ t.brk.warnA = false ∧ t.brk.warnB = false ∧ t.brk.warnAvail = false ∧ t.brk.safeOkA = false ∧ t.brk.safeOkB = false ∧
      (∀ o, o < 12 → (t.out o).on = false) ∧ t.start.stepOpen = false ∧ t.start.passed = [] ∧ t.start.fastOff = true ∧
      t.start.failedAttempts = s.start.failedAttempts + 1) ∧
    (s.start.supplyLost = false → s.cutStep.jrn = s.jrn ∧ s.cutStep.start.cut = some (s.start.step, if s.start.alternate then 1 else 0)) ∧
    (s.start.supplyLost = true → s.cutStep.start.failedAttempts = s.start.failedAttempts ∧ s.cutStep.start.cut = s.start.cut)

/-- The level that the supply demands: by bank energy below 0.70, 0.55, 0.45, 0.20 and 0.10 J, and by the two low-voltage triggers (R32, R34) -/
def Obligations.EnergyAndVoltageDemand : Prop :=
  ∀ p : Supply,
    (p.eNow < 100 → energyDemand p.eNow = 5) ∧ (100 ≤ p.eNow → p.eNow < 200 → energyDemand p.eNow = 4) ∧ (200 ≤ p.eNow → p.eNow < 450 → energyDemand p.eNow = 3) ∧
    (450 ≤ p.eNow → p.eNow < 550 → energyDemand p.eNow = 2) ∧ (550 ≤ p.eNow → p.eNow < 700 → energyDemand p.eNow = 1) ∧
    (700 ≤ p.eNow → energyDemand p.eNow = 0) ∧
    p.demand = max (energyDemand p.eNow) (if p.vLow2 = true then 3 else if p.vLow1 = true then 1 else 0)

/-- Supply, energy and voltage events: leaving Off, bank measurements, triggers and their clearing, restoring one level, the end of the orderly off, the crystal (R25, R30, R31, R33, R34, R37, R38, R43) -/
def Obligations.SupplyEvents : Prop :=
  ∀ (strap : BitVec 3) (vin e eFull mJ : BitVec 16) (k : Fin 5) (s : State),
    (s.sup.power = .off → 6 ≤ strap.toNat → exec (.supplyStart strap vin e eFull) s = .next (({ s with sup :=
      ({ (({} : Supply)) with power := .sprout, strap := strap.toNat, eNow := e.toNat, eFull := eFull.toNat, strapBad := true }).see s.now vin.toNat } : State).raiseQuiet
        Cause.STRAP_INVALID).settle) ∧
    (∀ p : Supply, ((s.sup.power = .off ∧ strap.toNat < 6 ∧
          p = { (({} : Supply)) with power := .sprout, strap := strap.toNat, eNow := e.toNat, eFull := eFull.toNat, strapBad := false }) ∨
        (s.sup.power = .sprout ∧ s.sup.strapBad = false ∧ p = { s.sup with eNow := e.toNat, eFull := eFull.toNat })) →
      let u := ({ s with sup := p.see s.now vin.toNat } : State).bankMeasured eFull.toNat
      let v := u.passVOk 1000000000
      let w := ({ v with sup := v.sup.atStart v.now } : State)
      exec (.supplyStart strap vin e eFull) s =
        .next (if vOkOf p.strap vin.toNat = true ∧ restoreEnergy eFull.toNat ≤ 1000 * e.toNat ∧ 200 ≤ eFull.toNat then
            (if p.abandoned = true then w.beginAttempt 3 else w.startFromOff) else u).settle) ∧
    (let u := ({ s with sup := { s.sup with eFull := mJ.toNat } } : State)
      let v := if mJ.toNat < 1560 then u.raise Cause.BANK_WORN else u
      exec (.bankMeasurement mJ) s = .next (if mJ.toNat < 800 then v.raise Cause.BANK_FAILED else v).settle) ∧
    (vHolds s.sup.strap vin.toNat k = true → s.sup.count k = none → (s.sup.see s.now vin.toNat).count k = some s.now) ∧
    (vRecovered s.sup.strap vin.toNat k = true → (s.sup.see s.now vin.toNat).count k = none ∧ (s.sup.see s.now vin.toNat).trig k = false) ∧
    (s.sup.power ≠ .off → let u := s.sampleVin vin.toNat
      (∀ c, u.sup.count k = some c → exec (.voltageTrigger k vin) s = .next ((u.passUntil (c + vDwell k)).trigDue).settle) ∧
      (u.sup.count k = none → exec (.voltageTrigger k vin) s = .next u.settle)) ∧
    (s.sup.power ≠ .off → vRecovered s.sup.strap vin.toNat k = true → exec (.voltageTriggerClear k vin) s = .next (s.sampleVin vin.toNat).settle) ∧
    (s.sup.power ≠ .off →
      let u := ({ s with sup := ({ s.sup with eNow := e.toNat } : Supply).spells s.now,
                         start := { s.start with supplyLost := s.start.supplyLost || decide (e.toNat < 200) } } : State)
      exec (.energyTrigger e) s = .next ((if e.toNat < 200 ∧ 100 ≤ e.toNat ∧ s.startUnderWay = true then u.abandonStart else u).supplyDemand).settle) ∧
    (s.sup.power ≠ .off → let u := (s.sampleVin vin.toNat).energyTrigger e.toNat
      (u.sup.goodSince = none → exec (.levelRestore vin e) s = .next u.settle) ∧
      (∀ g, u.sup.goodSince = some g → 0 < u.sup.supplyLevel → u.sup.supplyLevel < 5 → u.sup.demand < u.sup.supplyLevel → u.sup.flushing = false →
        let v := u.passUntil (max g u.sup.levelAt + 500000000 * u.fget Fld.PWR_CONFIG_RESTORE_DWELL)
        exec (.levelRestore vin e) s =
          .next (({ v with sup := { v.sup with supplyLevel := v.sup.supplyLevel - 1, levelAt := v.now } } : State).setLevels).settle)) ∧
    (s.sup.flushing = true → ∃ t : State, exec .orderlyOffDone s = .next t.settle ∧ t.sup.power = .off ∧ t.brk.queue = [] ∧ t.qps = [] ∧ t.hif.linkUp = false ∧
      t.sup.wakeLatched = none) ∧
    exec .crystalFail s = .next (({ s with sup := { s.sup with crystalFailed := true } } : State).raise Cause.CRYSTAL_FAIL).settle

/-- Sleep entry, the Doze timer, wake sources, a latched wake, WAKE# and the end of a Doze wake (R44, R45, R47, R48, R49, R50, R468) -/
def Obligations.SleepAndWake : Prop :=
  ∀ (src : Fin 5) (vin : BitVec 16) (coarse : Int) (sw : Fin 4) (rising : Bool) (e : Fin 16) (step : Fin 3) (msw : BitVec 4) (phases : List (Nat × Nat)) (s : State),
    (∀ tgt, (tgt = .hold ∨ tgt = .doze) → s.sup.sleepTarget = some tgt → s.sup.flushing = false → ∃ t : State, exec .sleepEntry s = .next t.settle ∧
      t.sup.power = tgt ∧ t.sup.sleepTarget = none ∧
      t.hif.linkUp = false ∧ t.brk.warnA = false ∧ t.brk.warnB = false ∧ t.brk.safeOkA = false ∧ t.brk.safeOkB = false) ∧
    (s.sup.power = .doze → s.sup.waking = false → s.sup.flushing = false → s.fget Fld.PWR_CONFIG_DOZE_TO_HOLD ≠ 0 → ∃ t : State, exec .dozeToHold s = .next t.settle ∧
      t.sup = { s.sup with power := .hold, queued := [] } ∧ s.sup.sleptAt + s.fget Fld.PWR_CONFIG_DOZE_TO_HOLD * 60000000000 ≤ t.now) ∧
    (s.wakeCondition src coarse sw rising = true →
      let u := (if src = 4 then s.passUntil (s.sup.sleptAt + s.sup.timerS * 1000000000) else s).sampleVin vin.toNat
      let v := ({ u with sup := { u.sup with coarse } } : State)
      (v.vOk = true → exec (.wake src vin coarse sw rising) s = .next (v.startWake src).settle) ∧
      (v.vOk = false → exec (.wake src vin coarse sw rising) s =
        .next ({ v with sup := { v.sup with wakeLatched := v.sup.wakeLatched.or (some src.val) } } : State).settle)) ∧
    (∀ n, s.sup.wakeLatched = some n → let u := s.sampleVin vin.toNat
      u.vOk = true → (u.sup.power = .doze ∨ u.sup.power = .hold) → u.sup.waking = false → u.sup.flushing = false →
      exec (.latchedWakeStart vin) s = .next ((u.passVOk 100000000).startWake n).settle) ∧
    (s.sup.power = .doze → s.sup.waking = true → s.sup.flushing = false →
      let v := ({ s with sup := { s.sup with power := .active, waking := false }
                         hif := { s.hif with fetchStopped := false }
                         brk := { s.brk with safeOkA := true, safeOkB := true, wdogSince := s.now, opAt := s.now, emitted := [], tests := [] } } : State)
      exec (.dozeWakeComplete phases) s = .next (((v.wakeUnits phases).msix 65).wakeLevel).settle) ∧
    (s.sup.wakePin = true → exec .wakeRelease s = .next (({ s with sup := { s.sup with wakePin := false } } : State).passUntil (s.sup.wakeAt + 1000000000)).settle) ∧
    (s.sup.power = .active → s.iterationRunning = false → s.runOn e = none → exec (.engineGate e) s = .next (s.setEng e { s.eng e with gated := true }).settle) ∧
    ((s.sup.power = .doze ∨ s.sup.power = .hold) → (bitOn (s.word Reg.SPR_WAKE_ENABLE) 0 = true ∨ bitOn (s.word Reg.SPR_WAKE_ENABLE) 1 = true) →
      exec (.sleepStrobe step msw) s = .next (s.strobe step msw.toNat).settle ∧ s.now + 1000000 ≤ (s.strobe step msw.toNat).now ∧
      (s.wakeCondition 0 (s.sup.coarse + (if step.val = 1 then 1 else if step.val = 2 then -1 else 0)) 0 false = false → s.fget Fld.SPR_DOOR_SELECT = 0 →
        (s.strobe step msw.toNat).sup.coarse = s.sup.coarse + (if step.val = 1 then 1 else if step.val = 2 then -1 else 0)))

/-- A POWER_REQUEST changes the power state, or is refused with a reason and changes nothing but its completion (R53, R54, R55, R56) -/
def Obligations.PowerRequestOutcome : Prop :=
  ∀ (n : Fin 64) (w d : List Byte) (s0 : State), s0.Runs 0x0F n w d →
    let s := s0.starts n d
    let tgt := rd d 8 1
    let cap := rd d 9 1
    let ok := targetOk tgt = true ∧ (cap ≤ 4 ∨ cap = 0xF)
    let sleep := tgt = 1 ∨ tgt = 2
    let go := (sleep → s.channelsMoving = false ∧ (s.cmpPending = false ∨ bitOn (rd d 10 1) 0 = true)) ∧ (tgt = 4 → s.sup.power = .ready → s.vOk = true)
    let u := s.setCap cap
    ((s.sup.request.isSome = true ∨ s.sup.sleepTarget.isSome = true ∨ s.sup.flushing = true) → exec (.powerRequest n w) s0 = .next ({ s with sup := { s.sup with queued := s.sup.queued ++ [(n.val, d)] } } : State).settle) ∧
    (s.sup.request = none → s.sup.sleepTarget = none → s.sup.flushing = false →
      (¬ ok → exec (.powerRequest n w) s0 = .next (s.powerReply n d St.REFUSED s.powerCode 5).settle) ∧
      (ok → sleep → s.channelsMoving = true → exec (.powerRequest n w) s0 = .next (s.powerReply n d St.REFUSED s.powerCode 1).settle) ∧
      (ok → sleep → s.channelsMoving = false → s.cmpPending = true → bitOn (rd d 10 1) 0 = false →
        exec (.powerRequest n w) s0 = .next (s.powerReply n d St.REFUSED s.powerCode 2).settle) ∧
      (ok → tgt = 4 → s.sup.power = .ready → s.vOk = false → exec (.powerRequest n w) s0 = .next (s.powerReply n d St.REFUSED s.powerCode 3).settle) ∧
      (ok → go → (tgt = 0 ∨ tgt = s.powerCode) → exec (.powerRequest n w) s0 = .next (u.powerReply n d St.OK s.powerCode 0).settle) ∧
      (ok → go → tgt = 4 → s.powerCode = 3 → exec (.powerRequest n w) s0 =
        .next ((({ u with sup := { u.sup with power := .active } } : State).msix 65).powerReply n d St.OK 4 0).settle) ∧
      (ok → go → tgt = 3 → s.powerCode = 4 → exec (.powerRequest n w) s0 = .next ({ u with sup := { u.sup with request := some (n.val, d, .ready) } } : State).settle) ∧
      (ok → go → (sleep ∨ tgt = 7) → ∃ t : State, exec (.powerRequest n w) s0 = .next t.settle ∧ t.sup.wakeMask = bits (rd d 11 1) 4 0 ∧ t.sup.timerS = rd d 12 4 ∧
        t.sup.request = some (n.val, d, if tgt = 1 then .hold else if tgt = 2 then .doze else .off)))

/-- The safety mechanisms: self-tests, the cross-check, lockstep, watchdog, clock, rail, temperature and Stem monitors raise their causes (R65, R434, R435, R459) -/
def Obligations.MonitorsRaiseTheirCause : Prop :=
  ∀ (b : Fin 12) (t10 : BitVec 16) (s : State),
    (s.operational = true → s.fget Fld.BRK_CONFIG_SELFTEST_EN = 1 →
      let q := s.testTurn b
      let v := q.fset Fld.BRK_SELFTEST_PASSED (setBits (q.fget Fld.BRK_SELFTEST_PASSED) b b 0)
      let u := v.fset Fld.BRK_SELFTEST_FAILED (v.fget Fld.BRK_SELFTEST_FAILED ||| 2 ^ b.val)
      exec (.selftest b true) s = .next (q.fset Fld.BRK_SELFTEST_PASSED (q.fget Fld.BRK_SELFTEST_PASSED ||| 2 ^ b.val)).settle ∧
      exec (.selftest b false) s = .next (if b = 7 then u.raiseIn Cause.SELFTEST_DEGRADED 12 0 7 else u.raise Cause.SELFTEST_FAILED b.val).settle) ∧
    (∀ k p, (k, p) ∈ s.brk.tests → (s.brk.tests.find? fun e => e.1 == k) = some (k, p) →
      s.brk.opAt + 500000000 * ((p - s.brk.opAt) / 500000000 + 1) ≤ (s.testTurn k).now) ∧
    exec (.brkCrossCheck true) s = .next s ∧ exec (.brkCrossCheck false) s = .next (s.raise Cause.BRK_CHANNEL_MISMATCH).settle ∧
    (s.operational = true → exec .hubLockstep s = .next (s.raise Cause.HUB_LOCKSTEP).settle ∧ exec .hubWatchdog s = .next (s.raise Cause.HUB_WATCHDOG).settle) ∧
    (s.operational = false → s.start.stepOpen = true → s.start.phase ≠ .maintenance → ∀ c code, (c = .hubLockstep ∧ code = Cause.HUB_LOCKSTEP) ∨ (c = .hubWatchdog ∧ code = Cause.HUB_WATCHDOG) →
      let r := s.raise code
      exec c s = .next (({ r with brk := { r.brk with actions := s.brk.actions } } : State).cutStep).settle) ∧
    exec .clockFault s = .next (s.raise Cause.CLOCK_FAULT).settle ∧ exec .railFault s = .next (s.raise Cause.RAIL_FAULT).settle ∧
    exec .stemFault s = .next (s.raiseIn Cause.STEM_FAULT 11 0).settle ∧
    (let u := s.fset Fld.PWR_THERMAL_DIE t10.toNat
     exec (.tempMonitor t10) s = .next (if 1250 < t10.toInt then u.raise Cause.TEMP_CRITICAL else if 1100 < t10.toInt then u.raise Cause.TEMP_HIGH else u).settle)

/-- The safety lines: the decision hold, lost obstacle inputs, readbacks, test pulses, the external watchdog and the automatic restart (R449, R451, R452, R453, R454, R457) -/
def Obligations.SafetyLineEvents : Prop :=
  ∀ (c : Fin 24) (l : Fin 3) (ch : Fin 2) (lvl : Bool) (after : Word) (s : State),
    (s.operational = true → s.brk.firstDecision = true → exec .warnHold s =
      .next ({ s with now := max s.now (s.brk.shownAt + 1000000 * s.fget Fld.BRK_CONFIG_WARN_HOLD_MS), brk := { s.brk with warnA := false, warnB := false } } : State).settle) ∧
    (s.operational = true → s.watched c = true → s.brk.lost.contains c.val = false → exec (.obstacleInputLost c) s =
      .next (({ s.passUntil (s.watchDue c) with brk := { s.brk with lost := c.val :: s.brk.lost } } : State).raiseIn Cause.OBSTACLE_INPUT_LOST 13 c).settle) ∧
    exec (.warnReadback l) s = .next (s.raise Cause.WARN_READBACK).settle ∧
    exec (.safeOkReadback ch) s = .next (({ s with
      brk := { s.brk with safeOkA := s.brk.safeOkA && decide (ch ≠ 0), safeOkB := s.brk.safeOkB && decide (ch ≠ 1) } } : State).raise Cause.SAFE_OK_READBACK).settle ∧
    (s.operational = true → s.fget Fld.BRK_CONFIG_SELFTEST_EN = 1 → s.brk.lineOn l = true → (∀ p, s.brk.testPulse = some p → p.2 ≤ s.now) →
      let q := s.testTurn (16 + l.val)
      exec (.warnTestPulse l) s = .next ({ q with brk := { q.brk with testPulse := some (l.val, q.now + 20000) } } : State).settle) ∧
    (∃ t : State, exec (.wdogEdge lvl after) s = .next t.settle ∧ t = { s with now := s.now + after.toNat, brk := { s.brk with wdogLevel := lvl, wdogOn := t.brk.wdogOn, wdogSince := t.brk.wdogSince } } ∧
      (s.operational = true → ((s.fget Fld.BRK_WDOG_MODE = 1 ∧ lvl = true) ∨ (s.fget Fld.BRK_WDOG_MODE = 2 ∧ lvl = false)) →
        t.brk.wdogOn = true ∧ t.brk.wdogSince = s.now + after.toNat)) ∧
    (∀ due, s.operational = true → s.watchdogDue = some due → exec .extWatchdog s = .next ((s.passUntil due).raise Cause.EXT_WATCHDOG).settle) ∧
    (s.start.phase = .safe → s.brk.restartPending = true → exec .autoRestart s =
      .next (((s.passUntil (s.word64 Reg.BRK_LAST_SAFE + 2000000000)).fastDomainOff).beginAttempt 2).settle)

/-- The baseplate temperature, the input power and SAFE_SUP: readings, the power limit and one notice per excursion (R472, R475, R478) -/
def Obligations.ThermalNotices : Prop :=
  ∀ (t10 pin v : BitVec 16) (s : State),
    (pMax t10.toInt = if t10.toInt ≤ 750 then 8500 else (8500 - 20 * (t10.toInt - 750)).toNat) ∧
    (850 < t10.toInt → s.sup.hotRaised = false → ∃ t : State, exec (.baseplateHot t10) s = .next t.settle ∧
      t = (({ s.baseplate t10 with sup := { s.sup with hotRaised := true } } : State)).raise Cause.BASEPLATE_HOT) ∧
    (850 < t10.toInt → s.sup.hotRaised = true → exec (.baseplateHot t10) s = .next (s.baseplate t10).settle) ∧
    (t10.toInt ≤ 850 → exec (.baseplateHot t10) s = .next ({ s.baseplate t10 with sup := { s.sup with hotRaised := false } } : State).settle) ∧
    (let u := (s.baseplate t10).fset Fld.PWR_POWER_PIN pin.toNat
     (pMax t10.toInt < pin.toNat → s.sup.derateRaised = false → exec (.powerDerate t10 pin) s =
        .next (({ u with sup := { s.sup with derateRaised := true } } : State).raise Cause.POWER_DERATE).settle) ∧
     (pMax t10.toInt < pin.toNat → s.sup.derateRaised = true → exec (.powerDerate t10 pin) s = .next u.settle) ∧
     (pin.toNat ≤ pMax t10.toInt → exec (.powerDerate t10 pin) s = .next ({ u with sup := { s.sup with derateRaised := false } } : State).settle)) ∧
    (∃ t : State, exec (.safeSupChange v) s = .next t.settle ∧ t.fget Fld.PWR_FIELD_SAFE_SUP = v.toNat ∧ (v.toNat < 1500 → t.brk.safeSup = false) ∧
      (1600 < v.toNat → t.brk.safeSup = true) ∧ (1500 ≤ v.toNat → v.toNat ≤ 1600 → t.brk.safeSup = s.brk.safeSup) ∧
      t = { s with regs := t.regs, brk := { s.brk with safeSup := t.brk.safeSup } })

/-- A module-class record in operation puts the module into safe state: both WARN lines, WARN_AVAIL and both SAFE_OK channels are off (R446, R455) -/
def Obligations.SafeStateEntry : Prop :=
  ∀ (s : State) (code : Nat),
    (s.sup.flushing = false → s.operational = true → let t := s.moduleAction code
      t.start.phase = .safe ∧ t.brk.warnA = false ∧ t.brk.warnB = false ∧ t.brk.warnAvail = false ∧ t.brk.safeOkA = false ∧ t.brk.safeOkB = false) ∧
    (s.sup.flushing = false → s.operational = false → (s.start.phase = .starting ∨ s.start.phase = .awaitGo) → s.start.stepOpen = true →
      s.moduleAction code = s.failStep 1 code s.stepUs 0) ∧
    ((s.sup.flushing = true ∨ (s.operational = false ∧ (s.start.phase = .safe ∨ s.start.phase = .maintenance))) → s.moduleAction code = s)

/-- STAGE_CONFIG adds to its set and completes with the set's counts; COMMIT_CONFIG joins the queue of commits; with ABANDON it empties its set (R102, R103, R104, R105, R346) -/
def Obligations.StageAndCommit : Prop :=
  ∀ (n : Fin 64) (w d list image block : List Byte) (tables : List (List Byte)) (s0 : State), rd d 8 1 ≤ 3 →
    let s := s0.starts n d
    let k := rd d 8 1
    let x := s.set k
    x.outstanding = false →
    (s0.Runs 0x02 n w d → rd d 9 1 ≤ 2 → (rd d 9 1 = 0 → 0 < rd d 12 2 ∧ rd d 12 2 ≤ 512) → hostAddr (rd d 16 8) = true → s.hif.linkUp = false →
      exec (.stageRegisterList n w list tables) s0 = .next (s.endDesc n d).settle ∧ exec (.stageScheduleImage n w image) s0 = .next (s.endDesc n d).settle ∧
        exec (.stageCorrectionBlock n w block) s0 = .next (s.endDesc n d).settle) ∧
    (s0.Runs 0x02 n w d → hostAddr (rd d 16 8) = true → s.hif.linkUp = true →
      (rd d 9 1 = 0 → 0 < rd d 12 2 → rd d 12 2 ≤ 512 → let es := (List.range (rd d 12 2)).map (regEntry list)
        (∀ e ∈ es, badRegEntry e = false) → let t := stageEntries x.entries es
        t.length ≤ 512 → let u := s.setSet k { x with entries := t, tables := s.shadow t x.tables (sourcesOf (stageEntries [] es)) tables }
          exec (.stageRegisterList n w list tables) s0 = .next ((u.complete n d St.OK 0 (u.stageResult k)).settle)) ∧
      (rd d 9 1 = 1 → let fixed := decide (Image.partition image = 1)
        let persist := bitOn (rd d 10 1) 0
        (if fixed then x.fixedImg else x.freeImg) = none →
        (s.stagedCheck k image (rd d 24 4) persist = none →
          let u := s.setSet k (if fixed then { x with fixedImg := some image, persistFixed := persist } else { x with freeImg := some image, persistFree := persist })
          let v := if persist then { u with flash := u.flash.put (fun _ => []) (slotIndex fixed (1 - u.slotPref fixed)) image } else u
          let now := v.lacking image ≠ [] ∧ v.sup.level ≤ 1 ∧ (∀ p ∈ v.lacking image, v.arrayFree k (Image.pEngine p) (Image.pArray p) = true)
          (¬ now → exec (.stageScheduleImage n w image) s0 = .next (v.complete n d St.OK 0 (v.stageResult k)).settle) ∧
          (now → exec (.stageScheduleImage n w image) s0 =
            .next (({ v with progs := v.progs ++ [(⟨n, d, 0, 0⟩ : ProgAcc)] } : State).programAll (.staging k n d) image (v.lacking image)).settle)) ∧
        (∀ code row, s.stagedCheck k image (rd d 24 4) persist = some (code, row) →
          exec (.stageScheduleImage n w image) s0 = .next ((s.complete n d St.REFUSED code (2 ^ 32)).raiseRow code row).settle)) ∧
      (rd d 9 1 = 2 → ∀ l, readBlock block (rd d 24 4) = some l → let y := addSections x.sections (l.map s.noteSection)
        y.length ≤ 1024 → let u := s.setSet k { x with sections := y }
        exec (.stageCorrectionBlock n w block) s0 = .next ((u.complete n d St.OK 0 (u.stageResult k)).settle))) ∧
    (s0.Runs 0x03 n w d → rd d 9 1 ≤ 2 → (rd d 9 1 = 0 → rd d 10 1 ≤ 23) →
      (bitOn (rd d 11 1) 0 = true → exec (.commitAbandon n w) s0 = .next (((s.setSet k {}).complete n d St.OK 0 ((s.setSet k {}).commitResult k)).settle)) ∧
      (bitOn (rd d 11 1) 0 = false → (∀ f, x.fixedImg = some f → s.lacking f = [] ∧ (s.mem.layout = [] ∨ Image.layout f = s.mem.layout)) →
        (s.setPending k = 0 ∨ bitOn (rd d 11 1) 2 = true) → (rd d 9 1 = 0 → (s.ctx (rd d 10 1)).state ≠ .free) →
        let c : Commit := { qp := n, d, set := k, boundary := rd d 9 1, stream := rd d 10 1, notAfter := rd d 16 8, drain := bitOn (rd d 11 1) 2 }
        exec (.commitConfig n w) s0 =
          .next (({ s with hif := { s.hif with commits := s.hif.commits ++ [c] } } : State).setSet k { x with outstanding := true }).settle)) ∧
    (∀ (t : Tbl Word) (l : List (Nat × Nat)) (o v : Nat), (stageEntries t (l ++ [(o, v)])).get (fun _ => 0) o = BitVec.ofNat 32 v ∧
      ∀ o', o' ≠ o → (stageEntries t (l ++ [(o, v)])).get (fun _ => 0) o' = (stageEntries t l).get (fun _ => 0) o')

/-- The front commit takes effect at its boundary, ends TIMEOUT when NOT_AFTER passes, and goes on when its drain has been reprogrammed (R105, R106, R108, R142) -/
def Obligations.CommitsMove : Prop :=
  ∀ (s : State) (c : Commit) (l r : List Commit),
    (s.hif.commits = c :: r →
      (c.boundary = 0 → (s.ctx c.stream).state ≠ .free → (s.ctx c.stream).state ≠ .suspended →
        let u := s.commitAt 0 c.stream
        exec .commitEffect s = .next (((u.setCtx c.stream { u.ctx c.stream with front := [] }).programEffect c.stream).recheck c.stream).settle) ∧
      (c.boundary = 1 → s.iterationRunning = false → s.sup.level ≤ 3 →
        exec .commitEffect s = .next ((s.passUntil (s.boundaryAt s.now)).commitAt 1 0).settle) ∧
      (∀ kind stream, (∀ y ∈ s.hif.commits, y.notAfter = 0 ∨ s.now ≤ y.notAfter) → c.boundary = kind → (kind = 0 → c.stream = stream) → s.commitReady c = true →
        (bitOn (rd c.d 11 1) 1 = true → rd c.d 12 2 ≠ s.hif.epoch →
          s.commitAt kind stream = s.commitEnd c St.STALE_EPOCH 0 (s.hif.epoch + 2 ^ 16 * s.hif.epoch + 2 ^ 48 * (s.setPending c.set % 2 ^ 16))) ∧
        ((bitOn (rd c.d 11 1) 1 = true → rd c.d 12 2 = s.hif.epoch) → let u := s.setEffect c.set
          s.commitAt kind stream = u.commitEnd c St.OK (if c.verifyFailed = true then Cause.PROGRAM_VERIFY_FAILED else 0)
            (u.hif.epoch + 2 ^ 16 * s.hif.epoch + 2 ^ 48 * (s.setPending c.set % 2 ^ 16)))) ∧
      (c.phase = 2 → s.workLeft (.drain c.set) = false →
        (c.untouched = false → exec .drainReprogramDone s = .next (s.markCommit c.set fun c => { c with phase := 3 }).settle) ∧
        (c.untouched = true → exec .drainReprogramDone s = .next (s.commitEnd c St.REFUSED 0 (s.commitResult c.set + 2 * 2 ^ 32)).settle))) ∧
    (s.hif.commits = l ++ c :: r → c.notAfter ≠ 0 → (∀ x ∈ l, x.notAfter = 0 ∨ c.notAfter < x.notAfter) → (∀ x ∈ r, x.notAfter = 0 ∨ c.notAfter ≤ x.notAfter) →
      let u := s.passUntil (c.notAfter + 1)
      exec .commitTimeout s = .next (u.commitEnd c St.TIMEOUT 0 (u.commitResult c.set)).settle)

/-- The control mailbox, camera links and triggers: transactions begin and end, links are found and lost, a line takes the oldest trigger, a trigger times out (R114, R117, R119, R120, R122, R123, R125) -/
def Obligations.CameraControl : Prop :=
  ∀ (k : Fin 2) (conn : Fin 4) (found : Fin 5) (speed : Fin 8) (result : Fin 3) (data : Word) (t : BitVec 64) (fmt : BitVec 8) (count : Word) (complete laneFull midLine : Bool)
    (pixels : List (BitVec 16)) (s : State),
    (s.fget Fld.CXP_CTL_CMD_BUSY = 0 →
      (∃ u : State, exec (.cxpControlRead k) s = .next u.settle ∧ u = { s with regs := u.regs, cams := { s.cams with mbox := some (false, k.val) } } ∧
        u.fget Fld.CXP_CTL_CMD_BUSY = 1 ∧ u.fget Fld.CXP_CTL_CMD_CAMERA = k.val ∧ u.fget Fld.CXP_CTL_CMD_OP = 0) ∧
      (∃ u : State, exec (.cxpControlWrite k) s = .next u.settle ∧ u = { s with regs := u.regs, cams := { s.cams with mbox := some (true, k.val) } } ∧
        u.fget Fld.CXP_CTL_CMD_BUSY = 1 ∧ u.fget Fld.CXP_CTL_CMD_CAMERA = k.val ∧ u.fget Fld.CXP_CTL_CMD_OP = 0)) ∧
    (∀ w c, s.cams.mbox = some (w, c) →
      (∃ u : State, exec (.ctlResponse result data) s = .next u.settle ∧ u = { s with regs := u.regs, cams := { s.cams with mbox := none } } ∧ u.fget Fld.CXP_CTL_CMD_BUSY = 0 ∧
        u.fget Fld.CXP_CTL_CMD_RESULT = (if result = 0 then 0 else result.val + 1) ∧
        u.word Reg.CXP_CTL_DATA = (if w = false ∧ result = 0 then data.toNat else s.word Reg.CXP_CTL_DATA)) ∧
      (∃ u : State, exec .ctlTimeout s = .next (u.raise Cause.CTL_TIMEOUT).settle ∧ u = { s with regs := u.regs, cams := { s.cams with mbox := none } } ∧
        u.fget Fld.CXP_CTL_CMD_BUSY = 0 ∧ u.fget Fld.CXP_CTL_CMD_RESULT = 1 ∧ u.word Reg.CXP_CTL_DATA = s.word Reg.CXP_CTL_DATA)) ∧
    exec (.cxpEventPacket k) s = .next (s.setCam k { s.cam k with events := (s.cam k).events + 1 }).settle ∧
    (cxpFirst k ≤ conn → conn < cxpFirst k + s.cxpLinks k → s.fget (cxpSpeedFld conn) ≠ 0 → let up := s.fget (Fld.CXP_CAMn_INFO_LINKS_UP k) - 1
      let u0 := (s.fset (Fld.CXP_CAMn_INFO_LINKS_UP k) up).fset (cxpSpeedFld conn) 0
      let u := if up = 0 then u0.fset (Fld.CXP_CAMn_INFO_SPEED k) 0 else u0
      let v := if midLine = true then u.raise Cause.LINE_INCOMPLETE else u
      (v.ctxOf 0 k 0 = none → exec (.cxpLinkLoss k conn midLine) s = .next (v.raise Cause.LINK_DOWN).settle) ∧
      (∀ n, v.ctxOf 0 k 0 = some n → exec (.cxpLinkLoss k conn midLine) s = .next ((v.toWaiting n).raise Cause.LINK_DOWN).settle)) ∧
    (s.cxpEnabled k = true → s.sup.level < 4 → s.frontEndsOn = true → ∃ u : State, exec (.cxpDiscovery k found speed) s = .next u.settle ∧ u = { s with regs := u.regs } ∧
      u.fget (Fld.CXP_CAMn_INFO_LINKS_UP k) = min found.val (s.cxpLinks k) ∧
      u.fget (Fld.CXP_CAMn_INFO_SPEED k) = (if min found.val (s.cxpLinks k) = 0 then 0 else
        min (min speed.val (s.fget (Fld.CXP_CAMn_CFG_MAX_SPEED k))) (if s.cams.alt = true then 5 else 7))) ∧
    (∀ e q, (s.cam k).queue = e :: q →
      let u := ((s.passUntil (e.time + 10000 * s.camFld k (Fld.CXP_CAMn_CFG_LINE_TIMEOUT k))).setCam k { s.cam k with queue := q }).raise Cause.TRIGGER_MISSED
      (u.ctxOf 0 k 0 = none → exec (.triggerTimeout k) s = .next u.settle) ∧
      (∀ n, u.ctxOf 0 k 0 = some n → exec (.triggerTimeout k) s = .next (u.missingLine n).settle)) ∧
    (s.cxpUp k = true → let trig := s.camFld k (Fld.CXP_CAMn_CFG_TRIG_EN k) == 1
      let p := s.passUntil t.toNat
      let u := if trig then p.setCam k { s.cam k with queue := (s.cam k).queue.drop 1 } else p
      let row := pixels.map BitVec.toNat
      let run := exec (.cxpLine k t fmt count complete laneFull pixels) s
      (u.ctxOf 0 k 0 = none → run = .next (u.setCam k { u.cam k with dropped := (s.cam k).dropped + 1 }).settle) ∧
      (∀ n, u.ctxOf 0 k 0 = some n → (u.ctx n).open? = false → run = .next u.settle) ∧
      (∀ n, u.ctxOf 0 k 0 = some n → (u.ctx n).open? = true →
        (∀ e q, trig = true → (s.cam k).queue = e :: q → run = .next (u.triggeredLine n k fmt.toNat count.toNat complete laneFull row e.pos e.coarse false).settle) ∧
        (trig = true → (s.cam k).queue = [] → run = .next (u.raise Cause.LINE_UNTRIGGERED).settle) ∧
        (trig = false → let g := u.genPosition (s.camFld k (Fld.CXP_CAMn_CFG_TRIG_GEN k))
          run = .next (u.triggeredLine n k fmt.toNat count.toNat complete laneFull row g.1 g.2 true).settle) ∧
        (∀ kd pos co ar, cxpKind fmt.toNat = some kd → cxpFormatOk fmt.toNat row.length = true → complete = true → laneFull = false →
          ((u.toRunning n).ctx n).format = some ⟨row.length, 0, kd⟩ → let v := u.toRunning n
          u.triggeredLine n k fmt.toNat count.toNat complete laneFull row pos co ar =
            ((v.setCam k { v.cam k with noticed := none }).bump64 (Reg.CXP_CAMn_LINES k)).takeLine n row pos count.toNat co ar)))

/-- CSI-2 packets and A-PHY links: frames start, take lines and end; header errors; sensors and links lost; links trained; sensor writes answered or failed (R114, R127, R128, R129, R130, R145, R146) -/
def Obligations.SensorFrames : Prop :=
  ∀ (port : Fin 2) (vc : BitVec 4) (t : BitVec 64) (frame width height : BitVec 16) (ecc : Fin 3) (dt : CsiType) (overrun crcOk : Bool) (samples : List (BitVec 16))
    (sensor : Fin 8) (gear : Fin 5) (s : State),
    (s.fget (Fld.APY_PORTn_STATUS_LINK_UP port) ≠ 0 →
      (ecc = 2 → exec (.csi2FrameStart port vc t frame ecc dt width height overrun) s = .next (s.headerError port).settle ∧
        exec (.csi2LongPacket port vc ecc crcOk dt samples) s = .next (s.headerError port).settle ∧
        exec (.csi2FrameEnd port vc t ecc) s = .next (s.headerError port).settle) ∧
      (ecc ≠ 2 → let u := if ecc.val = 1 then s.raise Cause.CSI_ECC_CORRECTED else s
        (4 ≤ vc.toNat → exec (.csi2LongPacket port vc ecc crcOk dt samples) s = .next u.settle) ∧
        (vc.toNat < 4 → u.ctxOf 1 port vc.toNat = none →
          exec (.csi2LongPacket port vc ecc crcOk dt samples) s = .next (u.bump (Fld.APY_Sn_DROPPED_COUNT (4 * port.val + vc.toNat))).settle) ∧
        (∀ n, vc.toNat < 4 → u.ctxOf 1 port vc.toNat = some n → (u.ctx n).open? = true →
          (let v := u.frameStart n t.toNat frame.toNat dt width.toNat height.toNat overrun
           exec (.csi2FrameStart port vc t frame ecc dt width height overrun) s = .next v.settle ∧
            (overrun = false → (u.ctx n).closing = none → (v.ctx n).open? = true → ∃ y, (v.ctx n).frame = some y ∧ y.width = width.toNat ∧ y.height = height.toNat ∧ y.srcFrame = frame.toNat ∧ y.tFirst = t.toNat ∧
              y.rows = [] ∧ y.tracked = true ∧ y.bad = false)) ∧
          ((u.ctx n).frame = none → exec (.csi2LongPacket port vc ecc crcOk dt samples) s = .next u.settle) ∧
          (∀ x, (u.ctx n).frame = some x → let row := samples.map BitVec.toNat
            let same := match u.csiKind (u.ctx n).profile dt with
              | some kd => kd.base == x.kind.base && row.length == x.kind.samples x.width
              | none => false
            (dt = .embedded → exec (.csi2LongPacket port vc ecc crcOk dt samples) s =
              .next (if crcOk = true then u else u.setCtx n { u.ctx n with frame := some { x with bad := true } }).settle) ∧
            (dt ≠ .embedded → exec (.csi2LongPacket port vc ecc crcOk dt samples) s =
              .next (u.setCtx n { u.ctx n with frame := some { x with rows := x.rows ++ [some row], bad := x.bad || !crcOk, badType := x.badType || !same } }).settle) ∧
            (x.bad = false → x.badType = false → x.rows.length = x.height → let p := u.passUntil t.toNat
              let k := (u.ctx n).sensorNo
              let pend := (u.sensor k).queue.any fun q => q.left.isEmpty && !q.failed
              exec (.csi2FrameEnd port vc t ecc) s = .next ((((p.setCtx n { u.ctx n with frame := none }).bump (Fld.APY_Sn_FRAMES_COUNT k)).captured n
                { x with tLast := t.toNat, sensorPending := pend }).finishClose n).settle))))) ∧
    (∀ n, s.ctxOf 1 (sensor.val / 4) (sensor.val % 4) = some n → (s.ctx n).open? = true →
      let p := s.passUntil ((s.ctx n).fsAt + 10000000 * s.sensorFld sensor (Fld.APY_Sn_CFG_FS_TIMEOUT sensor))
      let u := p.setCtx n { p.ctx n with fsAt := p.now, fsGap := 0 }
      exec (.sensorLost sensor) s = .next (((u.toWaiting n).finishClose n).raiseIn Cause.SENSOR_LOST 2 n).settle) ∧
    (s.fget (Fld.APY_PORTn_STATUS_LINK_UP port) ≠ 0 →
      let u := (s.fset (Fld.APY_PORTn_STATUS_LINK_UP port) 0).fset (Fld.APY_PORTn_STATUS_GEAR port) 0
      u.fget (Fld.APY_PORTn_STATUS_LINK_UP port) = 0 ∧ u.fget (Fld.APY_PORTn_STATUS_GEAR port) = 0 ∧
      exec (.apyLinkDown port) s = .next (((List.range 24).foldl (fun v n =>
        if (v.ctx n).path = 1 ∧ (v.ctx n).port = port.val ∧ (v.ctx n).state = .running then (v.toWaiting n).finishClose n else v) u).raise Cause.APY_LINK_DOWN).settle) ∧
    (s.fget (Fld.APY_PORTn_CFG_ENABLE port) ≠ 0 → gear ≠ 0 → s.sup.level < 4 → s.frontEndsOn = true → ∃ u : State, exec (.apyLinkUp port gear) s = .next u.settle ∧
      u = { s with regs := u.regs } ∧ u.fget (Fld.APY_PORTn_STATUS_LINK_UP port) = 1 ∧
      u.fget (Fld.APY_PORTn_STATUS_GEAR port) = min (min gear.val (s.fget (Fld.APY_PORTn_CFG_MAX_GEAR port))) (if s.cams.alt = true then 2 else 4)) ∧
    (∀ (done rest : List SensorSet) (q : SensorSet), (s.sensor sensor).queue = done ++ q :: rest → (∀ y ∈ done, y.left = []) → q.left ≠ [] →
      let x := s.sensor sensor
      let last := (q.left.drop 1).isEmpty
      let late := last && decide (q.f < x.frames)
      let eff := x.frames + s.sensorFld sensor (Fld.APY_Sn_CFG_DELAY sensor)
      (let u := (s.setSensor sensor { x with queue := done ++ { q with left := q.left.drop 1, retried := false, late, effective := if last then some eff else none } :: rest }).sensorSend sensor
       exec (.sensorWriteAck sensor) s = .next (if late then u.raise Cause.SENSOR_WRITE_LATE else u).settle) ∧
      (q.retried = false → exec (.sensorWriteFail sensor) s = .next ((s.setSensor sensor { x with queue := done ++ { q with retried := true } :: rest }).sensorSend sensor).settle) ∧
      (q.retried = true → exec (.sensorWriteFail sensor) s =
        .next (((s.setSensor sensor { x with queue := done ++ { q with left := [], failed := true, effective := some eff } :: rest }).sensorSend sensor).raise Cause.SENSOR_WRITE_NAK).settle))

/-- Streams open and close, an intake program is taken, samples are emitted, and the decoder hands on pictures or drops them (R114, R115, R116, R132, R133, R135, R136, R150, R151, R165, R166) -/
def Obligations.StreamsAndDecoder : Prop :=
  ∀ (n : Fin 64) (wd d table : List Byte) (k : Fin 24) (c : Fin 10) (t : BitVec 64) (stamp : Word) (vui : Option Vui) (supported intact : Bool) (w : BitVec 16) (rows : List (List (BitVec 8)))
    (s0 s : State),
    (s0.Runs 0x05 n wd d → let s := s0.starts n d
      s.noCameras = false → openFault d = none → s.brk.outRegions.contains (2, rd d 8 1) = false → s.brk.outRegions.contains (13, rd d 8 1) = false →
      let m := rd d 8 1
      let path := rd d 9 1
      let port := rd d 10 1
      let x := s.ctx m
      (x.state ≠ .free → exec (.streamOpen n wd) s0 = .next (s.refuse n d 1).settle) ∧
      (x.state = .free → (s.ctxOf path port (rd d 11 1)).isSome = true → exec (.streamOpen n wd) s0 = .next (s.refuse n d 2).settle) ∧
      (x.state = .free → s.ctxOf path port (rd d 11 1) = none →
        (path = 2 → decCapacity < s.decUsed + s.decRate port → exec (.streamOpen n wd) s0 = .next (s.refuse n d 3).settle) ∧
        ((path = 2 → s.decUsed + s.decRate port ≤ decCapacity) → s.sourceOff path port = true → exec (.streamOpen n wd) s0 = .next (s.refuse n d 4).settle) ∧
        ((path = 2 → s.decUsed + s.decRate port ≤ decCapacity) → s.sourceOff path port = false →
          ∃ u : State, exec (.streamOpen n wd) s0 = .next (u.complete n d St.OK 0 (sampleId m x.nextSeq)).settle ∧ u = { s with regs := u.regs, cams := u.cams } ∧
            u.ctx m = { x with state := (u.ctx m).state, path, port, channel := rd d 11 1, profile := rd d 12 2, fsAt := s.now } ∧
            ((u.ctx m).state = .waiting ∨ (u.ctx m).state = .suspended) ∧ ((u.ctx m).state = .waiting → u.ctxAllowed m u.sup.level = true) ∧
            ∀ j, j ≠ m → u.ctx j = s.ctx j))) ∧
    (s0.Runs 0x06 n wd d → rd d 8 1 < 24 → rd d 9 1 ≤ 1 → let s := s0.starts n d
      let m := rd d 8 1
      ((s.ctx m).closing.isSome = true → exec (.streamClose n wd) s0 = .next (s.complete n d St.OK).settle) ∧
      ((s.ctx m).state = .free → exec (.streamClose n wd) s0 = .next (s.complete n d St.OK).settle) ∧
      ((s.ctx m).state ≠ .free → (s.ctx m).closing = none → ∃ u : State, exec (.streamClose n wd) s0 = .next (u.finishClose m).settle ∧ (u.ctx m).closing = some (n.val, d) ∧
        (rd d 9 1 = 1 → (u.ctx m).frame = none ∧ (u.ctx m).ready = [] ∧ (u.ctx m).tiling.tiles = []))) ∧
    (s0.Runs 0x07 n wd d → let s := s0.starts n d
      s.noCameras = false → let p : Program := { d, table := if rd d 48 8 = 0 then [] else quantTable table (rd d 56 2) }
      let m := rd d 8 1
      s.intakeFault p = none →
      (∀ r, s.intakeRefused m p = some r → exec (.intake n wd table) s0 = .next (s.refuse n d r).settle) ∧
      (s.intakeRefused m p = none → rd d 48 8 ≠ 0 → s.hif.linkUp = false → exec (.intake n wd table) s0 = .next (s.endDesc n d).settle) ∧
      (s.intakeRefused m p = none → (rd d 48 8 = 0 ∨ s.hif.linkUp = true) → p.badTable = true → exec (.intake n wd table) s0 = .next (s.malformed n d 48).settle) ∧
      (s.intakeRefused m p = none → (rd d 48 8 = 0 ∨ s.hif.linkUp = true) → p.badTable = false → let u := (s.abortIntake m).setCtx m { (s.abortIntake m).ctx m with pend := some (n.val, d, p) }
        ((u.ctx m).state = .running → exec (.intake n wd table) s0 = .next u.settle) ∧
        ((u.ctx m).state ≠ .running → exec (.intake n wd table) s0 = .next (u.programEffect m).settle))) ∧
    ((s.ctx k).pend.isSome = true → exec (.intakeProgramEffect k) s = .next (s.streamBoundary k).settle) ∧
    (∀ x r, (s.ctx k).ready = x :: r → x.needAfter = false → let u := s.setCtx k { s.ctx k with ready := r }
      (x.prog = none → exec (.sampleEmit k) s = .next ((u.discarded k).finishClose k).settle) ∧
      (∀ p, x.prog = some p → (s.ctx k).path = 0 → 1 ≤ s.sup.level → exec (.sampleEmit k) s = .next ((u.discarded k).finishClose k).settle) ∧
      (∀ p, x.prog = some p → ((s.ctx k).path ≠ 0 ∨ s.sup.level = 0) → let id := sampleId k (s.ctx k).nextSeq
        let v := u.setCtx k { u.ctx k with nextSeq := (s.ctx k).nextSeq + 1 }
        exec (.sampleEmit k) s = .next ((((((v.placeSample k id x p).sampleDeadlines id x.tLast)).boundAdmit k id x.tLast).inputBack k).finishClose k).settle)) ∧
    (∀ m, s.ctxOf 2 c 0 = some m → (s.ctx m).open? = true →
      (∀ g p, (s.dec c).holdEnds = some g → let u := s.passUntil g
        ((u.dec c).window.find? fun p => (u.dec c).window.all fun q => decide ((u.dec c).ahead p.seq ≤ (u.dec c).ahead q.seq)) = some p →
        let v := (u.setDec c { u.dec c with next := some p.seq, part := [], broken := true }).bump (Fld.DEC_Cc_STATUS_GAPS c)
        exec (.decodeGap c) s =
          .next ((((v.setDec c { v.dec c with waitKey := true }).raise Cause.DECODE_GAP).rtpRelease c 64).gapsDue c 63).settle) ∧
      ((s.dec c).silent = false → let u := s.passUntil ((s.dec c).heard + 1000000 * s.decFld c Fld.DEC_CONFIG_SILENT_MS)
        exec (.streamSilent c) s = .next (((u.setDec c { s.dec c with silent := true }).toWaiting m).raise Cause.STREAM_SILENT).settle) ∧
      (let run := exec (.decodedPicture c t stamp vui supported intact w rows) s
       ((s.dec c).unit? stamp.toNat = none → run = .next s.settle) ∧
        (∀ x, (s.dec c).unit? stamp.toNat = some x →
          let u := s.passUntil t.toNat
          let rest := (((s.dec c).units.dropWhile fun y => y != x).drop 1).dropWhile fun y => !y.key
          let lost := u.setDec c { s.dec c with units := rest, waitKey := (s.dec c).waitKey || rest.isEmpty }
          let fits := supported = true ∧ (∀ y ∈ x.nals, spsOk (s.h265 c) y = true) ∧ (w.toNat + 15) / 16 ≤ s.decFld c (Fld.DEC_Cc_RATE_MAX_W_MB c) ∧
            (rows.length + 15) / 16 ≤ s.decFld c (Fld.DEC_Cc_RATE_MAX_H_MB c)
          (intact = false → run = .next (lost.raise Cause.BITSTREAM_ERROR).settle) ∧
          (intact = true → ¬ fits → run = .next (lost.raise Cause.UNSUPPORTED_STREAM).settle) ∧
          (intact = true → fits →
            let b := (u.setDec c { s.dec c with silent := false, units := (s.dec c).units.filter fun y => y != x }).streamBoundary m
            ((b.ctx m).open? = false → run = .next b.settle) ∧
            ((b.ctx m).open? = true →
              let r := ((b.toRunning m).setCtx m { (b.toRunning m).ctx m with format := some ⟨w.toNat, rows.length, .rgb⟩ }).recheck m
              let code : IspMath.YuvCode := vui.elim ⟨false, false⟩ fun v => ⟨v.bt601, v.full⟩
              let y := r.claim m {
                params := r.ispSet (r.ctx m), kind := .rgb, width := w.toNat, height := rows.length, tFirst := x.last, tLast := x.last
                rows := rows.map fun row => some ((IspMath.triples (row.map BitVec.toNat)).flatMap (IspMath.yuvPixel code))
                epoch := r.hif.epoch, srcFrame := stamp.toNat, quality := r.tb.quality }
              run = .next (((y.1.bump (Fld.DEC_Cc_PICTURES_COUNT c)).captured m y.2).finishClose m).settle))))) ∧
    (s.ctxOf 2 c 0 = none → exec (.decodedPicture c t stamp vui supported intact w rows) s = .next s.settle)

/-- References come and are lost, offsets are decided on, the PPS output rises at whole seconds, holdover ends, and steps move module time and every deadline (R381, R382, R385, R386, R387, R388, R389, R393, R397) -/
def Obligations.TimeBaseEvents : Prop :=
  ∀ (mt : BitVec 4) (ps : Fin 10) (sync : Option Int) (p : Fin 6) (delay : Nat) (time : BitVec 64) (falling wide : Bool) (n : Fin 64) (d : List Byte) (s : State),
    (s.ptpRuns = true → let run := exec (.ptpMessage mt ps sync) s
      let u := s.ptpAnswer mt.toNat
      let st := if s.fget Fld.TB_PTP_CFG_ROLE = 2 ∧ (ps.val = 3 ∨ ps.val = 6 ∨ ps.val = 7) then 4 else ps.val
      (ps ≠ 9 → run = .next (({ u with tb := { u.tb with portState := st, ptpOk := false, syncLast := none } } : State).tbCheckSource).settle) ∧
      (ps = 9 → sync = none → run = .next ({ u with tb := { u.tb with portState := 9 } } : State).settle) ∧
      (∀ o, ps = 9 → sync = some o → let v := ({ u with tb := { u.tb with portState := 9, ptpOk := true, syncLast := some u.now } } : State).tbSelect
        run = .next (if v.tb.source = 1 then v.tbMeasure o else v).settle) ∧
      exec (.ptpPortTimer .announceReceipt) s = .next (s.ptpState (if s.fget Fld.TB_PTP_CFG_ROLE = 1 then 6 else 4) none).settle ∧
      (s.tb.portState = 6 → exec (.ptpPortTimer .announceSend) s = .next ({ s with tb := { s.tb with sent := ⟨1, s.now, s.announceFields⟩ :: s.tb.sent } } : State).settle ∧
        (let u := s.ptpSpaced 0 [] s.syncNs
         exec (.ptpPortTimer .syncSend) s = .next ({ u with tb := { s.tb with sent := ⟨0, u.now, []⟩ :: s.tb.sent } } : State).settle)) ∧
      (s.fget Fld.TB_PTP_CFG_PROFILE ≠ 0 → s.fget Fld.TB_PTP_CFG_PORT = p.val → let u := s.ptpSpaced 2 [p.val] 1000000000
        exec (.ptpPortTimer (.peerDelay p delay)) s =
        .next ({ u with tb := { s.tb with sent := ⟨2, u.now, [p.val]⟩ :: s.tb.sent, pdelay := s.tb.pdelay.put (fun _ => 0) p delay } } : State).settle)) ∧
    (∀ t, s.tb.syncLast = some t → let u := s.passUntil (t + 4 * s.syncNs)
      exec .ptpSyncTimeout s = .next (({ u with tb := { u.tb with ptpOk := false, syncLast := none } } : State).tbCheckSource).settle) ∧
    (∀ t, s.tb.ppsLast = some t → let u := s.passUntil (t + 2000000000)
      exec .ppsInTimeout s = .next (({ u with tb := { u.tb with ppsLast := none, ppsCount := 0 } } : State).tbCheckSource).settle) ∧
    (∀ t, s.tb.holdStart = some t → let u := s.passUntil (t + 1000000000 * s.fget Fld.TB_CONFIG_HOLDOVER_S)
      let v := ({ u with tb := { u.tb with holdStart := none } } : State).raise Cause.HOLDOVER_EXPIRED
      exec .holdoverExpired s = .next (if s.tb.st = .holdover then v.tbEnter .unsynced else v.tbQuality).settle) ∧
    (s.tb.running = true → s.tb.ppsOn = true → s.fget Fld.TB_PPS_CFG_IN_EN = 1 → (falling = true ↔ s.fget Fld.TB_PPS_CFG_IN_FALLING = 1) → let t := max s.now time.toNat
      exec (.ppsInEdge time falling wide) s = .next ((s.passUntil t).ppsEdge t wide).settle ∧
      (wide = true → (∀ u, s.tb.ppsLast = some u → u + 999000000 ≤ t ∧ t ≤ u + 1001000000) → let at' := t - s.fget Fld.TB_PPS_CFG_IN_DELAY_NS
        let v := (({ s.passUntil t with tb := { s.tb with ppsLast := some t, ppsCount := s.tb.ppsCount + 1 } } : State).setWord64 Reg.TB_PPS_IN_LAST at').tbSelect
        (s.passUntil t).ppsEdge t wide = if v.tb.source = 2 then v.tbMeasure (ppsOffset at') else v)) ∧
    (s.tb.running = true → let t := (s.now / 1000000000 + 1) * 1000000000
      exec .ppsOutSecond s = .next (if s.ppsAllowed = true then
        { s.passUntil t with tb := { s.tb with ppsEdges := t :: s.tb.ppsEdges, ppsHigh := some (t + 1000000 * s.fget Fld.TB_PPS_CFG_OUT_WIDTH_MS) } }
        else s.passUntil t : State).settle) ∧
    (∀ o : Int, s.tb.st = .acquiring → s.tb.fwd = false → s.tb.ds.length = 3 → let sum := (s.tb.ds ++ [o]).sum
      let u := s.setWord64 Reg.TB_OFFSET (ofSigned 64 o)
      (∀ (k : Nat) (fs : List Nat) (ns : Nat), s.ptpSpaced k fs ns = { s with now := (s.ptpSpaced k fs ns).now } ∧
        ∀ y, (s.tb.sent.find? fun y => y.kind == k && (fs.isEmpty || y.fields == fs)) = some y → y.at' + ns ≤ (s.ptpSpaced k fs ns).now) ∧
      (sum.natAbs ≤ 4000 → s.tbMeasure o = u.tbTrack) ∧ (4000 < sum.natAbs → sum.natAbs ≤ 400000 → s.tbMeasure o = u.tbEnter .slewing) ∧
      (sum < -400000 → s.tbMeasure o = { u with tb := { u.tb with fwd := true, ds := [] } }) ∧
      (400000 < sum → sum ≤ 4000000000 → s.tbMeasure o = u.tbEnter .slewing) ∧
      (4000000000 < sum → s.tbMeasure o = (({ u with tb := { u.tb with due := true } } : State).tbEnter .slewing).raise Cause.STEP_BACK_DUE)) ∧
    (s.tb.fwd = true → exec .forwardStep s = .next ((s.stepTo s.refSecond (max 0 (-s.offset)) Fld.TB_STEPS_FORWARD).launchStep).settle) ∧
    (s.tb.back ≠ [] → s.tb.due = true → let u : State := { s with tb := { s.tb with back := [], timeEpoch := (s.tb.timeEpoch + 1) % 256 } }
      exec .stepBackApply s = .next ((s.tb.back.foldl (fun v q => v.complete q.1 q.2 St.OK 0 s.offset.toNat) (u.stepTo u.refSecond (-s.offset) Fld.TB_STEPS_BACK))).settle) ∧
    (∀ (sec : Nat) (k : Int) (f : Fld), f.off ≠ Reg.TB_LAST_STEP → f.off ≠ Reg.TB_LAST_STEP + 4 → let u := s.stepTo sec k f
      u.now = sec ∧ u.tb.st = .tracking ∧ u.tb.fwd = false ∧ u.tb.due = false ∧ u.word64 Reg.TB_LAST_STEP = ofSigned 64 k) ∧
    (∀ k : Int, let u := s.shiftTimes k
      u.hif.commits = (s.hif.commits.map fun c => { c with notAfter := if c.notAfter = 0 then 0 else mv k c.notAfter }) ∧ u.fwh.runs = s.fwh.runs.map (Run.shift k) ∧
      u.tb.holdStart = s.tb.holdStart.map (mv k) ∧ ∀ q, (u.swPort q).launches = (s.swPort q).launches) ∧
    (∀ (s0 : State) (w : List Byte), s0.Runs 0x0E n w d → let s := s0.starts n d
      (s.tb.due = false → exec (.timeStepBack n w) s0 = .next (s.complete n d St.OK).settle) ∧
      (s.tb.due = true → (rd d 8 8 : Int) < s.offset → exec (.timeStepBack n w) s0 = .next (s.refuse n d 1).settle) ∧
      (s.tb.due = true → s.offset ≤ (rd d 8 8 : Int) → exec (.timeStepBack n w) s0 = .next ({ s with tb := { s.tb with back := s.tb.back ++ [(n.val, d)] } } : State).settle))

/-- TIMED_SEND is checked in the order of R394; an entry is launched once its port is free at or after LAUNCH, or dropped (R394, R395, R396) -/
def Obligations.TimedFrames : Prop :=
  ∀ (n : Fin 64) (w d frame : List Byte) (p : Fin 6) (s0 s : State),
    (s0.Runs 0x0A n w d → let s := s0.starts n d
      let q := rd d 8 1
      let len := rd d 10 2
      q ≤ 5 → rd d 9 1 ≤ 7 → 60 ≤ len → len ≤ 9216 → len ≤ s.fget (Fld.SW_Pp_CFG_MAX_FRAME q) → hostAddr (rd d 24 8) = true →
      let full := 64 ≤ (s.swPort q).launches.length
      let far := s.now + 100000000000 < rd d 16 8
      let bad := s.fget Fld.TB_CONFIG_SEND_VALID_ONLY = 1 ∧ s.tb.quality = 2
      let e : LaunchEntry := ⟨n.val, d, slice frame 0 len, rd d 16 8⟩
      (full → exec (.timedSend n w frame) s0 = .next (s.complete n d St.FULL).settle) ∧
      (¬ full → far → exec (.timedSend n w frame) s0 = .next (s.refuse n d 1).settle) ∧
      (¬ full → ¬ far → bad → exec (.timedSend n w frame) s0 = .next (s.refuse n d 2).settle) ∧
      (¬ full → ¬ far → ¬ bad → s.hif.linkUp = false → exec (.timedSend n w frame) s0 = .next (s.endDesc n d).settle) ∧
      (¬ full → ¬ far → ¬ bad → s.hif.linkUp = true → rd d 16 8 + rd d 12 4 < s.now → exec (.timedSend n w frame) s0 =
        .next ((((s.bump Fld.TB_LAUNCH_LATE_COUNT).complete n d St.LATE 0 s.now)).raise Cause.LAUNCH_LATE (1 + 2 ^ 32 * q)).settle) ∧
      (¬ full → ¬ far → ¬ bad → s.hif.linkUp = true → s.now ≤ rd d 16 8 + rd d 12 4 → exec (.timedSend n w frame) s0 =
        .next (s.setSwPort q { s.swPort q with launches := addLaunch e (s.swPort q).launches }).settle)) ∧
    (∀ e r, (s.swPort p).launches = e :: r → let x := s.swPort p
      let at' := max (max e.launch x.freeAt) s.now
      (s.swUp p = true → s.swOn = true → at' ≤ e.launch + rd e.d 12 4 → exec (.launch p) s =
        .next (((((s.passUntil at').setSwPort p { x with launches := r }).sentFrame p at' e.frame).bump Fld.TB_LAUNCH_SENT_COUNT).complete e.qp e.d St.OK 0 at').settle) ∧
      (s.swUp p = false → exec (.launchDeadline p) s =
        .next (((((s.passUntil e.launch).setSwPort p { x with launches := r }).complete e.qp e.d St.FAULTED Cause.LAUNCH_LINK_DOWN)).raise Cause.LAUNCH_LINK_DOWN).settle) ∧
      (s.swUp p = true → e.launch + rd e.d 12 4 < max x.freeAt s.now → let u := (s.passUntil (e.launch + rd e.d 12 4)).setSwPort p { x with launches := r }
        exec (.launchDeadline p) s =
          .next ((((u.bump Fld.TB_LAUNCH_LATE_COUNT).complete e.qp e.d St.LATE 0 u.now)).raise Cause.LAUNCH_LATE (1 + 2 ^ 32 * p.val)).settle)) ∧
    (∀ (e : LaunchEntry) (l : List LaunchEntry), l.Pairwise (fun x y => x.launch ≤ y.launch) →
      (addLaunch e l).Pairwise (fun x y => x.launch ≤ y.launch) ∧
      addLaunch e l = (l.takeWhile fun x => decide (x.launch ≤ e.launch)) ++ e :: l.dropWhile fun x => decide (x.launch ≤ e.launch))

/-- Arrays are programmed and verified, products are computed and checked, the patrol finds cell errors, suspects are resolved, arrays are retired to the spare (R178, R185, R186, R187, R188, R189, R190, R195, R196) -/
def Obligations.ArrayCommands : Prop :=
  ∀ (n : Fin 64) (w d images : List Byte) (e m : Fin 16) (k : Fin 17) (row : Fin 512) (int4 : Bool) (input : List (BitVec 8)) (errHi errLo : List (Nat × Nat × Int)) (slots : List (List SlotReq)) (job : BitVec 16) (lo : Option (Fin 16))
    (diffs : List Int) (fires : Option Bool) (seen : PatrolSeen) (ok : Bool) (s0 s : State),
    (∀ c : Instr, (c = .programArrays n w images ∨ c = .verifyArrays n w images) → s0.Runs 0x04 n w d → let s := s0.starts n d
      rd d 8 1 ≤ 15 → namedArrays d ≠ [] → rd d 28 1 ≤ 1 →
      (rd d 28 1 = 0 → 16 ∉ namedArrays d) → hostAddr (rd d 16 8) = true → rd d 24 4 = Image.weightSize * (namedArrays d).length →
      let g := rd d 8 1
      let busy := ∃ a ∈ namedArrays d, (s.arr g a).state = .bound ∨ (s.arr g a).state = .programming
      let dead := ∃ a ∈ namedArrays d, (s.arr g a).state = .unusable
      (1 < s.sup.level → exec c s0 = .next (s.complete n d St.NOT_AVAILABLE).settle) ∧
      (s.sup.level ≤ 1 → busy → exec c s0 = .next (s.refuse n d 1).settle) ∧
      (s.sup.level ≤ 1 → ¬ busy → dead → exec c s0 = .next (s.refuse n d 2).settle) ∧
      (s.sup.level ≤ 1 → ¬ busy → ¬ dead → s.hif.linkUp = false → exec c s0 = .next (s.endDesc n d).settle) ∧
      (s.sup.level ≤ 1 → ¬ busy → ¬ dead → s.hif.linkUp = true → exec c s0 = .next ((({ s with progs := s.progs ++ [⟨n.val, d, 0, 0⟩] } : State).addItems g
        ((namedArrays d).zipIdx.map fun p => ⟨if rd d 28 1 = 0 then .program n.val d else .verify n.val d, p.1, slice images (p.2 * Image.weightSize) Image.weightSize⟩) false)).settle)) ∧
    (∀ i r, (s.eng e).prog = i :: r → let u := s.endItem e i ok
      ((u.operational = false ∨ u.sup.level ≤ 1) →
        exec (.arrayProgramDone e ok) s = .next (((u.setEng e { u.eng e with prog := r }).workOver i.what false).startItem e (r.length + 1)).settle) ∧
      (∀ q dd, i.what = .program q dd → i.arr < 16 →
        (ok = true → ((u.arr e i.arr).state = .loaded ∧ (u.arr e i.arr).crc = rd i.image 8 4)) ∧ (ok = false → (u.arr e i.arr).pendRetire = true ∧ (u.arr e i.arr).state ≠ .loaded))) ∧
    (let x := (input.take 512).map fun b => toSigned (if int4 then 4 else 8) (b.toNat % (if int4 then 16 else 256))
     let u := (s.setEng e { s.eng e with gated := false }).takeSlots ⟨e, m.val :: (lo.map Fin.val).toList, false⟩ (max 1 (MvmMath.allPhases (s.isFixed e) int4 x).length) slots
     let r := u.mvmOn e m int4 x errHi
     let q := (lo.map Fin.val).map fun k => (k, u.mvmOn e k int4 x errLo)
     let v := u.mvmArray e m r
     let w := (match q with | some (k, y) => v.mvmArray e k y | none => v).bump64 (Reg.ENG_n_MVMS e)
     let good := r.failed = none ∧ ∀ p, q = some p → p.2.failed = none
     let out := match q with | some (_, y) => (r.acc.zip y.acc).map fun (a, b) => MvmMath.combine a b | none => r.acc
     let z := w.setEng e { w.eng e with product := none }
     let run := exec (.mvm e m lo int4 input errHi errLo slots job) s
     (s.sup.budget = 0 → run = .next s.settle) ∧
     (s.sup.budget ≠ 0 → good → run = .next (w.setEng e { w.eng e with product := some out }).settle) ∧
     (s.sup.budget ≠ 0 → ¬ good → z.isFixed e = true → run = .next (z.withhold job.toNat (e.val / 8)).settle) ∧
     (s.sup.budget ≠ 0 → ¬ good → z.isFixed e = false → z.runOn e = none → run = .next z.settle) ∧
     (∀ y, s.sup.budget ≠ 0 → ¬ good → z.isFixed e = false → z.runOn e = some y →
       run = .next (z.tearDown y.ctx (some (y.id, Cause.CHECK_MISMATCH))).settle)) ∧
    (∀ at', s.patrolAt e = some at' → s.sup.budget ≠ 0 →
     let p := (s.eng e).phy k
     let read := (List.range 8).map fun g => ((List.range 64).map fun i => MvmMath.cell p.cells row (64 * g + i)).sum + diffs.getD g 0
     let bad := ((List.range 8).any fun g => read.getD g 0 != MvmMath.groupSum p.sums row g) || read.sum != p.rows.getD row 0
     let u := if fires = some false then (s.passUntil at').raise Cause.CHECK_LANE_FAULT else s.passUntil at'
     (k.val < 16 → (s.arr e k).onSpare = false → (s.arr e k).state ≠ .blank → (s.arr e k).state ≠ .programming → exec (.patrolRead e k row diffs fires) s =
       .next (if bad then ((u.bump (Fld.ENG_n_Am_ERRORS_PATROL e k)).raiseArr Cause.PATROL_CELL_ERROR e k).arrFailed e k else u).settle) ∧
     (k.val = 16 → (s.eng e).spare = .free → exec (.patrolRead e k row diffs fires) s =
       .next (if bad then ((u.setEng e { s.eng e with spare := .failed }).bump (Fld.ENG_n_Am_ERRORS_PATROL e 16)).raiseArr Cause.PATROL_CELL_ERROR e 16 else u).settle)) ∧
    ((s.arr e m).suspect = true → let b := (s.eng e).backing m
      let p := (s.eng e).phy b
      (p.finding seen = 0 → exec (.patrolResolve e m seen) s = .next ((s.cellError e b).endHandling 3 (256 * e.val + m.val)).settle) ∧
      (p.finding seen = 2 → exec (.patrolResolve e m seen) s = .next ((if (s.arr e m).second = true then s.arrFailed e m else
        s.setArr e m { s.arr e m with suspect := false }).endHandling 3 (256 * e.val + m.val)).settle) ∧
      (p.finding seen = 1 → let sums := p.readSums seen
        let rows := sums.map List.sum
        let x := (s.eng e).setPhy b { p with rows, sums, sumsCrc := crc32c (MvmMath.sumBytes rows sums) }
        exec (.patrolResolve e m seen) s =
          .next (((s.setEng e (x.setArr m { x.arr m with suspect := false })).raiseArr Cause.SUMS_REPAIRED e m).endHandling 3 (256 * e.val + m.val)).settle)) ∧
    (s0.Runs 0x12 n w d → let s := s0.starts n d
      rd d 8 1 ≤ 15 → rd d 9 1 ≤ 15 → rd d 10 1 ≤ 1 → let g := rd d 8 1
      let a := rd d 9 1
      ((s.eng g).spare ≠ .free → exec (.arrayRetire n w) s0 = .next (s.complete n d St.OK 0 2).settle) ∧
      ((s.eng g).spare = .free → rd d 10 1 = 0 →
        exec (.arrayRetire n w) s0 = .next ((s.setArr g a { s.arr g a with pendRetire := true }).complete n d St.OK 0 1).settle) ∧
      ((s.eng g).spare = .free → rd d 10 1 = 1 → (s.eng g).retiring.isSome = true → exec (.arrayRetire n w) s0 = .next (s.complete n d St.OK 0 2).settle) ∧
      (∀ r, (s.eng g).spare = .free → rd d 10 1 = 1 → (s.eng g).retiring = none → s.retireRefused g a = some r → exec (.arrayRetire n w) s0 = .next (s.refuse n d r).settle) ∧
      ((s.eng g).spare = .free → rd d 10 1 = 1 → (s.eng g).retiring = none → s.retireRefused g a = none → exec (.arrayRetire n w) s0 = .next (s.retireStart g a (some (n.val, d))).settle)) ∧
    (∀ y, (s.eng e).move = some y → (s.isFixed e = true → s.iterationRunning = false) → (s.isFixed e = false → s.arrayInUse e y.arr = false) →
      let u := if s.isFixed e = true then s.passUntil (s.boundaryAt s.now) else s
      let v := (u.setEng e { u.eng e with move := none }).backingMoved e y.arr y.crc 1
      exec (.retirementBackingMove e) s = .next (match y.desc with | some q => v.complete q.1 q.2 St.OK 0 0 | none => v).settle)

/-- SOLVE is refused, queued or started; the running solve ends as its conditions say and stages its result; the Truing store is written to the older copy (R338, R339, R342, R343, R344, R347, R349) -/
def Obligations.TruingCommands : Prop :=
  ∀ (n : Fin 64) (w d obs : List Byte) (t : SolveTrace) (ok : Bool) (s0 s : State),
    (s0.Runs 0x08 n w d → let s := s0.starts n d
      let k := rd d 8 2
      let x : Solve := { qp := n.val, d, obs, problem := (s.problem? k).getD [] }
      let out := 2 ≤ s.sup.level ∨ (k < 0x8000 ∧ s.fwh.image = [])
      (out → exec (.solve n w obs) s0 = .next (s.complete n d St.NOT_AVAILABLE).settle) ∧
      (∀ off, ¬ out → s.solveFault x = some off → exec (.solve n w obs) s0 = .next (s.malformed n d off).settle) ∧
      (¬ out → s.solveFault x = none → rd d 24 4 ≠ 0 → s.hif.linkUp = false → exec (.solve n w obs) s0 = .next (s.endDesc n d).settle) ∧
      (∀ r, ¬ out → s.solveFault x = none → (rd d 24 4 = 0 ∨ s.hif.linkUp = true) → s.solveRefused x = some r → exec (.solve n w obs) s0 = .next (s.refuse n d r).settle) ∧
      (¬ out → s.solveFault x = none → (rd d 24 4 = 0 ∨ s.hif.linkUp = true) → s.solveRefused x = none →
        exec (.solve n w obs) s0 = .next ((s.setSolves (s.tru.queue ++ [x])).startSolve (s.tru.queue.length + 1)).settle ∧
        (s.tru.queue = [] → s.problemOk k = true → let e := s.eng x.engine
          (s.setSolves [x]).startSolve 1 = s.setSolves [{ x with
            start := some s.now, x0 := (s.setSolves [x]).startParams x, backing := e.backing x.array, cycles := (e.phy (e.backing x.array)).cycles }]))) ∧
    (∀ x rest a reason, s.tru.queue = x :: rest → s.columnsRead x t = true → s.timesOk x t = true → s.solveOutcome x t = some (a, reason) → let start := x.start.getD s.now
      let u := s.passUntil (start + a.ns)
      let v := u.hostWrite (rd x.d 32 8) (solution x a (u.startCost x t) reason start u.now)
      let result := a.iters % 65536 + 65536 * reason + 2 ^ 32 * costF32 a.cost
      let next := fun w : State => (w.setSolves rest).startSolve (rest.length + 1)
      (reason = 1 → rd x.d 44 1 = 1 → let w := v.bump Fld.TRU_SOLVES_CONVERGED
        let p := w.stageSolve x a
        exec (.solveEnd t) s = .next (next (p.1.complete x.qp x.d p.2 0 (if p.2 = St.OK then result else 0))).settle) ∧
      (reason = 1 → rd x.d 44 1 ≠ 1 → exec (.solveEnd t) s = .next (next ((v.bump Fld.TRU_SOLVES_CONVERGED).complete x.qp x.d St.OK 0 result)).settle) ∧
      (reason = 2 → exec (.solveEnd t) s = .next (next (v.complete x.qp x.d St.OK 0 result)).settle) ∧
      (reason ≠ 1 → reason ≠ 2 → exec (.solveEnd t) s =
        .next (next (((v.bump Fld.TRU_SOLVES_FAILED).raise Cause.SOLVE_FAILED).complete x.qp x.d St.FAULTED Cause.SOLVE_FAILED result)).settle)) ∧
    (s.tru.dirty = true → let g := max s.tru.copyA.generation s.tru.copyB.generation + 1
      let c : TruCopy := { valid := true, generation := g, trims := s.allTrims, poses := s.tru.poses, wheels := s.allWheels }
      (ok = false → exec (.truingStoreWrite ok) s = .next (({ s with tru := { s.tru with dirty := false } } : State).raise Cause.STORE_WRITE_FAILED).settle) ∧
      (ok = true → s.tru.copyB.generation < s.tru.copyA.generation →
        exec (.truingStoreWrite ok) s = .next ({ s with tru := { s.tru with dirty := false, generation := g, copyB := c } } : State).settle) ∧
      (ok = true → s.tru.copyA.generation ≤ s.tru.copyB.generation →
        exec (.truingStoreWrite ok) s = .next ({ s with tru := { s.tru with dirty := false, generation := g, copyA := c } } : State).settle))

/-- Fixed-gear iterations start, pass checkpoints and end; variants and clock plans change; test iterations are asked for; a late decision is missed (R249, R279, R282, R283, R288, R291, R292, R293, R294, R314) -/
def Obligations.FixedGearEvents : Prop :=
  ∀ (n : Fin 64) (wd d : List Byte) (cN cS hand cycles : Word) (placedN placedS warn : Bool) (workN workS work : List GroupWork) (job : BitVec 16) (s0 s : State),
    (s0.Runs 0x01 n wd d → let s := s0.starts n d
      rd d 10 1 = 1 → rd d 8 2 = 0 → rd d 16 8 = 0 → rd d 32 8 = 0 → (rd d 40 8 ≠ 0 → anyAddr (rd d 40 8) = true ∧ 128 ≤ rd d 48 4) →
      (s.fget Fld.FXG_CONFIG_TEST_EN = 0 → exec (.testIterationRun n wd) s0 = .next (s.refuse n d 1).settle) ∧
      (s.fget Fld.FXG_CONFIG_TEST_EN ≠ 0 → (s.variantRuns = false ∨ s.fxg.halted = true) → exec (.testIterationRun n wd) s0 = .next (s.complete n d St.NOT_AVAILABLE).settle) ∧
      (s.fget Fld.FXG_CONFIG_TEST_EN ≠ 0 → s.variantRuns = true → s.fxg.halted = false →
        exec (.testIterationRun n wd) s0 = .next ({ s with fxg := { s.fxg with tests := s.fxg.tests ++ [(n.val, d)] } } : State).settle)) ∧
    (∀ v r, s.iterationRunning = false → (∀ c l, s.hif.commits = c :: l → c.boundary ≠ 1) → s.fxg.changePending = false → s.variantRuns = true → s.fxg.halted = false →
      s.fxg.resuming = false → s.fxg.variant = some v → let t := s.boundaryAt s.now
      (s.testReady = true → exec .iterationStart s = .next (s.iterStart (Image.testRegion s.fxg.image) t true).settle) ∧
      (s.testReady = false → s.startable t = some r → s.shapeOk r = true → exec .iterationStart s = .next (s.iterStart r t false).settle ∧
        ((s.iterStart r t false).fxg.iter = some { region := r, sample := (s.region r).held.id, tLast := (rd (s.region r).held.hdr 16 8), hdr := (s.region r).held.hdr, start := t, variant := v, paced := s.fxg.paced }) ∧ ((s.iterStart r t false).region r).started = true) ∧
      (s.testReady = false → s.startable t = some r → s.shapeOk r = false → exec .iterationStart s =
        .next ((((s.passUntil t).raise Cause.INPUT_SHAPE).freeRegion r).sampleMissed v (s.region r).held.id).settle)) ∧
    (∀ i c, s.fxg.iter = some i → (Image.checkpoints s.fxg.image i.variant)[i.next]? = some c → Image.pair s.fxg.image = false →
      (i.paced = true ∨ (placedN = true ∧ cN.toNat = Image.cCycle c)) →
      let p := s.passUntil (i.start + cyclesNs (Image.vPlan i.variant) (if i.paced then cN.toNat else Image.cCycle c))
      let u := if placedN then workN.foldl (fun v y => v.iterWork i y) p else p
      let run := exec (.checkpoint workN cN placedN workS cS placedS warn hand) s
      u.fxg.image = s.fxg.image → u.isWithheld (Image.cJob c) (Image.cEngine c / 8) (Image.cEngine c) = false →
      let w : State := { u with fxg := { u.fxg with iter := u.fxg.iter.map fun y => { y with
        next := y.next + 1, sigs := if Image.cDecision c then y.sigs ++ leBytes 4 (u.word (Reg.ENG_n_SIG_k (Image.cEngine c) (Image.cSlot c))) else y.sigs } } }
      ((i.test = true ∨ Image.cDecision c = false) → run = .next w.settle) ∧
      (i.test = false → Image.cDecision c = true → run = .next ((w.passUntil (w.now + min 20000 hand.toNat)).handOver i.variant i.sample (Image.cJob c) warn).settle)) ∧
    (∀ (j a b : Nat) (same : Bool),
      (s.isWithheld j 0 a = true → s.isWithheld j 1 b = true →
        s.pairOutcome j a b same = (((s.bump Fld.FXG_WITHHELD_BOTH).raiseIn Cause.BOTH_WITHHELD 6 j), false)) ∧
      (s.isWithheld j 0 a ≠ s.isWithheld j 1 b → s.pairOutcome j a b same = (((s.bump Fld.FXG_PAIR_EVENTS_SINGLE).raiseIn Cause.SINGLE_HALF 6 j), true)) ∧
      (s.isWithheld j 0 a = false → s.isWithheld j 1 b = false → same = true → s.pairOutcome j a b same = (s, true)) ∧
      (s.isWithheld j 0 a = false → s.isWithheld j 1 b = false → same = false →
        s.pairOutcome j a b same = ((((s.bump Fld.FXG_PAIR_EVENTS_MISMATCH).raiseIn Cause.PAIR_MISMATCH 6 j).withhold j 0).withhold j 1, false))) ∧
    (∀ i, s.fxg.iter = some i → Image.vCheckCount i.variant ≤ i.next → let u := s.iterEnd cycles.toNat work
      u.iterationRunning = false ∧ (let v := (u.commitAt 1 0).nextFixed
        exec (.iterationEnd cycles work) s = .next (if v.fxg.changePending = true then v.changeNow else v).settle)) ∧
    (s.iterationRunning = false → (∀ c l, s.hif.commits = c :: l → c.boundary ≠ 1) →
      (s.fxg.changePending = true → let v := (s.passUntil (s.boundaryAt s.now)).changeNow
        exec .variantChange s = .next v.settle ∧ v.sup.plan = levelPlan s.sup.level ∧ v.sup.budget = s.levelBudget s.sup.level ∧
        v.fxg.variant = (pickVariant s.fxg.image s.sup.level).map (·.1) ∧ v.fxg.paced = (pickVariant s.fxg.image s.sup.level).any (·.2) ∧ v.fxg.changePending = false)) ∧
    (s.fxg.resuming = true → s.mem.aboard = [] → s.sup.plan ≤ 2 → let v := (s.passUntil (s.boundaryAt s.now)).setTables s.sup.plan
      exec .planChangeResume s = .next ({ v with fxg := { v.fxg with resuming := false } } : State).settle) ∧
    (∀ l c r o t, s.fxg.cadence = l ++ c :: r → (∀ x ∈ l, x.sample ≠ c.sample ∧ ∀ y ∈ x.opened, y.1 ≠ job.toNat) → c.opened.find? (fun y => y.1 == job.toNat) = some (o, t) →
      let v := (s.fxg.iter.map (·.variant)).getD (s.fxg.variant.getD [])
      let u := s.passUntil (t + 1)
      let w := u.setCadence { c with opened := c.opened.filter (fun y => y.1 != job.toNat), missed := c.missed ++ [job.toNat] }
      exec (.decisionDeadline job) s = .next (w.decisionMissed v c.sample job.toNat).settle ∧
      (job.toNat ∉ backstops s.fxg.image v → w.decisionMissed v c.sample job.toNat = ((((w.raise Cause.DECISION_MISSED c.sample).bump Fld.CAD_MISSES_DECISION).setWord64 Reg.CAD_LAST_MISS
        c.sample).setWord Reg.CAD_LAST_JOB (65536 * job.toNat + 1))))

/-- RUN is admitted or turned away; tasks end, are pre-empted, saved and restored; faults and CONTEXT_KILL tear contexts down; a late run is missed (R298, R300, R302, R304, R305, R307, R309, R310, R312, R313) -/
def Obligations.FreewheelEvents : Prop :=
  ∀ (n : Fin 64) (wd d : List Byte) (e : Fin 16) (work : List GroupWork) (report : Bool) (ns : Word) (content : List Byte) (what : Fin 3) (ctx : Fin 32) (idx : Fin 16) (s0 s : State),
    (s0.Runs 0x01 n wd d → let s := s0.starts n d
      rd d 10 1 ≠ 1 → let img := s.fwh.image
      let j := (Image.job? img (rd d 8 2)).getD []
      let run := exec (.run n wd) s0
      (s.fwhOn = false → run = .next (s.complete n d St.NOT_AVAILABLE).settle) ∧
      (s.fwhOn = true →
        (∀ off, runField img d = some off → run = .next (s.malformed n d off).settle) ∧
        (runField img d = none →
          (Image.jBind j ≠ 0xFF → run = .next (s.refuse n d 1).settle) ∧
          (Image.jBind j = 0xFF → s.runContext (rd d 12 1) = none → run = .next (s.refuse n d 2).settle) ∧
          (∀ c, Image.jBind j = 0xFF → s.runContext (rd d 12 1) = some c →
            (16 ≤ (s.ctxRuns c).length → run = .next (s.refuse n d 3).settle) ∧
            ((s.ctxRuns c).length < 16 → ((s.tearing c).isSome = true ∨ s.ctxOut c = true) → run = .next (s.refuse n d 4).settle) ∧
            ((s.ctxRuns c).length < 16 → s.tearing c = none → s.ctxOut c = false → let u := s.admitRun (rd d 8 2) c (rd d 11 1) (rd d 16 8) (some (n.val, d)) (s.runLimit d j)
              (s.now ≤ s.runLimit d j → run = .next u.settle) ∧
              (∀ r, s.runLimit d j < s.now → u.fwh.runs.getLast? = some r → run = .next ((u.jobMissed r.sample r.job).endRun r St.DEADLINE_MISSED).settle)))))) ∧
    (∀ r i since, s.runningOn e = some (r, i, since) →
      (s.now ≤ r.deadline → s.taskWaits r i e = false → ∀ u q, s.taskWorks r.id i (work.map fun y => { y with engine := e }) = (u, none) → u.run? r.id = some q → let z : Run := { q.setTask i .ended with report := q.report || report }
        let rg := chainRegions z.image z.job (Image.tGroup (z.recs.getD i []))
        let v := (u.putRun z).clearArrivals true fun a => rg.contains (Image.aRegion a) && Image.aEngine a == e
        let w : State := { v with fwh := { v.fwh with taskEnded := true } }
        exec (.taskEnd e work report) s = .next (if (z.tasks.all fun t => t == .ended) = true then w.finishRun z else w).settle) ∧
      (s.now ≤ r.deadline → s.taskWaits r i e = false → ∀ u c q, s.taskWorks r.id i (work.map fun y => { y with engine := e }) = (u, some c) → u.run? r.id = some q → exec (.taskEnd e work report) s = .next (u.runFault q c).settle) ∧
      (∀ x f, s.preemptor e = some x → s.fget Fld.FWH_CONFIG_PREEMPT_EN ≠ 0 → s.fget Fld.FWH_SAVE_FRAMES_FRAMES ≠ 0 → let u := s.passUntil (since + 1000 * s.fget Fld.FWH_CONFIG_MIN_RUN_US)
        ((List.range (s.fget Fld.FWH_SAVE_FRAMES_FRAMES)).find? fun f => !s.fwh.frames.contains f) = some f → let v := (u.bump64 Reg.FWH_PREEMPTIONS).putRun (r.setTask i (.saving e f))
        exec (.preemption e) s = .next ({ v with fwh := { v.fwh with frames := v.fwh.frames ++ [f], xfers := v.fwh.xfers ++ [⟨false, e.val, f, r.id, i, u.now⟩] } } : State).settle)) ∧
    (∀ x r, s.xferOn e false = some x → s.run? x.run = some r → let u := (s.passUntil (x.since + max xferMin ns.toNat)).xferTook (max xferMin ns.toNat)
      let b := slice content 0 frameContent
      let v := u.memWrite false (u.frameBase x.frame) (frameHeader r e (Image.tIndex (r.recs.getD x.task [])) u.now b ++ b)
      exec (.saveComplete e ns content) s =
        .next ((({ v with fwh := { v.fwh with xfers := v.fwh.xfers.filter fun y => y != x } } : State).putRun (r.setTask x.task (.saved e x.frame)))).settle) ∧
    (∀ x r, s.xferOn e true = some x → s.run? x.run = some r → let u := (s.passUntil (x.since + max xferMin ns.toNat)).xferTook (max xferMin ns.toNat)
      let base := u.frameBase x.frame
      let h := u.dramRead base 64
      let ok := rd h 0 4 = 0x53465743 ∧ rd h 4 1 = r.ctx ∧ rd h 5 1 = e.val ∧ u.poisoned base (64 + frameContent) = false ∧
        rd h 12 4 = crc32c (h.drop 16 ++ u.dramRead (base + 64) frameContent)
      (ok → let v : State := { u with fwh := { u.fwh with
        xfers := u.fwh.xfers.filter (fun y => y != x), frames := u.fwh.frames.filter fun f => f != x.frame } }
        exec (.restoreComplete e ns) s = .next ((v.showTask r x.task e).putRun (r.setTask x.task (.running e u.now))).settle) ∧
      (¬ ok → exec (.restoreComplete e ns) s = .next (((u.raiseIn Cause.SAVE_CORRUPT 7 r.ctx).tearDown r.ctx (some (r.id, Cause.SAVE_CORRUPT)))).settle)) ∧
    (∀ r, s.runOn e = some r → let code := if what = 0 then Cause.TASK_FAULT else if what = 1 then Cause.NO_WINDOW else Cause.FIXED_WRITE
      exec (.taskFault e what) s = .next (((s.raiseIn code 7 r.ctx).tearDown r.ctx (some (r.id, code)))).settle) ∧
    (∀ t, s.tearing ctx = some t → exec (.teardownComplete ctx) s =
      .next (t.kills.foldl (fun v k => v.complete k.1 k.2 St.OK 0 t.stopped) ((s.setTear ctx none).endHandling 7 ctx)).settle) ∧
    (s0.Runs 0x0D n wd d → rd d 8 1 ≤ 31 → let s := s0.starts n d
      let c := rd d 8 1
      let jobs := (s.ctxRuns c).map (·.job)
      let u := s.renumber fun j => jobs.contains j || (Image.job? s.fwh.image j).any fun x => Image.jContext x == c && Image.jBind x != 0xFF
      (∀ t, s.tearing c = some t → exec (.contextKill n wd) s0 = .next (u.setTear c (some { t with kills := t.kills ++ [(n.val, d)] })).settle) ∧
      (s.tearing c = none → s.ctxRuns c = [] → exec (.contextKill n wd) s0 = .next (u.complete n d St.OK).settle) ∧
      (s.tearing c = none → s.ctxRuns c ≠ [] → let v := (u.raise Cause.CONTEXT_KILLED).tearDown c none
        exec (.contextKill n wd) s0 = .next (v.setTear c ((v.tearing c).map fun t => { t with kills := t.kills ++ [(n.val, d)] })).settle)) ∧
    (∀ r, (s.ctxRuns ctx)[idx.val]? = some r → r.deadline ≠ noDeadline → r.missed = false → let u := (s.passUntil (r.deadline + 1)).jobMissed r.sample r.job
      (r.continues = true → exec (.jobDeadline ctx idx) s = .next (u.putRun { r with missed := true }).settle) ∧
      (r.continues = false → exec (.jobDeadline ctx idx) s = .next (u.endRun { r with written := 0 } St.DEADLINE_MISSED).settle))

/-- IHLEX_PUSH is checked, then sends tiles, a doorbell or a barrier join; the oldest run of a context sends its pieces; a barrier that is not released ends (R326, R327, R330, R410, R415, R418, R419) -/
def Obligations.IhlexSending : Prop :=
  ∀ (n : Fin 64) (wd d data : List Byte) (ctx : Fin 32) (place : BitVec 64) (s0 s : State),
    (s0.Runs 0x10 n wd d → let s := s0.starts n d
      let dest := rd d 8 2
      let addr := rd d 24 8
      (∀ c : Instr, (c = .ihlexTilePush n wd data ∨ c = .remoteDoorbellPush n wd ∨ c = .hostBarrierJoin n wd) →
        (s.ihxOn = false → exec c s0 = .next (s.complete n d St.NOT_AVAILABLE).settle) ∧
        (∀ off, s.ihxOn = true → pushFault d = some off → exec c s0 = .next (s.malformed n d off).settle) ∧
        (s.ihxOn = true → pushFault d = none → dest ≠ s.moduleId → s.route dest = 0 →
          exec c s0 = .next ((s.raise Cause.IHX_NO_ROUTE).complete n d St.FAULTED Cause.IHX_NO_ROUTE).settle)) ∧
      (s.ihxOn = true → pushFault d = none → (dest = s.moduleId ∨ s.route dest ≠ 0) →
        (rd d 10 1 = 0 → let src := rd d 16 8
          let off := bits src 40 0
          let b := if bitOn src 63 = true then s.dramRead off (rd d 12 4) else slice data 0 (rd d 12 4)
          (bitOn src 63 = false → s.hif.linkUp = false → exec (.ihlexTilePush n wd data) s0 = .next (s.endDesc n d).settle) ∧
          ((bitOn src 63 = false → s.hif.linkUp = true) → (bitOn src 63 = true → s.accessFault false false off (rd d 12 4) = none ∧ s.poisoned off (rd d 12 4) = false) →
            (dest ≠ s.moduleId → let fs := tilesOf n d addr (b.length + 1) b
              exec (.ihlexTilePush n wd data) s0 =
                .next (({ s with ihx := { s.ihx with pushes := s.ihx.pushes ++ [⟨n.val, d, dest, fs.length, 0, 0⟩] } } : State).ihxQueue dest fs).settle) ∧
            (dest = s.moduleId → s.ihxMayWrite addr b.length = true →
              exec (.ihlexTilePush n wd data) s0 = .next ((s.memWriteBy 0 false (bits addr 40 0) b).complete n d St.OK 0 b.length).settle) ∧
            (dest = s.moduleId → s.ihxMayWrite addr b.length = false →
              exec (.ihlexTilePush n wd data) s0 = .next (((s.raise Cause.IHX_BAD_ADDR).complete n d St.FAULTED Cause.IHX_REMOTE_REJECT).raise Cause.IHX_REMOTE_REJECT).settle)) ∧
          (∀ c, bitOn src 63 = true → s.accessFault false false off (rd d 12 4) = some c →
            exec (.ihlexTilePush n wd data) s0 = .next ((s.raise c).complete n d St.FAULTED c).settle)) ∧
        (rd d 10 1 = 1 → dest ≠ s.moduleId → exec (.remoteDoorbellPush n wd) s0 =
          .next (({ s with ihx := { s.ihx with pushes := s.ihx.pushes ++ [⟨n.val, d, dest, 1, 0, 0⟩] } } : State).ihxQueue dest
            [{ type := 3, src := .push n d, addr, value := rd d 32 4 }]).settle) ∧
        (rd d 10 1 = 1 → dest = s.moduleId → s.ihxMayWrite addr 4 = true →
          exec (.remoteDoorbellPush n wd) s0 = .next ((s.memWriteBy 0 false (bits addr 40 0) (leBytes 4 (rd d 32 4))).complete n d St.OK).settle) ∧
        (rd d 10 1 = 2 → let id := rd d 36 2
          let g := s.fwh.hostGens.get (fun _ => 0) id + 1
          exec (.hostBarrierJoin n wd) s0 = .next (({ s with fwh := { s.fwh with
            hostGens := s.fwh.hostGens.put (fun _ => 0) id g, hostWaits := s.fwh.hostWaits ++ [⟨n.val, d, id, g, dest, s.now⟩] } } : State).joinAt dest id g (rd d 38 2) 0xFFFF).settle))) ∧
    (∀ r l p g, s.ctxRuns ctx = r :: l → State.phaseDue r = some p → r.region? p = some g → let u := s.putRun { r with sent := r.sent ++ [Image.phNum p] }
      let a := if r.members.isEmpty then 0 else r.members.idxOf s.moduleId
      exec (.pieceSend ctx place) s = .next ((List.range (max 1 r.members.length)).foldl (fun v k => v.sendPiece r p g a k (u.heldShards p a place)) u).settle) ∧
    (∀ r l t, s.ctxRuns ctx = r :: l → r.joinedAt = some t → r.released = false → r.state = .active → let u := s.passUntil (t + s.barrierNs)
      exec (.barrierTimeout (some ctx)) s =
        .next (((u.bump Fld.FWH_MAP_ERRORS_TIMEOUTS).raise Cause.BARRIER_TIMEOUT).endRun r St.FAULTED Cause.BARRIER_TIMEOUT).settle) ∧
    (∀ h l, s.fwh.hostWaits = h :: l → let u := ((s.passUntil (h.joinedAt + s.barrierNs)).bump Fld.FWH_MAP_ERRORS_TIMEOUTS).raise Cause.BARRIER_TIMEOUT
      exec (.barrierTimeout none) s = .next (({ u with fwh := { u.fwh with hostWaits := l } } : State).complete h.qp h.d St.FAULTED Cause.BARRIER_TIMEOUT).settle)

/-- Received Ihlex frames act by their type, and the timers of peers send acknowledgements, retransmissions and hellos, declare peers lost and release slots (R409, R412, R413, R414, R415, R416, R417) -/
def Obligations.IhlexReceiving : Prop :=
  ∀ (b : List Byte) (peer : Fin 1024) (s : State),
    (s.ihxOn = true → let src := bits (rd b 2 2) 9 0
      let seq := rd b 8 4
      let addr := rd b 16 8
      let got := { s.peer src with lastRx := s.now }
      (ihxWhole b = true → src ≠ s.moduleId → bits (rd b 4 2) 9 0 = s.moduleId →
        let u := if s.isLost src = true then (((s.setPeer src got).setLost src false).raise Cause.IHX_PEER_BACK).msix 67 else s.setPeer src got
        s.ihxReceive b = (u, some src) ∧
        (rd b 1 1 = 1 → rd b 24 2 = 0xFFFF → let pay := b.drop 48
          (u.ihxMayWrite addr pay.length = true → exec (.ihlexTile b) s = .next ((u.memWriteBy 1 false (bits addr 40 0) pay).rxSeq src seq false).settle) ∧
          (u.ihxMayWrite addr pay.length = false → exec (.ihlexTile b) s = .next ((u.raise Cause.IHX_BAD_ADDR).rxSeq src seq true).settle)) ∧
        (rd b 1 1 = 3 → let pay := slice b 40 4
          (u.ihxMayWrite addr pay.length = true → exec (.ihlexDoorbell b) s = .next ((u.memWriteBy 1 false (bits addr 40 0) pay).rxSeq src seq false).settle) ∧
          (u.ihxMayWrite addr pay.length = false → exec (.ihlexDoorbell b) s = .next ((u.raise Cause.IHX_BAD_ADDR).rxSeq src seq true).settle)) ∧
        (rd b 1 1 = 2 → exec (.ihlexAck b) s = .next (u.ackArrives src b).settle) ∧
        (rd b 1 1 = 4 → exec (.ihlexJoin b) s = .next (u.coordJoin src (rd b 36 2) (rd b 28 4) (rd b 38 2)).settle) ∧
        (rd b 1 1 = 5 → exec (.ihlexRelease b) s = .next (u.released src (rd b 36 2) (rd b 28 4)).settle) ∧
        (rd b 1 1 = 6 → exec (.ihlexHello b) s = .next u.settle)) ∧
      (ihxWhole b = false → dueAgain s.now s.ihx.badAt 1000000000 = false → exec (.ihlexHello b) s = .next (s.bump Fld.IHX_RX_BAD_COUNT).settle)) ∧
    (∀ seq, let p := s.peer peer
      seqAfter seq p.rxNext = 0 → p.rxAbove = [] → p.rejects = [] → p.rxCount < 7 →
      s.rxSeq peer seq false = s.setPeer peer { p with rxNext := seqNext p.rxNext, rxCount := p.rxCount + 1, ackDue := true, rxAt := s.now }) ∧
    ((s.peer peer).ackDue = true → s.ihxOn = true → exec (.ackTimer peer) s =
      .next ((s.passUntil ((s.peer peer).rxAt + 20000)).sendAck peer (s.peer peer).rxNext false).settle) ∧
    (∀ f, oldestSent (s.peer peer).unacked = some f → s.ihxOn = true → let u := s.passUntil (f.sentAt + 1000 * s.fget Fld.IHX_CONFIG_RTO_US)
      (f.tries ≤ s.fget Fld.IHX_CONFIG_RETRIES → exec (.retransmitTimeout peer) s = .next (u.resend peer f).settle) ∧
      (s.fget Fld.IHX_CONFIG_RETRIES < f.tries → exec (.retransmitTimeout peer) s = .next (u.peerLost peer).settle)) ∧
    (s.monitored peer = true →
      exec (.helloTimer peer) s =
        .next ((s.passUntil ((s.peer peer).lastTx + 1000000 * s.fget Fld.IHX_LIVENESS_HELLO_MS)).ihxSend 6 peer { image := s.imageLow } []).settle ∧
      exec (.peerLostTimeout peer) s = .next ((s.passUntil ((s.peer peer).lastRx + 1000000 * s.fget Fld.IHX_LIVENESS_LOST_MS)).peerLost peer).settle) ∧
    ((s.peer peer).slot = true → (s.peer peer).unacked = [] → (s.peer peer).wait = [] →
      let u := (s.passUntil ((s.peer peer).idleSince + 1000000)).setPeer peer { s.peer peer with slot := false }
      (s.ihx.slotWait = [] → exec (.peerSlotRelease peer) s = .next u.settle) ∧
      (∀ x l, s.ihx.slotWait = x :: l → exec (.peerSlotRelease peer) s = .next (({ u with ihx := { u.ihx with slotWait := l } } : State).pumpAll x).settle))

/-- Chainring messages, chain timeouts, scrubs and DRAM temperatures; JOURNAL_READ returns records or region bytes (R77, R245, R251, R252, R253, R264, R265, R272, R447) -/
def Obligations.MemoryAndJournal : Prop :=
  ∀ (n : Fin 64) (wd d : List Byte) (stop : Fin 30) (issued : List RingMsg) (cycles : Word) (code : Fin 4) (error : Fin 3) (dram merge : List (Fin 68)) (c : Consumer) (ch : Fin 8)
    (errors : List (BitVec 29 × List (Fin 68))) (late ended : Bool) (range : Fin 3) (s0 s : State),
    (s.ringOn = true → s.mem.claim? stop = none → let u := s.ringSync.ringTo (s.fget Fld.CRG_CONFIG_STARVE + 512) (fun v => (v.mem.claim? stop).isSome)
      exec (.starveClaim stop) s = .next u.settle) ∧
    (∀ (k ring t : Nat) (w : Waiting), s.mem.occupied (ringName s.mem.folded ring k) (carAt s.mem.folded ring k t) = true → s.mem.oldest k = some w →
      bitOn (s.mem.slot ring (slotAt ring k t)) 15 = false → s.fget Fld.CRG_CONFIG_STARVE ≤ w.waited → ringFor s.mem.folded w.src w.dst = ring → let car := (ringName s.mem.folded ring k,
        carAt s.mem.folded ring k t)
      (∀ x ∈ s.mem.claims, x.car ≠ some car) → s.mem.claim? k = none → s.stopCycle true t k ring =
        ({ s with mem := { s.mem with claims := s.mem.claims ++ [{ stop := k, car := some car }] } } : State).bump Fld.CRG_CLAIMS_COUNT) ∧
    (s.ringOn = true → let v := (s.ringSync.issue issued).ringTo cycles.toNat (fun _ => false)
      let run := exec (.carriageDelivery issued cycles code error dram merge) s
      (v.mem.arrived = none → run = .next v.settle) ∧
      (∀ a, v.mem.arrived = some a → run = .next ((({ v with mem := { v.mem with aboard := v.mem.aboard.erase a } } : State).delivered a code error dram merge)).settle)) ∧
    (∀ a : Aboard, let v := if stopHalf a.src = stopHalf a.dst then s else s.bump64 (if stopHalf a.src = 0 then Reg.CRG_STEM_N2S else Reg.CRG_STEM_S2N)
     let got := s.delivered a code error dram merge
     (code = 3 → got = v.raise Cause.CRG_HEADER_ERROR) ∧
     (code = 0 → a.msg.request = none → got = v) ∧
     (code = 1 → a.msg.request = none → got = (v.bump Fld.CRG_ERRORS_CORRECTED).raise Cause.CRG_CORRECTED) ∧
     (code = 2 → a.msg.request = none → got = (v.bump Fld.CRG_ERRORS_POISONED).consumerFails Cause.CRG_POISON a.msg.consumer) ∧
     (∀ r, code = 0 → a.msg.request = some r → a.msg.back = false → let looked := v.cached && (v.windowMode (64 * r.line.toNat) == 1 || v.windowMode (64 * r.line.toNat) == 2)
       (r.write = true → v.windowMode (64 * r.line.toNat) = 3 → v.writesFixed a.msg.unit = false → v.dirtyError r error = false → got = v.consumerFails Cause.FIXED_WRITE a.msg.consumer) ∧
       ((r.write = false ∨ v.windowMode (64 * r.line.toNat) ≠ 3 ∨ v.writesFixed a.msg.unit = true) → v.dirtyError r error = false →
         got = (v.cacheRequest a.msg.unit r error merge).dramServes r a.msg.fixed (v.isHit r && looked) looked dram))) ∧
    (∀ (u : RingUnit) (r : CacheRequest), s.cached = true → (s.windowMode (64 * r.line.toNat) = 1 ∨ s.windowMode (64 * r.line.toNat) = 2) → unitL1 u r = none →
      let m := if r.write = true then s.mem.dropLine r.line.toNat else s.mem
      (∀ x, s.mem.llc? r.line.toNat = some x → s.isHit r = true → s.cacheRequest u r 0 merge = ({ s.bump64 (Reg.LLC_CLASSk_HITS (unitClass u r)) with mem := m } : State).llcUse x r) ∧
      (s.mem.llc? r.line.toNat = none → s.cacheRequest u r 0 merge = ({ s.bump64 (Reg.LLC_CLASSk_MISSES (unitClass u r)) with mem := m } : State).allocate u r merge)) ∧
    (∀ (u : RingUnit) (r : CacheRequest) (w : Nat), let ways := s.fget (Fld.LLC_CLASSk_WAYS_WAYS (unitClass u r))
      let h := s.llcHome r.line.toNat
      (ways = 0 → s.allocate u r merge = s) ∧
      (((Image.windowAt s.mem.layout (64 * r.line.toNat)).any fun x => Image.wNoAlloc (Image.window s.mem.layout x)) = false → w < 16 → bitOn ways w = true →
        (∀ x ∈ s.mem.llc, ¬ (x.home = h ∧ x.way = w)) → (∀ v, v < w → bitOn ways v = true → ∃ x ∈ s.mem.llc, x.home = h ∧ x.way = v) →
        let b := if r.write = true then r.bytes.toNat else 2 ^ 64 - 1
        (s.allocate u r merge).mem.llc = s.mem.llc ++ [{ line := r.line.toNat, home := h, way := w, valid := b, dirty := if r.write = true then b else 0 }])) ∧
    (s.mem.folded = false → let v := s.foldStem
      v.mem.folded = true ∧ v.mem.slotTable = [] ∧ ∀ a ∈ v.mem.waiting, stopHalf a.src = stopHalf a.dst) ∧
    (exec (.chainTimeout c) s = .next ((s.raiseFor Cause.CHAIN_TIMEOUT c (requesterStop c)).consumerActs Cause.CHAIN_TIMEOUT c).settle ∧
      ∀ e j, c = .fixedGear e j → exec (.chainTimeout c) s = .next ((s.raiseIn Cause.CHAIN_TIMEOUT 5 (e.val / 8) (engineStop e)).withhold j.toNat (e.val / 8)).settle) ∧
    (s.ringOn = true → (s.blockFor ch false).isSome = true → let u := errors.foldl (fun v x => v.scrubError ch x) s
     let since := (s.mem.scrub ch).since
     let period := s.fget Fld.MEM_CONFIG_SCRUB_H * 3600000000000
     let run := exec (.scrubPass ch errors late ended) s
     (late = false → ended = false → run = .next u.settle) ∧
     (late = false → ended = true → ∀ x, u.mem.scrub ch = x → run = .next (((u.bump Fld.MEM_SCRUB_PASSES_COUNT).newPeriod ch).setScrub ch { since := if x.late = true then u.now else since + period }).settle) ∧
     (late = true → ended = false → (s.mem.scrub ch).late = false →
       run = .next ((((u.passUntil (since + period)).raise Cause.SCRUB_LATE).newPeriod ch).setScrub ch { since, late := true }).settle)) ∧
    (∃ t : State, exec (.dramOvertemp ch range) s = .next (if range = 2 then t.raise Cause.DRAM_OVERTEMP else t).settle ∧ t = { s with regs := t.regs } ∧
      ∀ k, k < 8 → bitOn (t.fget Fld.MEM_STATUS_HOT) k = (if k = ch.val then decide (range ≠ 0) else bitOn (s.fget Fld.MEM_STATUS_HOT) k)) ∧
    (s0.Runs 0x11 n wd d → let s := s0.starts n d
      let r := rd d 8 1
      let first := rd d 16 8
      let run := exec (.journalRead n wd) s0
      (s.jrn.failed = true → run = .next (s.complete n d St.NOT_AVAILABLE).settle) ∧
      (s.jrn.failed = false →
        (3 < r → run = .next (s.malformed n d 8).settle) ∧
        (r < 3 → regionSize r ≤ first → run = .next (s.malformed n d 16).settle) ∧
        (r ≤ 3 → (r < 3 → first < regionSize r) → hostAddr (rd d 32 8) = false → run = .next (s.malformed n d 32).settle) ∧
        (r = 3 → hostAddr (rd d 32 8) = true → let good := s.jrn.ring.filter fun x => x.crcOk
          let out := (good.filter fun x => decide (first ≤ x.seq)).take (min (rd d 24 4) (rd d 28 4 / 64))
          (∀ x, good.head? = some x → x.seq ≤ first → let next := (out.getLast?).elim first fun y => y.seq + 1
            run = .next ((s.hostWrite (rd d 32 8) (out.flatMap JrnRec.bytes)).complete n d St.OK 0 (out.length + 2 ^ 32 * (next % 2 ^ 32))).settle) ∧
          (∀ x, good.head? = some x → first < x.seq → let next := (out.getLast?).elim x.seq fun y => y.seq + 1
            run = .next ((s.hostWrite (rd d 32 8) (out.flatMap JrnRec.bytes)).complete n d St.OK 0 (out.length + 2 ^ 31 + 2 ^ 32 * (next % 2 ^ 32))).settle)) ∧
        (r < 3 → first < regionSize r → hostAddr (rd d 32 8) = true → let k := min (min (rd d 24 4) (rd d 28 4)) (regionSize r - first)
          ∃ b, run = .next ((((s.useFree k).hostWrite (rd d 32 8) b).complete n d St.OK 0 (k + 2 ^ 32 * (first + k)))).settle ∧ b.length = k ∧
            ∀ i v, i < k → partByte (s.jrn.parts r) (first + i) = some v → b[i]? = some v)))

/-- CMP_LOAD lists entries by the rules of acceptance; samples move a channel and its entries; standstill, settling, marks, signal faults and switches (R353, R355, R356, R359, R360, R362, R364, R366, R374) -/
def Obligations.EncoderEvents : Prop :=
  ∀ (n : Fin 64) (wd d buf : List Byte) (ch : Fin 4) (delta : Int) (frac : BitVec 8) (input : Fin 4) (rising : Bool) (t : BitVec 64) (s0 s : State),
    (s0.Runs 0x09 n wd d → let s := s0.starts n d
      let k := rd d 8 1
      let mode := rd d 9 1
      let m := rd d 10 2
      let es := cmpEntries buf m
      let run := exec (.cmpLoad n wd buf) s0
      k ≤ 3 → mode ≤ 2 → m ≤ 8192 → (mode = 2 → m = 0) → hostAddr (rd d 16 8) = true →
      ((s.encMode k = 0 ∨ s.spokeOn = false) → run = .next (s.complete n d St.NOT_AVAILABLE).settle) ∧
      (s.encMode k ≠ 0 → s.spokeOn = true → m ≠ 0 → s.hif.linkUp = false → run = .next (s.endDesc n d).settle) ∧
      (s.encMode k ≠ 0 → s.spokeOn = true → (m ≠ 0 → s.hif.linkUp = true) →
        ((∃ e ∈ es, badEntry e = true) → run = .next (s.malformed n d 16).settle) ∧
        ((∀ e ∈ es, badEntry e = false) →
          ((s.chan k).fault = true → let u := (s.cmpDrops k m).raise Cause.CMP_DISCARDED
            run = .next (u.complete n d St.OK 0 (u.cmpResult k 0 0)).settle) ∧
          ((s.chan k).fault = false → let p := s.sortEntries k es
            let held := if mode = 0 then (s.chan k).entries else []
            (8192 < held.length + p.1.length → run = .next (s.complete n d St.FULL).settle) ∧
            (held.length + p.1.length ≤ 8192 → ∃ u v, run = .next (v.complete n d St.OK (if p.2.1 = 0 then 0 else Cause.LATE_ACTUATION) (v.cmpResult k p.1.length p.2.1)).settle ∧
              v = ((List.range p.2.2).foldl (fun w _ => (w.cmpDrops k 1).raise Cause.CMP_NO_SCALE) u).raiseLate k p.2.1 ∧
              u = (if mode = 0 then s else s.cmpDrops k (s.chan k).entries.length).setChan k { s.chan k with entries := held ++ p.1 }))))) ∧
    (s.spokeOn = true → s.encMode ch ≠ 0 → (s.chan ch).fault = false → ∃ u : State, (exec (.encoderSample ch delta frac) s = .next (u.encFast ch).settle ∨
        exec (.encoderSample ch delta frac) s = .next ((u.endCounts ch).encFast ch).settle) ∧ u = { s with now := u.now, spk := { s.spk with chans := u.spk.chans } } ∧
      u.now = max s.now ((s.chan ch).at' + 100) ∧ (u.chan ch).at' = u.now ∧
      (let c := (if s.encMode ch = 2 then 1024 * delta else delta) * (if s.fget (Fld.SPK_ENCn_CFG_INVERT ch) = 1 then -1 else 1)
       (u.chan ch).pos = (s.chan ch).pos + c ∧ (u.chan ch).entries = (s.chan ch).entries.map (fun e => { e with travel := e.travel + c.natAbs })) ∧
      ∀ j, j ≠ ch.val → u.chan j = s.chan j) ∧
    ((s.chan ch).st ≠ .standstill → let u := s.passUntil ((s.chan ch).tA + 10000000 * s.fget (Fld.SPK_ENCn_CFG_STANDSTILL_MS ch))
      let c := s.chan ch
      exec (.standstill ch) s = .next ((u.setChan ch { c with st := .standstill, speed := 0, pRef := c.pA, nearP := c.pos, nearT := c.at' }).endCounts ch).settle) ∧
    ((s.chan ch).st = .settling → let w := 1000 * s.fget (Fld.SPK_ENCn_CFG_WINDOW ch)
      exec (.settlingEnd ch) s = .next ((s.passUntil ((s.chan ch).exitT + 100 * w)).setChan ch { s.chan ch with st := .moving, speed := (s.chan ch).windowed w }).settle) ∧
    (s.fget (Fld.SPK_ENCn_CFG_REF_MODE ch) = 1 → s.spokeOn = true → s.encMode ch ≠ 0 → (s.chan ch).fault = false →
      (s.chan ch).phase = none → let u := s.setChan ch { s.chan ch with phase := some ((s.chan ch).pos % (s.refPeriod ch : Int)).toNat }
      exec (.referenceMark ch) s = .next (if (s.chan ch).coarse = true then (u.setChan ch { u.chan ch with coarse := false }).raise Cause.ENC_REQUALIFIED 0 else u).settle) ∧
    (s.spokeOn = true → s.encMode ch ≠ 0 → (s.chan ch).fault = false →
      let u := ((s.cmpDrops ch (s.chan ch).entries.length).stopGens ch).setChan ch { s.chan ch with fault := true, faultAt := s.now, speed := 0, st := .standstill, entries := [] }
      let v := u.raiseIn Cause.ENC_SIGNAL_FAULT 8 ch
      exec (.encSignalFault ch) s = .next ((if (s.chan ch).entries = [] then v else v.raise Cause.CMP_DISCARDED).endCounts ch).settle) ∧
    ((s.chan ch).fault = true → s.brk.outRegions.contains (8, ch.val) = false → let u := s.passUntil ((s.chan ch).faultAt + 10000000)
      exec (.encFaultEnd ch) s = .next ((u.setChan ch { s.chan ch with
      fault := false, coarse := true, st := .standstill, speed := 0, at' := u.now, pRef := (s.chan ch).pos, pA := (s.chan ch).pos, tA := u.now, nearP := (s.chan ch).pos,
      nearT := u.now, hist := [] }).endHandling 8 ch).settle) ∧
    (s.spokeOn = true → (s.encMode ch = 1 ∨ (s.encMode ch = 2 ∧ s.fget (Fld.SPK_ENCn_CFG_REF_MODE ch) = 1)) →
      exec (.encAmplitudeWarn ch) s = .next (s.raise Cause.ENC_AMPLITUDE_WARN).settle) ∧
    (s.spokeOn = true → s.fget (Fld.SPK_MSWm_CFG_MODE input) = 1 → (s.fget (Fld.SPK_MSWm_CFG_EDGE input) = 1 ↔ rising = true) →
      let u := s.passUntil (t.toNat + 1000 * s.fget (Fld.SPK_MSWm_CFG_DEBOUNCE_US input))
      exec (.mswEdge input rising t) s = .next (((u.setWord64 (Reg.SPK_MSWm_LAST_TIME input) t.toNat).setWord64 (Reg.SPK_MSWm_LAST_POS input)
        (ofSigned 64 (s.chan (s.fget (Fld.SPK_MSWm_CFG_CHAN input))).pos)).bump (Fld.SPK_MSWm_COUNT_COUNT input)).settle)

/-- Compare entries fire and expire, pulses end, generators fire their points, and the supervision of outputs switches them off (R365, R366, R368, R369, R371, R372, R373) -/
def Obligations.OutputEvents : Prop :=
  ∀ (ch g : Fin 4) (direct : BitVec 16) (o : Fin 12) (a : Fin 8) (ok : Bool) (s : State),
    (s.spokeOn = true → (s.chan ch).fault = false → ∀ i e q, s.nextFire ch (decide (16 ≤ (s.chan ch).fires)) (s.chan ch).entries 0 = some (i, e, q) →
      ((s.chan ch).fires < 16 → exec (.compareFire ch direct) s = .next (s.fireEntry ch i e (4 * (s.chan ch).at' + q.getD direct.toNat)).settle) ∧
      (16 ≤ (s.chan ch).fires → exec (.compareFire ch direct) s =
        .next ((s.setChan ch { s.chan ch with entries := setAt (s.chan ch).entries i { e with imprecise := true } }).bump (Fld.SPK_ENCn_CMP_DROPS_IMPRECISE ch)).settle)) ∧
    (∀ i e q, let u := ((s.setChan ch { s.chan ch with entries := (s.chan ch).entries.eraseIdx i, fires := (s.chan ch).fires + 1 }).bump
        (Fld.SPK_ENCn_FIRED_COUNT ch)).setWord64 (Reg.SPK_ENCn_LAST_ID ch) e.sample
      s.fireEntry ch i e q = (List.range 12).foldl (fun v x => if bitOn e.mask x = true then v.drive x ch e (s.trigger ch e) q else v) u) ∧
    (let gone := fun e : CmpEntry => e.expiry.any fun x => decide (x < e.travel)
     (s.chan ch).entries.any gone = true → exec (.cmpExpired ch) s =
      .next (((s.setChan ch { s.chan ch with entries := dropFirst gone (s.chan ch).entries }).cmpDrops ch 1).raise Cause.CMP_EXPIRED).settle) ∧
    (∀ u, ((s.out o).pulses.findSome? fun p => match p with | .time u => some u | _ => none) = some u → exec (.pulseEnd o false direct) s =
      .next ((s.passUntil ((u + 3) / 4)).putOut o { s.out o with pulses := dropFirst (· == .time u) (s.out o).pulses } u).settle) ∧
    (∀ p q, ((s.out o).pulses.find? fun x => (s.countEnds o direct.toNat x).isSome) = some p → s.countEnds o direct.toNat p = some q → exec (.pulseEnd o true direct) s =
      .next (s.putOut o { s.out o with pulses := dropFirst (· == p) (s.out o).pulses } q).settle) ∧
    (∀ p rising q, s.genFires g = some (p, rising, q) → let c := s.chan (s.genChan g)
      let u := s.setGen g { s.gen g with ref2 := 2 * p + sigma rising, last := some p }
      exec (.generatorPoint g direct) s = .next ((u.genPulse g (4 * c.at' + q.getD direct.toNat)).sendTriggers g p c.coarse).settle) ∧
    (∀ x, x < 12 → ((s.outOff x).out x).on = false ∧ ((s.outOff x).out x).pulses = [] ∧ ∀ y, y ≠ x → (s.outOff x).out y = s.out y) ∧
    (s.spokeOn = true →
      ((s.spk.actLost = false ∨ (s.out a).on = false) → exec (.actReadbackFault a) s = .next (((s.passUntil (s.changedAt a + 150000)).outOff a).raiseIn Cause.ACT_READBACK_FAULT 9 a).settle) ∧
      (s.fget (Fld.SPK_ACTn_CFG_TEST_EN a) ≠ 0 → ((s.out a).on = true ∨ s.outAllowed a = true) →
        let u := s.passUntil ((s.out a).tested + 1000000 * s.fget Fld.SPK_ACT_TEST_PERIOD_MS)
        let v := u.setOut a { s.out a with testing := some u.now, tested := u.now }
        (u.edgeNear a = true → exec (.actTestPulse a ok) s = .next (u.setOut a { s.out a with tested := u.now }).settle) ∧
        (u.edgeNear a = false → exec (.actTestPulse a ok) s = .next (if ok = true then v else v.actReadback a (!(s.out a).on)).settle)) ∧
      ((s.out a).on = true → let u := (s.passUntil (((s.out a).onSince + 3) / 4 + 100000)).outOff a
        let trips := u.now :: (u.out a).trips.filter fun t => decide (u.now < t + 60000000000)
        exec (.actOverload a) s =
          .next ((u.setOut a { u.out a with hold := true, trips, latched := (u.out a).latched || decide (3 ≤ trips.length) }).raiseIn Cause.ACT_OVERLOAD 9 a).settle) ∧
      (s.spk.actLost = false → exec .actSupplyLost s = .next (({ s with spk := { s.spk with actLost := true } } : State).raiseIn Cause.ACT_SUPPLY_LOST 10 0).settle) ∧
      exec (.trgReadbackFault g) s = .next (s.raiseIn Cause.TRG_READBACK_FAULT 9 (8 + g.val)).settle) ∧
    ((s.out a).hold = true →
      exec (.overloadHoldEnd a) s = .next (((s.passUntil ((s.out a).trips.headD 0 + 1000000000)).setOut a { s.out a with hold := false }).endHandling 9 a).settle) ∧
    (s.spk.actLost = true → exec .actSupplyRestored s = .next (({ s with spk := { s.spk with actLost := false } } : State).endHandling 10 0).settle) ∧
    (s.fget (Fld.SPK_ACTn_CFG_MAX_ON a) ≠ 0 → (s.out a).on = true →
      exec (.actMaxOn a) s =
        .next (((s.passUntil (((s.out a).onSince + 3) / 4 + 10000000 * s.fget (Fld.SPK_ACTn_CFG_MAX_ON a))).outOff a).raise Cause.ACT_MAX_ON).settle)

/-- Frames are received by the steps of R401 or wake the module, gate lists move on, learned addresses age, links change, and the serial ports receive and send (R396, R400, R401, R403, R404, R406, R422, R424, R425, R426, R427, R428) -/
def Obligations.NetworkEvents : Prop :=
  ∀ (port : Fin 6) (frame : List Byte) (fcsOk : Bool) (stamp first last : BitVec 64) (list : Fin 2) (mac : BitVec 48) (vid : BitVec 12) (up : Bool) (line : SerialLine) (p : Fin 2) (value : BitVec 8)
    (amplitude : BitVec 16) (mismatch sending : Option (Fin 1024)) (s : State),
    (s.sup.power ≠ .doze → s.swOn = true → s.swUp port = true → let run := exec (.frameReceive port frame fcsOk stamp) s
      let long := s.fget (Fld.SW_Pp_CFG_MAX_FRAME port) < frame.length
      ((fcsOk = false ∨ long) → run = .next (s.bump (Fld.SW_Pp_DROPS_COUNT port)).settle) ∧
      (fcsOk = true → ¬ long → s.frameIn port frame = none → run = .next (s.bump (Fld.SW_Pp_DROPS_COUNT port)).settle) ∧
      (∀ f, fcsOk = true → ¬ long → s.frameIn port frame = some f →
        (∀ k, f.ptpAt = some k → f.dst ≠ s.word64 Reg.SW_MAC % 2 ^ 48 → run = .next (s.ptpForward port f k stamp.toNat).settle) ∧
        (f.ptpAt = none → (∀ c, c < 10 → s.rtpMatch c f = false) →
          (f.type = 0x88B5 → f.dst = s.ihxMac s.moduleId → run = .next (s.ihxArrives (f.rest.drop 2)).settle) ∧
          ((f.type ≠ 0x88B5 ∨ f.dst ≠ s.ihxMac s.moduleId) →
            (s.arpForUs f = true → run = .next (s.arpReply port f).settle) ∧
            (∀ n, s.arpForUs f = false → s.serialFor f = some n → run = .next (s.serDatagram n f.plainIp f.udp).settle) ∧
            (s.arpForUs f = false → s.serialFor f = none → ((f.dst = s.word64 Reg.SW_MAC % 2 ^ 48 ∧ s.word Reg.SW_IPV4 ≠ 0) ∨ reservedMac f.dst = true) → run = .next s.settle) ∧
            (s.arpForUs f = false → s.serialFor f = none → (f.dst ≠ s.word64 Reg.SW_MAC % 2 ^ 48 ∨ s.word Reg.SW_IPV4 = 0) → reservedMac f.dst = false → run = .next (s.bridge port f).settle))))) ∧
    (s.sup.power = .doze → port.val < 4 → fcsOk = true → s.isWol frame = true →
      exec (.frameReceive port frame fcsOk stamp) s = .next (s.wake 2 s.sup.vin s.sup.coarse 0 false).settle) ∧
    (∀ t, (s.swPort (4 + list.val)).nextGate s.now = some t → s.swOn = true →
      exec (.gateEntry list) s = .next ((s.passUntil t).setSwPort (4 + list.val) ((s.swPort (4 + list.val)).gatesAt (max s.now t))).settle) ∧
    (∀ e, (s.sw.fdb.find? fun e => e.mac == mac.toNat && e.vid == vid.toNat) = some e → let u := s.passUntil (e.used + 1000000000 * s.fget Fld.SW_CONFIG_AGE_S)
      exec (.fdbAgeing mac vid) s = .next ({ u with sw := { s.sw with fdb := s.sw.fdb.filter fun x => x != e } } : State).settle) ∧
    (s.swOn = true → ∃ t : State, exec (.ethernetLinkChange port up) s = .next t.settle ∧ t = { s with regs := t.regs } ∧
      ∀ k, k < 6 → bitOn (t.fget Fld.SW_STATUS_LINK_UP) k = (if k = port.val then up else bitOn (s.fget Fld.SW_STATUS_LINK_UP) k)) ∧
    (s.serOn p = true →
      let run := exec (.serialCharacter p value first last line amplitude) s
      let u := (s.serGap p first.toNat).passUntil last.toNat
      let x := u.serPort p
      let ends := fun v : State => v.setSer p { v.serPort p with rxEnd := last.toNat }
      (s.serReceives p value line = none → run = .next s) ∧
      (∀ c ok, s.serReceives p value line = some (c, ok) →
        (u.serStepped p amplitude.toNat = true → run = .next (ends (u.serStep p)).settle) ∧
        (u.serStepped p amplitude.toNat = false → ok = false → run = .next (ends (u.serBad p)).settle) ∧
        (u.serStepped p amplitude.toNat = false → ok = true →
          (x.skip = true → run = .next (ends u).settle) ∧
          (x.skip = false → x.frame = none → run = .next (ends ((u.setSer p { x with
            frame := some ⟨[BitVec.ofNat 8 c], first.toNat, last.toNat, x.framing⟩, resync := false, framing := false }).fset (Fld.SER_n_AMPLITUDE_MV p) amplitude.toNat)).settle) ∧
          (∀ f, x.skip = false → x.frame = some f → let f' := { f with chars := f.chars ++ [BitVec.ofNat 8 c], tEnd := last.toNat }
            (f'.chars.length < 1024 → run = .next (ends (u.setSer p { x with frame := some f' })).settle) ∧
            (1024 ≤ f'.chars.length → let v := u.serClose p 2 f'
              run = .next (ends (v.setSer p { v.serPort p with skip := true })).settle)))) ∧
      (∀ f, (s.serPort p).frame = some f → let v := (s.passUntil (max f.tEnd (s.serPort p).rxEnd + s.fget (Fld.SER_n_CFG_IDLE_BITS p) * 1000000000 / s.fget (Fld.SER_n_BAUD_BAUD p))).serClose p 0 f
        exec (.serialIdle p) s = .next (v.setSer p { v.serPort p with skip := false, resync := false, framing := false }).settle) ∧
      ((s.serPort p).frame = none → exec (.serialIdle p) s = .next (s.setSer p { s.serPort p with skip := false, resync := false, framing := false }).settle) ∧
      (∀ f, (s.serPort p).frame = some f → let v := (s.serClose p 1 f).bump (Fld.SER_n_ERRORS_COLLISIONS p)
        exec (.amplitudeStep p none) s = .next ((v.setSer p { v.serPort p with resync := true }).serCollision p).settle) ∧
      (∀ k tag chars r, sending = some k → s.fget (Fld.SER_n_CFG_MODE p) = 1 → (s.serPort p).queue = (tag, chars) :: r → exec (.amplitudeStep p sending) s =
        .next ((s.setSer p { s.serPort p with queue := r, sent := (tag, chars.take k.val) :: (s.serPort p).sent, skip := true }).raise Cause.SER_TX_COLLISION (tag + 2 ^ 32 * p.val)).settle) ∧
      (∀ tag chars r, (s.serPort p).queue = (tag, chars) :: r → let half := decide (s.fget (Fld.SER_n_CFG_MODE p) = 1)
        let broken : Option Nat := if half = true then mismatch.map Fin.val else none
        (half = true → (s.serPort p).frame = none ∧ (s.serPort p).skip = false) →
        let count := match broken with | some k => min (k + 1) chars.length | none => chars.length
        let v := s.passUntil ((if half = true then max (s.serPort p).rxEnd (s.serPort p).txEnd else (s.serPort p).txEnd) + s.idleNs p)
        let w := v.passUntil (v.now + v.serNs p ((if half = true then v.fget (Fld.SER_n_CFG_TURN_BITS p) else 0) + count * v.charBits p))
        exec (.serialSend p mismatch) s = .next ((w.setSer p { w.serPort p with txEnd := w.now }).serSent p broken).settle)) ∧
    (∀ tag chars r, (s.serPort p).queue = (tag, chars) :: r →
      s.serSent p none = s.setSer p { s.serPort p with queue := r, sent := (tag, chars) :: (s.serPort p).sent } ∧
      ∀ k, s.serSent p (some k) = (s.setSer p { s.serPort p with queue := r, sent := (tag, chars.take k) :: (s.serPort p).sent, skip := true }).raise Cause.SER_TX_COLLISION (tag + 2 ^ 32 * p.val))
end

