-- ==== Sys2Proof/Laws/Gate.lean ====
section
/-! SUPPORT. What the gate of the descriptor commands answers, and what a raised record leaves as it is. -/
namespace Sys2Proof.Machine

/-- A descriptor that the module carries out now: the gate runs its meaning, and the command ends. -/
theorem gate_runs {s : State} {op : Nat} {n : Fin 64} {d e : List Byte} (f : State → List Byte → State) (h : s.Runs op n d e) :
    gate op n d s f = .next (f (s.starts n e) e).settle := by
  obtain ⟨h1, h2, h3, h4, h5⟩ := h
  have hm : s.start.phase ≠ .maintenance := fun e => by simp [State.operational, e] at h5
  have ho : (s.starts n e).operational = true := h5
  simp [gate, h1, State.runDescr, State.takeUp, hm, h2, h3, h4, ho]

/-- A descriptor of an opcode that every phase runs, taken up now (R87): the gate runs its meaning, and the command ends. -/
theorem gate_takes {s : State} {op : Nat} {n : Fin 64} {d e : List Byte} (f : State → List Byte → State) (h1 : isDescr op d = true)
    (h2 : s.nextDesc n d = some e) (h3 : s.held n e = false) (h4 : s.powerHolds op e = false) (hm : s.start.phase = .maintenance → n = 0) (h5 : runsEarly op = true) :
    gate op n d s f = .next (f (s.starts n e) e).settle := by
  have : ¬(s.start.phase = .maintenance ∧ (n : Nat) ≠ 0) := fun ⟨a, b⟩ => b (by rw [hm a]; rfl)
  simp only [gate, h1, State.runDescr, State.takeUp, this, h2, h3, h4, h5, Bool.or_true, Bool.or_self, if_true, if_false, Bool.false_eq_true]

@[simp] theorem State.raiseIn_sup (s : State) (c k r d : Nat) : (s.raiseIn c k r d).sup = s.sup := by rw [(s.recordsOnly_raiseIn c k r d).1]
@[simp] theorem State.raiseIn_start (s : State) (c k r d : Nat) : (s.raiseIn c k r d).start = s.start := by rw [(s.recordsOnly_raiseIn c k r d).1]
@[simp] theorem State.raiseIn_now (s : State) (c k r d : Nat) : (s.raiseIn c k r d).now = s.now := by rw [(s.recordsOnly_raiseIn c k r d).1]
@[simp] theorem State.raiseIn_qps (s : State) (c k r d : Nat) : (s.raiseIn c k r d).qps = s.qps := by rw [(s.recordsOnly_raiseIn c k r d).1]
@[simp] theorem State.raiseIn_tb (s : State) (c k r d : Nat) : (s.raiseIn c k r d).tb = s.tb := by rw [(s.recordsOnly_raiseIn c k r d).1]
@[simp] theorem State.raiseIn_cams (s : State) (c k r d : Nat) : (s.raiseIn c k r d).cams = s.cams := by rw [(s.recordsOnly_raiseIn c k r d).1]
@[simp] theorem State.raiseIn_engs (s : State) (c k r d : Nat) : (s.raiseIn c k r d).engs = s.engs := by rw [(s.recordsOnly_raiseIn c k r d).1]
@[simp] theorem State.raiseIn_mem (s : State) (c k r d : Nat) : (s.raiseIn c k r d).mem = s.mem := by rw [(s.recordsOnly_raiseIn c k r d).1]
@[simp] theorem State.raiseIn_fxg (s : State) (c k r d : Nat) : (s.raiseIn c k r d).fxg = s.fxg := by rw [(s.recordsOnly_raiseIn c k r d).1]
@[simp] theorem State.raiseIn_fwh (s : State) (c k r d : Nat) : (s.raiseIn c k r d).fwh = s.fwh := by rw [(s.recordsOnly_raiseIn c k r d).1]
@[simp] theorem State.raiseIn_tru (s : State) (c k r d : Nat) : (s.raiseIn c k r d).tru = s.tru := by rw [(s.recordsOnly_raiseIn c k r d).1]
@[simp] theorem State.raiseIn_spk (s : State) (c k r d : Nat) : (s.raiseIn c k r d).spk = s.spk := by rw [(s.recordsOnly_raiseIn c k r d).1]
@[simp] theorem State.raiseIn_sw (s : State) (c k r d : Nat) : (s.raiseIn c k r d).sw = s.sw := by rw [(s.recordsOnly_raiseIn c k r d).1]
@[simp] theorem State.raiseIn_ihx (s : State) (c k r d : Nat) : (s.raiseIn c k r d).ihx = s.ihx := by rw [(s.recordsOnly_raiseIn c k r d).1]
@[simp] theorem State.raiseIn_ser (s : State) (c k r d : Nat) : (s.raiseIn c k r d).ser = s.ser := by rw [(s.recordsOnly_raiseIn c k r d).1]
@[simp] theorem State.raiseIn_pending (s : State) (c k r d : Nat) : (s.raiseIn c k r d).pending = s.pending := by
  rw [(s.recordsOnly_raiseIn c k r d).1]

@[simp] theorem State.raise_sup (s : State) (c d : Nat) : (s.raise c d).sup = s.sup := s.raiseIn_sup c 14 (bits c 11 6) d
@[simp] theorem State.raise_start (s : State) (c d : Nat) : (s.raise c d).start = s.start := s.raiseIn_start c 14 (bits c 11 6) d
@[simp] theorem State.raise_now (s : State) (c d : Nat) : (s.raise c d).now = s.now := s.raiseIn_now c 14 (bits c 11 6) d
@[simp] theorem State.raise_qps (s : State) (c d : Nat) : (s.raise c d).qps = s.qps := s.raiseIn_qps c 14 (bits c 11 6) d
@[simp] theorem State.raise_tb (s : State) (c d : Nat) : (s.raise c d).tb = s.tb := s.raiseIn_tb c 14 (bits c 11 6) d
@[simp] theorem State.raise_cams (s : State) (c d : Nat) : (s.raise c d).cams = s.cams := s.raiseIn_cams c 14 (bits c 11 6) d
@[simp] theorem State.raise_engs (s : State) (c d : Nat) : (s.raise c d).engs = s.engs := s.raiseIn_engs c 14 (bits c 11 6) d
@[simp] theorem State.raise_mem (s : State) (c d : Nat) : (s.raise c d).mem = s.mem := s.raiseIn_mem c 14 (bits c 11 6) d
@[simp] theorem State.raise_fxg (s : State) (c d : Nat) : (s.raise c d).fxg = s.fxg := s.raiseIn_fxg c 14 (bits c 11 6) d
@[simp] theorem State.raise_fwh (s : State) (c d : Nat) : (s.raise c d).fwh = s.fwh := s.raiseIn_fwh c 14 (bits c 11 6) d
@[simp] theorem State.raise_tru (s : State) (c d : Nat) : (s.raise c d).tru = s.tru := s.raiseIn_tru c 14 (bits c 11 6) d
@[simp] theorem State.raise_spk (s : State) (c d : Nat) : (s.raise c d).spk = s.spk := s.raiseIn_spk c 14 (bits c 11 6) d
@[simp] theorem State.raise_sw (s : State) (c d : Nat) : (s.raise c d).sw = s.sw := s.raiseIn_sw c 14 (bits c 11 6) d
@[simp] theorem State.raise_ihx (s : State) (c d : Nat) : (s.raise c d).ihx = s.ihx := s.raiseIn_ihx c 14 (bits c 11 6) d
@[simp] theorem State.raise_ser (s : State) (c d : Nat) : (s.raise c d).ser = s.ser := s.raiseIn_ser c 14 (bits c 11 6) d
@[simp] theorem State.raise_pending (s : State) (c d : Nat) : (s.raise c d).pending = s.pending := s.raiseIn_pending c 14 (bits c 11 6) d

end Sys2Proof.Machine
end

