-- ==== Sys2Proof/Tests/Slice0.lean ====
section
/-! SUPPORT. Tests: for every statement with hypotheses a concrete state and operands that meet them (witness_<statement>); ill-formed terms that the checks refuse
(smoke_…); and small tests whose expected results come from the spec's worked cases and rules (test_…). -/
open Sys2Proof Sys2Proof.Machine
set_option maxRecDepth 20000

/-! ## Witnesses -/

theorem witness_EveryCommandAnswers : (Instr.fence 0 (0x0B :: List.replicate 63 0)).wellFormed = true ∧ Instr.go.wellFormed = true := by (repeat' apply And.intro) <;> decide

theorem witness_IllFormedRefused : isDescr 0x0B [] = false ∧ isDescr 0x01 [] = false ∧ isDescr 0x03 (0x01 :: List.replicate 63 0) = false ∧
    isBadOpcode (0x0B :: List.replicate 63 0) = false := by (repeat' apply And.intro) <;> decide

theorem witness_EmptyQueueIdles : State.reset.pending = [] ∧ State.reset.sup.power = .off ∧
    ({ State.reset with sup := { State.reset.sup with power := .active } } : State).sup.power ≠ .off := by (repeat' apply And.intro) <;> decide

theorem witness_EveryStepKeepsLinesSafe : State.reset.LinesSafe ∧ ∃ t, Sys2Proof.Machine.step State.reset = .next t :=
  ⟨⟨by unfold State.AvailAgrees; decide, fun h => by rcases h with h | h <;> exact absurd h (by decide)⟩, _, rfl⟩

theorem witness_QuietStateSettlesToItself : State.reset.quiet = true := by decide

theorem witness_DramIsCanonical : Tbl.wf dramDefault [(3, 7), (9, 1)] = true := by decide

theorem witness_LittleEndianFields : 0x1234 < 256 ^ 2 ∧ leBytes 2 0x1234 = [0x34, 0x12] := by (repeat' apply And.intro) <;> decide

theorem witness_UnmappedOffsets : findReg 0x2D000 = none ∧ findReg 0xFFFFC = none ∧ findReg 0x00014 ≠ none ∧ findReg 0x2C010 ≠ none := by (repeat' apply And.intro) <;> decide

theorem witness_FieldsFollowAccessType : (findReg 0x04810).isSome = true ∧ (findReg 0x00020).isSome = true := by (repeat' apply And.intro) <;> decide

theorem witness_LockedWriteChangesNothing :
    ∃ h, findReg 0x01010 = some h ∧ h.spec.wide = false ∧
      ({ State.reset with start := { State.reset.start with phase := .operational } } : State).lockedWrite h 0x4001E 0 = true :=
  ⟨_, rfl, rfl, by decide⟩

theorem witness_ReservedValueDiscardsWrite :
    ∃ h, findReg 0x04810 = some h ∧ h.spec.wide = false ∧ State.reset.lockedWrite h (State.reset.word h.offset) 0x40301 = false ∧
      State.reset.qpSetupBusy h.offset (State.reset.word h.offset) 0x40301 = false ∧ reservedValue h 0x40301 = true :=
  ⟨_, rfl, rfl, by decide, by decide, by decide⟩

theorem witness_PlainRegisterWriteCompletes :
    ∃ h, findReg 0x05000 = some h ∧ h.spec.wide = false ∧ State.reset.lockedWrite h (State.reset.word h.offset) 1 = false ∧
      State.reset.qpSetupBusy h.offset (State.reset.word h.offset) 1 = false ∧ reservedValue h 1 = false ∧
      State.reset.blockRejects h.offset (State.reset.word h.offset) 1 = false :=
  ⟨_, rfl, rfl, by decide, by decide, by decide, by decide⟩
theorem witness_PlainRegisterWriteCompletes_gates : gateReg 0x05000 = false ∧ State.reset.frozen = false ∧ ∃ h, findReg 0x2A400 = some h ∧ gateReg h.offset = true ∧ h.spec.wide = false ∧
      State.reset.lockedWrite h (State.reset.word h.offset) 1 = false ∧ State.reset.qpSetupBusy h.offset (State.reset.word h.offset) 1 = false ∧ reservedValue h 1 = false ∧
      State.reset.blockRejects h.offset (State.reset.word h.offset) 1 = false :=
  ⟨by decide, by decide, _, rfl, by decide, by decide, by decide, by decide, by decide, by decide⟩

theorem witness_WideRegisterAccess :
    (∃ h, findReg 0x04800 = some h ∧ h.spec.wide = true ∧ h.high = false ∧ h.writable = true) ∧
    ∃ h, findReg 0x04804 = some h ∧ h.spec.wide = true ∧ h.high = true ∧ h.writable = true :=
  ⟨⟨_, rfl, rfl, rfl, by decide⟩, _, rfl, rfl, rfl, by decide⟩

theorem witness_LockAndRestartCompletes :
    (let s : State := { State.reset with start := { State.reset.start with st21Passed := true } }
     s.lockAllowed = true ∧ s.word Reg.SYS_LOCK = 0 ∧ s.frozen = false ∧ s.word Reg.SYS_CONTROL = 0 ∧ s.word Reg.BRK_CONTROL = 0) := by (repeat' apply And.intro) <;> decide

theorem witness_StepClearMakesPrimary : (1 : BitVec 22) ≠ 0 ∧ State.reset.sysLocked = false ∧ State.reset.start.phase ≠ .safe ∧
    State.reset.word Reg.JRN_STEP_CLEAR = 0 ∧ State.reset.jrn.failed = false ∧ State.reset.jrn.retOk = true := by (repeat' apply And.intro) <;> decide

theorem witness_EnableActivatesPair :
    (State.reset.qp 5).held = false ∧ 4 ≤ State.reset.fget (Fld.HIF_QP_n_CFG_SQ_LOG2 5) ∧ State.reset.fget (Fld.HIF_QP_n_CFG_SQ_LOG2 5) ≤ 16 ∧
    4 ≤ State.reset.fget (Fld.HIF_QP_n_CFG_CQ_LOG2 5) ∧ State.reset.fget (Fld.HIF_QP_n_CFG_CQ_LOG2 5) ≤ 16 ∧
    1 ≤ State.reset.fget (Fld.HIF_QP_n_CFG_WEIGHT 5) ∧ (State.reset.qp 5).state = .disabled ∧
    ((State.reset.setQp 5 { state := .active }).qp 5).state = .active ∧ ((State.reset.setQp 5 { state := .error }).qp 5).state = .error := by (repeat' apply And.intro) <;> decide

theorem witness_DoorbellsInOrder :
    (let s := State.reset.setQp 3 { state := .active, cqTail := 2 }
     (s.qp 3).state = .active ∧ (15 : Nat) < s.sqSize 3 ∧ s.sqSize 3 ≤ 16 ∧ s.cqHeadOk 3 3 = false ∧ s.cqHeadOk 3 2 = true ∧ (s.qp 3).cqHead ≠ 2 ∧
       s.cqHeadOk 3 0 = true ∧ (s.qp 3).cqHead = 0) ∧ (State.reset.qp 3).state ≠ .active := by (repeat' apply And.intro) <;> decide

theorem witness_FetchTakesAtMostEight :
    (let s := State.reset.setQp 3 { state := .active, sqTail := 2 }
     s.visits = ([(3, 1)], 3) ∧ (s.qp 3).sqHead < s.sqSize 3 ∧ s.readLength 3 ≤ 2) ∧ State.reset.visits.1 = [] := by (repeat' apply And.intro) <;> decide

theorem witness_HostAccessFaults :
    (let s := { State.reset.setQp 3 { state := .active, cqTail := 15 } with hif := { State.reset.hif with linkUp := true } }
     (s.qp 3).state = .active ∧ s.cqFull 3 = true ∧ (s.qp 3).stallRaised = false ∧ s.hif.linkUp = true) ∧ State.reset.hif.linkUp = false := by (repeat' apply And.intro) <;> decide

theorem witness_HostResetsKeepTheModule :
    (let s := { State.reset.setQp 3 { state := .active } with hif := { State.reset.hif with linkUp := true } }
     (∀ n, n < 64 → (s.qp n).held = true → (s.qp n).state = .error) ∧ s.hif.linkUp = true ∧ (s.qp 64).state ≠ .active) := by (repeat' apply And.intro) <;> decide

theorem witness_LinkAndInterruptEvents :
    ({ State.reset with start := { State.reset.start with passed := [8] }, sup := { State.reset.sup with power := .active } } : State).endpointUp = true ∧
    (let s := (State.reset.setVec 2 { count := 1, since := some 7 }).setWord 0x5008 0x100
     (s.vec 2).since = some 7 ∧ s.fget (Fld.HIF_VEC_n_MOD_TIME_US 2) ≠ 0) := by (repeat' apply And.intro) <;> decide

def exReadQueue : List Byte := [0x0C, 0, 0, 0, 0, 0, 0, 0, 2, 0, 0, 0, 0, 0, 0, 0, 64] ++ List.replicate 47 0
theorem witness_FaultQueueReads : isDescr 0x0C exReadQueue = true ∧ rd exReadQueue 8 1 = 2 ∧ rd exReadQueue 9 1 ≤ 3 ∧ rd exReadQueue 16 4 % 32 = 0 ∧
    rd exReadQueue 16 4 ≤ 65536 ∧ hostAddr (rd exReadQueue 24 8) = true ∧ State.reset.nextDesc 0 exReadQueue = some (tagged exReadQueue unfetched) ∧ State.reset.held 0 (tagged exReadQueue unfetched) = false ∧
    State.reset.powerHolds 0x0C (tagged exReadQueue unfetched) = false ∧
    rd ([0x0C, 0, 0, 0, 0, 0, 0, 0, 2, 0, 0, 0, 0, 0, 0, 0, 33] ++ List.replicate 47 0) 16 4 % 32 ≠ 0 := by (repeat' apply And.intro) <;> decide

def exRec : FaultRec := { time := 7, cls := 2, block := 4, cause := 9, origCls := 2, quality := 1, escalated := false, journalled := true, safeCause := false,
                          epoch := 3, timeEpoch := 1, level := 0, region := 5, kind := 1, count := 1, seq := 12, detail := 99 }
theorem witness_FaultRecordLayout : exRec.time < 2 ^ 64 ∧ exRec.cls < 16 ∧ exRec.quality < 4 ∧ exRec.journalled = true ∧ State.reset.jrn.failed = false := by (repeat' apply And.intro) <;> decide

theorem witness_RaiseQueuesOneRecord : (0x0102 : Nat) / 4096 = 0 ∧ State.reset.brk.queue.length < 64 ∧
    (State.reset.brk.queue.any fun r => r.matches 4 2 0 14 4) = false ∧ ((State.reset.raise 0x0102).brk.queue.any fun r => r.matches 4 2 0 14 4) = true := by (repeat' apply And.intro) <;> decide

theorem witness_FencesAndReserved :
    (let d : List Byte := 0x0B :: List.replicate 63 0; isDescr 0x0B d = true ∧ rd d 8 1 ≤ 1 ∧ State.reset.nextDesc 0 d = some (tagged d unfetched) ∧ State.reset.held 0 (tagged d unfetched) = false ∧
      State.reset.powerHolds 0x0B (tagged d unfetched) = false ∧ State.reset.start.phase ≠ .maintenance) ∧
    (let d : List Byte := [0x0B, 0, 0, 0, 0, 0, 0, 0, 2] ++ List.replicate 55 0; isDescr 0x0B d = true ∧ 1 < rd d 8 1) ∧
    (let d : List Byte := 0x0C :: List.replicate 63 0; isDescr 0x0C d = true ∧ rd d 8 1 = 0 ∧ hostAddr (rd d 24 8) = true) ∧
    isBadOpcode (List.replicate 64 0) = true := by (repeat' apply And.intro) <;> decide

theorem witness_StepHistoryFails : ({ state := .retry } : StepHist).state = .retry ∧ ({} : StepHist).state = .primary ∧
    ({ state := .skipped } : StepHist).state = .skipped ∧ ({ state := .halted } : StepHist).state = .halted := by (repeat' apply And.intro) <;> decide

theorem witness_StartStepsEnd :
    (let s := { State.reset with start := { State.reset.start with step := 8, stepOpen := true, fastOff := true } }
     s.start.stepOpen = true ∧ s.start.phase ≠ .awaitGo ∧ s.start.step ≠ 22 ∧ s.start.step ≠ 1 ∧ s.start.step ≠ 21 ∧ (s.damageSeen {}).stepFault 8 {} = none ∧
       decide ((0 : Nat) ≤ 1000 * stepMax s.start.step s.start.holdWake s.start.alternate) = true ∧ s.start.fastOff = true) ∧
    (let s := { State.reset with start := { State.reset.start with step := 22, stepOpen := true }, jrn := { State.reset.jrn with snapshot := { crcOk := true } } }
     s.start.stepOpen = true ∧ s.start.phase ≠ .awaitGo ∧ s.start.step = 22 ∧ s.jrn.snapshot.crcOk = true) ∧
    Image.mask (List.replicate 200 1) ≠ 0 ∧
    (∃ p, ({ State.reset with start := { State.reset.start with step := 15 } } : State).stepFault 15 { slot := some [1] } = some p) := ⟨by decide, by decide, by decide, _, rfl⟩

theorem witness_FailedAttemptHoldsOutputs : State.reset.start.bringUp = false ∧ State.reset.start.supplyLost = false ∧
    ({ State.reset with start := { State.reset.start with supplyLost := true } } : State).start.supplyLost = true := ⟨rfl, rfl, rfl⟩

theorem witness_EnergyAndVoltageDemand : ({ eNow := 99 } : Supply).demand = 5 ∧ ({ eNow := 100 } : Supply).demand = 4 ∧ ({ eNow := 199, vLow2 := true } : Supply).demand = 4 ∧
    ({ eNow := 200 } : Supply).demand = 3 ∧ ({ eNow := 449 } : Supply).demand = 3 ∧ ({ eNow := 450 } : Supply).demand = 2 ∧ ({ eNow := 549 } : Supply).demand = 2 ∧
    ({ eNow := 550 } : Supply).demand = 1 ∧ ({ eNow := 699 } : Supply).demand = 1 ∧ ({ eNow := 700, vLow2 := true } : Supply).demand = 3 := by (repeat' apply And.intro) <;> decide

theorem witness_SupplyEvents : State.reset.sup.power = .off ∧ (6 ≤ (7 : BitVec 3).toNat) ∧ (2 : BitVec 3).toNat < 6 ∧
    (let s := { State.reset with sup := { State.reset.sup with power := .sprout, strap := 2 } }; s.sup.power = .sprout ∧ s.sup.strapBad = false) ∧
    (let s := { State.reset with sup := { State.reset.sup with power := .active, strap := 2, eFull := 2000, eNow := 2000, supplyLevel := 3 } }
     s.sup.power ≠ .off ∧ vHolds s.sup.strap 3000 0 = true ∧ s.sup.count 0 = none ∧ vRecovered s.sup.strap 4800 0 = true ∧
     (s.sampleVin 3000).sup.count 0 = some 0 ∧ (s.sampleVin 4800).sup.count 0 = none ∧ ((s.sampleVin 3000).energyTrigger 2000).sup.goodSince = none ∧
     (let u := (s.sampleVin 4800).energyTrigger 2000
      u.sup.goodSince = some 0 ∧ 0 < u.sup.supplyLevel ∧ u.sup.supplyLevel < 5 ∧ u.sup.flushing = false ∧ u.sup.demand < u.sup.supplyLevel)) ∧
    ({ State.reset with sup := { State.reset.sup with flushing := true } } : State).sup.flushing = true := by (repeat' apply And.intro) <;> decide

theorem witness_SleepAndWake :
    (let s := { State.reset with sup := { State.reset.sup with power := .doze, strap := 2, wakeMask := 31, sleepTarget := some .hold, wakeLatched := some 3, wakePin := true } }
     let w := (s.setWord Reg.SPR_WAKE_ENABLE 31).setWord Reg.PWR_CONFIG 0x4001E
     let u := w.sampleVin 4800
     s.sup.sleepTarget = some .hold ∧ s.sup.flushing = false ∧ s.sup.wakePin = true ∧ w.sup.power = .doze ∧ w.sup.waking = false ∧
     w.fget Fld.PWR_CONFIG_DOZE_TO_HOLD ≠ 0 ∧ w.wakeCondition 3 0 0 false = true ∧
     u.vOk = true ∧ (w.sampleVin 100).vOk = false ∧ w.sup.wakeLatched = some 3 ∧ bitOn (w.word Reg.SPR_WAKE_ENABLE) 0 = true ∧
     u.sup.power = .doze ∧ u.sup.waking = false ∧ u.sup.flushing = false) ∧
    (let s := { State.reset with sup := { State.reset.sup with power := .doze, waking := true } }; s.sup.power = .doze ∧ s.sup.waking = true ∧ s.sup.flushing = false) ∧
    (let s := { State.reset with sup := { State.reset.sup with power := .active } }; s.sup.power = .active ∧ s.iterationRunning = false ∧ s.runOn 3 = none) := by (repeat' apply And.intro) <;> decide

def exPowerState : State := { State.reset with sup := { State.reset.sup with power := .active, strap := 2, vin := 4800 }, start := { State.reset.start with phase := .operational } }
def exPower (t c : Byte) : List Byte := [0x0F, 0, 0, 0, 0, 0, 0, 0, t, c] ++ List.replicate 54 0
theorem witness_PowerRequestOutcome : exPowerState.Runs 0x0F 1 (exPower 4 0xF) (tagged (exPower 4 0xF) unfetched) ∧
    exPowerState.sup.request = none ∧ exPowerState.powerCode = 4 ∧ targetOk 5 = false ∧ targetOk 7 = true ∧ exPowerState.channelsMoving = false ∧ exPowerState.vOk = true ∧
    ({ exPowerState with sup := { exPowerState.sup with power := .ready } } : State).powerCode = 3 ∧
    ({ exPowerState with sup := { exPowerState.sup with power := .ready, vin := 0 } } : State).vOk = false ∧
    ((exPowerState.fset (Fld.SPK_ENCn_CFG_MODE 0) 1).setChan 0 { st := .moving }).channelsMoving = true ∧
    (({ exPowerState with sup := { exPowerState.sup with request := some (1, [], .ready) } } : State).sup.request.isSome = true) := by
  unfold State.Runs; decide

theorem witness_MonitorsRaiseTheirCause :
    (let s := { State.reset with sup := { State.reset.sup with power := .active }, start := { State.reset.start with phase := .operational } }
     s.operational = true ∧ (s.fset Fld.BRK_CONFIG_SELFTEST_EN 1).fget Fld.BRK_CONFIG_SELFTEST_EN = 1) ∧
    (let s := { State.reset with start := { State.reset.start with stepOpen := true } }
     s.operational = false ∧ s.start.stepOpen = true ∧ s.start.phase ≠ .maintenance) := by (repeat' apply And.intro) <;> decide

theorem witness_SafetyLineEvents :
    (let s := { State.reset with
                sup := { State.reset.sup with power := .active }, start := { State.reset.start with phase := .operational },
                brk := { State.reset.brk with firstDecision := true, warnA := true, safeSup := true } }
     s.operational = true ∧ s.brk.firstDecision = true ∧ s.brk.lineOn 0 = true ∧ s.brk.testPulse = none ∧ s.brk.lost.contains 3 = false ∧
     (s.fset Fld.BRK_WDOG_MODE 1).fget Fld.BRK_WDOG_MODE = 1 ∧ (s.fset Fld.BRK_WDOG_MODE 1).watchdogDue ≠ none) ∧
    (let s := { State.reset with start := { State.reset.start with phase := .safe }, brk := { State.reset.brk with restartPending := true } }
     s.start.phase = .safe ∧ s.brk.restartPending = true) := by (repeat' apply And.intro) <;> decide

theorem witness_ThermalNotices : (850 : Int) < (860 : BitVec 16).toInt ∧ (850 : BitVec 16).toInt ≤ 850 ∧ State.reset.sup.hotRaised = false ∧
    pMax (700 : BitVec 16).toInt < (9000 : BitVec 16).toNat ∧ (8500 : BitVec 16).toNat ≤ pMax (700 : BitVec 16).toInt ∧ State.reset.sup.derateRaised = false ∧
    (1499 : BitVec 16).toNat < 1500 ∧ 1600 < (1601 : BitVec 16).toNat ∧ 1500 ≤ (1500 : BitVec 16).toNat := by (repeat' apply And.intro) <;> decide

theorem witness_SafeStateEntry :
    (let s := { State.reset with sup := { State.reset.sup with power := .active }, start := { State.reset.start with phase := .operational } }
     s.sup.flushing = false ∧ s.operational = true) ∧
    (let s := { State.reset with start := { State.reset.start with stepOpen := true } }; s.operational = false ∧ s.start.phase = .starting ∧ s.start.stepOpen = true) ∧
    (let s := { State.reset with start := { State.reset.start with phase := .safe } }; s.operational = false ∧ s.start.phase = .safe) := by (repeat' apply And.intro) <;> decide

def exStage (k : Byte) : List Byte := [0x02, 0, 0, 0, 0, 0, 0, 0, 1, k, 0, 0, 1, 0, 0, 0, 0x40, 0, 0, 0] ++ List.replicate 44 0
def exCommit (b f : Byte) : List Byte := [0x03, 0, 0, 0, 0, 0, 0, 0, 1, b, 0, f] ++ List.replicate 52 0
def exOp : State := { State.reset with sup := { State.reset.sup with power := .active, strap := 2, vin := 4800 }, start := { State.reset.start with phase := .operational } }
def exUp (s : State) : State := { s with hif := { s.hif with linkUp := true } }
def exBlockImage : List Byte := List.replicate 4096 0
theorem witness_StageAndCommit : rd (exStage 0) 8 1 ≤ 3 ∧ (exOp.set 1).outstanding = false ∧ exOp.Runs 0x02 1 (exStage 0) (tagged (exStage 0) unfetched) ∧ rd (tagged (exStage 0) unfetched) 8 1 = 1 ∧
    exOp.hif.linkUp = false ∧ (exUp exOp).hif.linkUp = true ∧ (exUp exOp).Runs 0x02 1 (exStage 0) (tagged (exStage 0) unfetched) ∧
    hostAddr (rd (exStage 0) 16 8) = true ∧ rd (exStage 0) 12 2 = 1 ∧ badRegEntry (regEntry [0x08, 0x20, 0, 0, 1, 0, 0, 0] 0) = false ∧ rd (exStage 1) 9 1 = 1 ∧
    (exOp.set 1).fixedImg = none ∧ (exOp.set 1).freeImg = none ∧ exOp.lacking [] = [] ∧ rd (exStage 2) 9 1 = 2 ∧
    exOp.Runs 0x03 1 (exCommit 2 0) (tagged (exCommit 2 0) unfetched) ∧ rd (exCommit 2 0) 9 1 ≤ 2 ∧ bitOn (rd (exCommit 2 0) 11 1) 0 = false ∧
    bitOn (rd (exCommit 2 1) 11 1) 0 = true ∧ exOp.setPending 1 = 0 := by
  unfold State.Runs; decide

def exC (b p : Nat) : Commit := { qp := 1, d := exCommit 2 0, set := 1, boundary := b, stream := 3, notAfter := 500, drain := true, phase := p }
def exWait (b p : Nat) : State := ({ exOp with hif := { exOp.hif with commits := [exC b p] } } : State).setCtx 3 { state := .running }
theorem witness_CommitsMove : (exWait 0 0).hif.commits = [exC 0 0] ∧ ((exWait 0 0).ctx 3).state = .running ∧ (exWait 1 0).iterationRunning = false ∧ (exWait 1 0).sup.level ≤ 3 ∧
    (exWait 1 0).commitReady (exC 1 0) = true ∧ bitOn (rd (exC 1 0).d 11 1) 1 = false ∧ (exWait 1 2).workLeft (.drain 1) = false ∧ (exC 1 2).untouched = false ∧
    (exC 1 0).notAfter ≠ 0 := by (repeat' apply And.intro) <;> decide

def exCxp (trig : Nat) : State :=
  (((exOp.fset (Fld.CXP_CAMn_CFG_ENABLE 0) 1).fset (Fld.CXP_CAMn_INFO_LINKS_UP 0) 2).fset (cxpSpeedFld 0) 5).fset (Fld.CXP_CAMn_CFG_TRIG_EN 0) trig
def exLine : List (BitVec 16) := List.replicate 64 7
theorem witness_CameraControl : exOp.fget Fld.CXP_CTL_CMD_BUSY = 0 ∧ ({ exOp with cams := { exOp.cams with mbox := some (false, 1) } } : State).cams.mbox = some (false, 1) ∧
    (exCxp 1).fget (cxpSpeedFld (0 : Fin 4)) ≠ 0 ∧ cxpFirst 0 ≤ (0 : Fin 4).val ∧ (0 : Fin 4).val < cxpFirst 0 + (exCxp 1).cxpLinks 0 ∧ (exCxp 1).cxpEnabled 0 = true ∧
    (exCxp 1).sup.level < 4 ∧ ({ exCxp 1 with start := { (exCxp 1).start with passed := [18] } } : State).frontEndsOn = true ∧ (exCxp 1).cxpUp 0 = true ∧
    (exCxp 0).cxpUp 0 = true ∧ (exCxp 0).ctxOf 0 0 0 = none ∧
    (((exCxp 1).setCam 0 { queue := [⟨5, 0, false⟩] }).cam 0).queue = [⟨5, 0, false⟩] ∧
    (let u := (exCxp 1).setCtx 4 { state := .running, format := some ⟨64, 0, .raw 8 none⟩ }
     u.ctxOf 0 0 0 = some 4 ∧ (u.ctx 4).open? = true ∧ cxpKind 1 = some (.raw 8 none) ∧ cxpFormatOk 1 64 = true ∧
     ((u.toRunning 4).ctx 4).format = some ⟨(exLine.map BitVec.toNat).length, 0, .raw 8 none⟩) := by (repeat' apply And.intro) <;> decide

def exApy : State := exOp.fset (Fld.APY_PORTn_STATUS_LINK_UP 0) 1
def exSample : Sample := { params := {}, kind := .raw 8 none, width := 64, height := 2, rows := [some [], some []] }
theorem witness_SensorFrames : exApy.fget (Fld.APY_PORTn_STATUS_LINK_UP 0) ≠ 0 ∧ exApy.ctxOf 1 0 2 = none ∧
    (let u := exApy.setCtx 5 { state := .running, path := 1, channel := 2, frame := some exSample }
     u.ctxOf 1 0 2 = some 5 ∧ (u.ctx 5).open? = true ∧ (u.ctx 5).closing = none ∧ (u.ctx 5).frame = some exSample ∧ exSample.bad = false ∧ exSample.badType = false ∧
     exSample.rows.length = exSample.height ∧ u.ctxOf 1 ((2 : Fin 8).val / 4) ((2 : Fin 8).val % 4) = some 5) ∧
    (exApy.fset (Fld.APY_PORTn_CFG_ENABLE 0) 1).fget (Fld.APY_PORTn_CFG_ENABLE 0) ≠ 0 ∧ exApy.sup.level < 4 ∧ ({ exApy with start := { exApy.start with passed := [18] } } : State).frontEndsOn = true ∧
    ((exApy.setSensor 3 { queue := [{ epoch := 0, words := [], mask := 1, left := [0], f := 0 }] }).sensor 3).queue =
      [] ++ { epoch := 0, words := [], mask := 1, left := [0], f := 0 } :: [] := by (repeat' apply And.intro) <;> decide

def exOpen (path : Byte) : List Byte := [0x05, 0, 0, 0, 0, 0, 0, 0, 4, path] ++ List.replicate 54 0
def exClose : List Byte := [0x06, 0, 0, 0, 0, 0, 0, 0, 4, 1] ++ List.replicate 54 0
def exIntake : List Byte := [0x07, 0, 0, 0, 0, 0, 0, 0, 4, 1, 0, 0, 0, 0, 0, 0, 0, 0, 0, 0, 64, 0, 2, 0] ++ List.replicate 34 0 ++ [1, 0, 0, 0, 0, 0]
def exPool : State := ((exOp.fset (Fld.TIN_Cn_POOL_SLOTS 4) 2).fset (Fld.TIN_Cn_POOL_SLOT_KIB 4) 64)
theorem witness_StreamsAndDecoder : exOp.Runs 0x05 1 (exOpen 0) (tagged (exOpen 0) unfetched) ∧ exOp.noCameras = false ∧ openFault (exOpen 0) = none ∧
    exOp.brk.outRegions = [] ∧ (exOp.ctx 4).state = .free ∧ exOp.ctxOf 0 0 0 = none ∧ (exOp.fset (Fld.CXP_CAMn_CFG_ENABLE 0) 0).sourceOff 0 0 = true ∧
    (exOp.fset (Fld.CXP_CAMn_CFG_ENABLE 0) 1).sourceOff 0 0 = false ∧
    ((exOp.fset (Fld.DEC_Cc_RATE_MAX_W_MB 0) 255).fset (Fld.DEC_Cc_RATE_MAX_H_MB 0) 255).decRate 0 ≤ decCapacity ∧
    exOp.Runs 0x06 1 exClose (tagged exClose unfetched) ∧ exOp.Runs 0x07 1 exIntake (tagged exIntake unfetched) ∧ exOp.hif.linkUp = false ∧ rd exIntake 48 8 = 0 ∧ (let u := exPool.setCtx 4 { state := .running, path := 1, ready := [exSample] }
      (u.ctx 4).state ≠ .free ∧ (u.ctx 4).closing = none ∧ (u.ctx 4).ready = [exSample] ∧ exSample.needAfter = false ∧
      u.intakeFault { d := exIntake, table := [] } = none ∧ u.intakeRefused 4 { d := exIntake, table := [] } = none ∧
      ({ d := exIntake, table := [] } : Program).badTable = false ∧
      exOp.intakeRefused 4 { d := exIntake, table := [] } = some 1) ∧
    (let u := (exOp.setCtx 4 { state := .running, path := 2, port := 3 }).setDec 3 { window := [⟨7, 0, false, [], 5⟩], units := [⟨9, 4, true, []⟩] }
     u.ctxOf 2 3 0 = some 4 ∧ (u.ctx 4).open? = true ∧ (u.dec 3).silent = false ∧ (u.dec 3).holdEnds = some 10000005 ∧ (u.dec 3).unit? 9 = some ⟨9, 4, true, []⟩ ∧
     (u.dec 3).unit? 8 = none) ∧ exOp.ctxOf 2 3 0 = none := by
  unfold State.Runs; decide

def exTb : State := (({ exOp with tb := { exOp.tb with
  running := true, ptpOn := true, ppsOn := true, portState := 6, syncLast := some 5, ppsLast := some 5, holdStart := some 5,
  st := .acquiring, ds := [1, 2, 3], due := true, fwd := true, back := [(1, [])] } } : State).fset Fld.TB_PTP_CFG_ROLE 1).fset Fld.TB_PPS_CFG_IN_EN 1
def exBackD : List Byte := 0x0E :: List.replicate 63 0
theorem witness_TimeBaseEvents : exTb.ptpRuns = true ∧ exTb.tb.portState = 6 ∧ (exTb.fset Fld.TB_PTP_CFG_PROFILE 1).fget Fld.TB_PTP_CFG_PROFILE ≠ 0 ∧
    exTb.fget Fld.TB_PTP_CFG_PORT = (0 : Fin 6).val ∧ exTb.tb.syncLast = some 5 ∧ exTb.tb.ppsLast = some 5 ∧ exTb.tb.holdStart = some 5 ∧ exTb.tb.running = true ∧ exTb.tb.ppsOn = true ∧
    exTb.fget Fld.TB_PPS_CFG_IN_EN = 1 ∧ exTb.fget Fld.TB_PPS_CFG_IN_FALLING = 0 ∧ exTb.tb.st = .acquiring ∧ exTb.tb.ds.length = 3 ∧
    ({ exTb with tb := { exTb.tb with fwd := false } } : State).tb.fwd = false ∧ exTb.tb.back ≠ [] ∧ exTb.tb.due = true ∧
    exTb.Runs 0x0E 1 exBackD (tagged exBackD unfetched) ∧ exTb.offset ≤ (rd exBackD 8 8 : Int) ∧
    ([4000, 0, 0, 0] : List Int).sum.natAbs ≤ 4000 ∧ 4000 < ([4001, 0, 0, 0] : List Int).sum.natAbs ∧ ([-400001, 0, 0, 0] : List Int).sum < -400000 ∧
    400000 < ([400001, 0, 0, 0] : List Int).sum ∧ 4000000000 < ([4000000001, 0, 0, 0] : List Int).sum ∧ Fld.TB_STEPS_FORWARD.off ≠ Reg.TB_LAST_STEP ∧
    Fld.TB_STEPS_BACK.off ≠ Reg.TB_LAST_STEP + 4 := by
  unfold State.Runs; decide

def exTimed : List Byte := [0x0A, 0, 0, 0, 0, 0, 0, 0, 1, 0, 64, 0, 100, 0, 0, 0, 0, 16] ++ List.replicate 46 0
def exEntry (t : Nat) : LaunchEntry := ⟨1, exTimed, [], t⟩
theorem witness_TimedFrames : exOp.Runs 0x0A 1 exTimed (tagged exTimed unfetched) ∧ exOp.hif.linkUp = false ∧
    (exUp exOp).hif.linkUp = true ∧ (exUp exOp).Runs 0x0A 1 exTimed (tagged exTimed unfetched) ∧ rd exTimed 8 1 ≤ 5 ∧ rd exTimed 9 1 ≤ 7 ∧
    60 ≤ rd exTimed 10 2 ∧ rd exTimed 10 2 ≤ 9216 ∧ rd exTimed 10 2 ≤ exOp.fget (Fld.SW_Pp_CFG_MAX_FRAME 1) ∧ hostAddr (rd exTimed 24 8) = true ∧
    (exOp.swPort 1).launches.length < 64 ∧ ¬ (exOp.now + 100000000000 < rd exTimed 16 8) ∧ exOp.fget Fld.TB_CONFIG_SEND_VALID_ONLY = 0 ∧
    exOp.now ≤ rd exTimed 16 8 + rd exTimed 12 4 ∧ rd exTimed 16 8 + rd exTimed 12 4 < ({ exOp with now := 100000 } : State).now ∧
    (let u := exOp.setSwPort 1 { launches := [exEntry 4096] }
     (u.swPort 1).launches = [exEntry 4096] ∧ u.swUp 1 = false ∧ (let v := (u.fset Fld.SW_STATUS_LINK_UP 2).fset (Fld.SW_Pp_CFG_ENABLE 1) 1
       v.swUp 1 = true ∧ v.swOn = true ∧ max (max 4096 (v.swPort 1).freeAt) v.now ≤ 4096 + rd exTimed 12 4 ∧
       4096 + rd exTimed 12 4 < max (v.swPort 1).freeAt ({ v with now := 100000 } : State).now)) := by
  unfold State.Runs; decide

def exProg (mode : Byte) : List Byte := [0x04, 0, 0, 0, 0, 0, 0, 0, 3, 0, 0, 0, 2, 0, 0, 0, 0, 0, 0, 0, 0, 0, 0, 0] ++ leBytes 4 Image.weightSize ++ [mode] ++ List.replicate 35 0
def exRetire (mode : Byte) : List Byte := [0x12, 0, 0, 0, 0, 0, 0, 0, 3, 1, mode] ++ List.replicate 53 0
def exItem : ProgItem := ⟨.program 1 (exProg 0), 1, []⟩
theorem witness_ArrayCommands : exOp.Runs 0x04 1 (exProg 0) (tagged (exProg 0) unfetched) ∧ exOp.hif.linkUp = false ∧
    (exUp exOp).hif.linkUp = true ∧ (exUp exOp).Runs 0x04 1 (exProg 0) (tagged (exProg 0) unfetched) ∧ rd (exProg 0) 8 1 ≤ 15 ∧ namedArrays (exProg 0) = [1] ∧
    rd (exProg 1) 28 1 ≤ 1 ∧ hostAddr (rd (exProg 0) 16 8) = true ∧ rd (exProg 0) 24 4 = Image.weightSize * (namedArrays (exProg 0)).length ∧ exOp.sup.level ≤ 1 ∧
    (exOp.arr 3 1).state = .blank ∧ (let u := exOp.setEng 3 { prog := [exItem] }; (u.eng 3).prog = [exItem] ∧ exItem.arr < 16) ∧ ({ exOp with sup := { exOp.sup with budget := 0 } } : State).sup.budget = 0 ∧
    ({ exOp with sup := { exOp.sup with budget := 4 } } : State).sup.budget ≠ 0 ∧
    (let u := exOp.setArr 3 1 { state := .loaded, suspect := true }
     (u.arr 3 1).onSpare = false ∧ (u.arr 3 1).state ≠ .blank ∧ (u.arr 3 1).state ≠ .programming ∧ (u.arr 3 1).suspect = true) ∧ (exOp.eng 3).spare = .free ∧ (exOp.eng 3).retiring = none ∧
    ({ exOp with sup := { exOp.sup with budget := 4 } } : State).patrolAt 3 = some 0 ∧
    exOp.Runs 0x12 1 (exRetire 1) (tagged (exRetire 1) unfetched) ∧ rd (exRetire 1) 9 1 ≤ 15 ∧ rd (exRetire 1) 10 1 = 1 ∧ exOp.retireRefused 3 1 = some 1 ∧
    (exOp.fset (Fld.ENG_n_CFG_RETIRE_NOW_EN 3) 1).retireRefused 3 1 = none ∧
    (let u := exOp.setEng 3 { move := some ⟨none, 1, none⟩ }; (u.eng 3).move = some ⟨none, 1, none⟩ ∧ u.isFixed 3 = false ∧ u.arrayInUse 3 1 = false) := by
  unfold State.Runs; decide

def exSolveD : List Byte := [0x08, 0, 0, 0, 0, 0, 0, 0, 0x31, 0x80, 0, 1, 0xCD, 0xCC, 0xCC, 0x3D] ++ List.replicate 24 0 ++ [0x40, 0x20, 0, 0] ++ List.replicate 20 0
def exSolve : Solve := { qp := 1, d := exSolveD, obs := [], problem := [] }
def exSolve1 : Solve := { qp := 1, d := [0x08, 0, 0, 0, 0, 0, 0, 0, 1, 0] ++ List.replicate 54 0, obs := [], problem := List.replicate 64 1 }
def exTrace : SolveTrace := { setup := 10, cost0 := 0, steps := [{ params := [], cost := 0, finite := true, pivotOk := true, outliers := 0, ns := 5 }] }
theorem witness_TruingCommands : exOp.Runs 0x08 1 exSolveD (tagged exSolveD unfetched) ∧ rd exSolveD 24 4 = 0 ∧ exOp.hif.linkUp = false ∧ rd exSolveD 8 2 = 0x8031 ∧
    (let u := (exOp.fset Fld.TRU_WORK_SIZE_MIB 1).setArr 3 1 { state := .loaded }
     u.solveFault exSolve = none ∧ u.solveRefused exSolve = none ∧ exOp.solveRefused exSolve = some 2 ∧ u.tru.queue = []) ∧
    exOp.solveFault { exSolve with d := 0x08 :: List.replicate 63 0 } = some 8 ∧
    (({ exOp with tru := { exOp.tru with queue := [exSolve], dirty := true } } : State).tru.dirty = true) ∧ exOp.tru.copyA.generation ≤ exOp.tru.copyB.generation ∧
    ({ exOp.tru with copyA := { exOp.tru.copyA with generation := 1 } }).copyB.generation < 1 := by
  unfold State.Runs; decide
theorem witness_TruingCommands_end : (let s := ({ exOp with tru := { exOp.tru with queue := [exSolve1] } } : State)
    s.columnsRead exSolve1 exTrace = true ∧ s.timesOk exSolve1 exTrace = true) ∧
    ∃ a, (({ exOp with tru := { exOp.tru with queue := [exSolve1] } } : State).solveOutcome exSolve1 exTrace).map (·.2) = some a := ⟨by decide, _, rfl⟩

def exVariant : List Byte := [0, 0, 0, 0, 1, 0, 1, 0, 0xA0, 0, 0, 0] ++ List.replicate 52 0
def exFixedImage : List Byte := List.replicate 6 0 ++ [1, 0] ++ List.replicate 12 0 ++ [1, 0, 1] ++ List.replicate 73 0 ++ exVariant ++ [0, 0, 0, 0, 1, 0, 0, 0, 5, 0, 0, 0, 0, 0, 0, 0]
def exGear : State := { exOp with fxg := { exOp.fxg with image := exFixedImage, variant := some exVariant } }
def exIter (k : Nat) : Iter := { region := 0, sample := 1, tLast := 0, hdr := [], start := 0, variant := exVariant, paced := false, next := k }
def exTestRun : List Byte := [0x01, 0, 0, 0, 0, 0, 0, 0, 0, 0, 1] ++ List.replicate 53 0
def exCad : CadSample := { sample := 1, tLast := 0, opened := [(7, 100)] }
theorem witness_FixedGearEvents : exGear.Runs 0x01 1 exTestRun (tagged exTestRun unfetched) ∧ exGear.mem.aboard = [] ∧ exGear.sup.plan ≤ 2 ∧ rd exTestRun 10 1 = 1 ∧ rd exTestRun 8 2 = 0 ∧
    rd exTestRun 40 8 = 0 ∧ exGear.variantRuns = true ∧ exGear.fxg.halted = false ∧ exOp.variantRuns = false ∧
    (exGear.fset Fld.FXG_CONFIG_TEST_EN 1).fget Fld.FXG_CONFIG_TEST_EN ≠ 0 ∧ exGear.iterationRunning = false ∧ exGear.hif.commits = [] ∧ exGear.fxg.changePending = false ∧
    exGear.fxg.resuming = false ∧ exGear.testReady = false ∧
    (let u := (exGear.setRegion 0 { flag := true, held := { id := 1, hdr := [] } }); u.startable (({ u with now := 640 } : State).boundaryAt 640) = some 0) ∧
    ((Image.checkpoints exFixedImage exVariant)[0]?.map fun c => (Image.cDecision c, Image.cCycle c)) = some (true, 5) ∧ Image.pair exFixedImage = false ∧
    (({ exGear with fxg := { exGear.fxg with iter := some (exIter 0) } } : State).isWithheld 0 0 0 = false) ∧ Image.vCheckCount exVariant ≤ (exIter 1).next ∧
    exGear.isWithheld 3 0 0 = false ∧ (({ exGear with brk := { exGear.brk with outRegions := [(5, 0)] } } : State).isWithheld 3 0 0 = true) ∧
    (({ exGear with brk := { exGear.brk with outRegions := [(6, 3)] } } : State).isWithheld 3 1 8 = true) ∧ (exCad.opened.find? fun y => y.1 == (7 : BitVec 16).toNat) = some (7, 100) := by
  unfold State.Runs; decide

def exFreeImage : List Byte := List.replicate 36 0 ++ [0x60, 0, 0, 0, 1, 0] ++ List.replicate 54 0 ++ [0, 0, 0xFF, 0xFF, 0xFF, 1, 0, 0, 0xE8, 3, 0, 0, 0, 0, 0, 0]
def exRunD (ctx : Byte) : List Byte := [0x01, 0, 0, 0, 0, 0, 0, 0, 0, 0, 0, 1, ctx, 0, 0, 0] ++ List.replicate 16 0 ++ [0x40] ++ List.replicate 31 0
def exKill : List Byte := [0x0D, 0, 0, 0, 0, 0, 0, 0, 5] ++ List.replicate 55 0
def exFree : State := { exOp with fwh := { exOp.fwh with image := exFreeImage } }
def exRun (t : List TaskSt) : Run :=
  { id := 9, job := 0, ctx := 5, prio := 1, sample := 0, origin := none, deadline := 1000, continues := false, admitted := 0, epoch := 0, tasks := t,
    image := exFreeImage }
def exRunning : State := { exFree with fwh := { exFree.fwh with runs := [exRun [.running 3 0]] } }
def exXfer (r : Bool) : State := { exRunning with fwh := { exRunning.fwh with xfers := [⟨r, 3, 0, 9, 0, 0⟩] } }
theorem witness_FreewheelEvents : exFree.Runs 0x01 1 (exRunD 5) (tagged (exRunD 5) unfetched) ∧ rd (exRunD 5) 10 1 ≠ 1 ∧ exFree.fwhOn = true ∧
    exOp.fwhOn = false ∧ runField exFreeImage (exRunD 5) = none ∧ runField exFreeImage (exRunD 77) = some 12 ∧ Image.jBind ((Image.job? exFreeImage 0).getD []) = 0xFF ∧
    exFree.runContext 5 = some 5 ∧ (exFree.ctxRuns 5).length < 16 ∧ exFree.tearing 5 = none ∧ exFree.ctxOut 5 = false ∧
    exFree.now ≤ exFree.runLimit (exRunD 5) ((Image.job? exFreeImage 0).getD []) ∧
    (exRunning.runningOn 3).isSome = true ∧ (exRunning.taskWorks 9 0 []).2 = none ∧ ((exRunning.taskWorks 9 0 []).1.run? 9).isSome = true ∧ exRunning.taskWaits (exRun [.running 3 0]) 0 3 = false ∧
    ((exXfer false).xferOn 3 false).isSome = true ∧ ((exXfer true).xferOn 3 true).isSome = true ∧ ((exXfer true).run? 9).isSome = true ∧ (exRunning.runOn 3).isSome = true ∧
    ((exFree.setTear 5 (some ⟨1, [3], []⟩)).tearing 5).isSome = true ∧ exFree.Runs 0x0D 1 exKill (tagged exKill unfetched) ∧ rd exKill 8 1 = 5 ∧ exFree.ctxRuns 5 = [] ∧
    exRunning.ctxRuns 5 ≠ [] ∧ ((exRunning.ctxRuns 5)[(0 : Fin 16).val]?).isSome = true ∧ (exRun []).deadline ≠ noDeadline ∧ (exRun []).missed = false := by
  unfold State.Runs; decide
theorem witness_FreewheelEvents_preempt :
    (let s : State := ({ exRunning with fwh := { exRunning.fwh with runs := [{ exRun [.running 3 0] with prio := 0 }] } } : State).setWord Reg.FWH_SAVE_FRAMES 1
     s.fget Fld.FWH_SAVE_FRAMES_FRAMES ≠ 0 ∧ ((List.range (s.fget Fld.FWH_SAVE_FRAMES_FRAMES)).find? fun f => !s.fwh.frames.contains f) = some 0) := by (repeat' apply And.intro) <;> decide

def exPushMod (dest kind : Byte) : List Byte := [0x10, 0, 0, 0, 0, 0, 0, 0, dest, 0, kind, 0, if kind = 0 then 64 else 0] ++ List.replicate 18 0 ++ [0x80] ++
  [0, 0, 0, 0, 0, 0, 2, 0] ++ List.replicate 24 0
def exIhx : State := ((exOp.fset Fld.IHX_ID_ID 3).fset Fld.IHX_ID_VALID 1).setWord (Reg.IHX_ROUTEk 0) 0x400
def exHostBarrier : HostBarrier := ⟨1, [], 0, 1, 5, 0⟩
theorem witness_IhlexSending : exIhx.Runs 0x10 1 (exPushMod 5 0) (tagged (exPushMod 5 0) unfetched) ∧ (exUp exIhx).hif.linkUp = true ∧ (exUp exIhx).Runs 0x10 1 (exPushMod 5 0) (tagged (exPushMod 5 0) unfetched) ∧ exOp.ihxOn = false ∧ exIhx.ihxOn = true ∧
    pushFault (exPushMod 5 0) = none ∧ pushFault (exPushMod 5 3) = some 10 ∧ pushFault (exPushMod 5 1) = none ∧ pushFault (exPushMod 5 2) = none ∧ exIhx.moduleId = 3 ∧
    exIhx.route 5 = 1 ∧ exIhx.route 6 = 0 ∧ bitOn (rd (exPushMod 5 0) 16 8) 63 = false ∧ exIhx.ihxMayWrite (rd (exPushMod 3 0) 24 8) 64 = false ∧
    (({ exRun [] with state := .active, joinedAt := some 4 } : Run).released = false) ∧
    (({ exIhx with fwh := { exIhx.fwh with hostWaits := [exHostBarrier], runs := [{ exRun [] with state := .active, joinedAt := some 4 }] } } : State).ctxRuns 5).length = 1 := by
  unfold State.Runs; decide

def exFrame (type : Byte) (job : Byte) : List Byte := let h : List Byte := [1, type, 5, 0, 3, 0, 0, 0, 1, 0, 0, 0] ++ List.replicate 12 0 ++ [job, job] ++ List.replicate 18 0
  h ++ leBytes 4 (crc32c h)
def exTx : TxFrame := { type := 3, src := .push 1 [], addr := 0, tries := 1 }
theorem witness_IhlexReceiving : exIhx.ihxOn = true ∧ ihxWhole (exFrame 1 0xFF) = true ∧ ihxWhole (exFrame 2 0) = true ∧ ihxWhole (exFrame 3 0) = true ∧ ihxWhole (exFrame 4 0) = true ∧
    ihxWhole (exFrame 5 0) = true ∧ ihxWhole (exFrame 6 0) = true ∧ ihxWhole [] = false ∧ bits (rd (exFrame 1 0xFF) 2 2) 9 0 ≠ exIhx.moduleId ∧
    bits (rd (exFrame 1 0xFF) 4 2) 9 0 = exIhx.moduleId ∧ rd (exFrame 1 0xFF) 24 2 = 0xFFFF ∧ exIhx.isLost 5 = false ∧ exIhx.ihxMayWrite (rd (exFrame 1 0xFF) 16 8) 0 = false ∧
    dueAgain 5 (some 0) 1000000000 = false := by (repeat' apply And.intro) <;> decide
theorem witness_IhlexReceiving_peers : seqAfter (exIhx.peer 5).rxNext (exIhx.peer 5).rxNext = 0 ∧ (exIhx.peer 5).rxAbove = [] ∧ (exIhx.peer 5).rejects = [] ∧ (exIhx.peer 5).rxCount < 7 ∧
    (let u := exIhx.setPeer 5 { ackDue := true, unacked := [exTx], slot := true }
     (u.peer 5).ackDue = true ∧ oldestSent (u.peer 5).unacked = some exTx ∧ exTx.tries ≤ u.fget Fld.IHX_CONFIG_RETRIES ∧ u.monitored 5 = true) ∧
    (let u := exIhx.setPeer 5 { slot := true }; (u.peer 5).slot = true ∧ (u.peer 5).unacked = [] ∧ (u.peer 5).wait = [] ∧ u.ihx.slotWait = []) := by (repeat' apply And.intro) <;> decide

def exJournalD (r : Byte) : List Byte := [0x11, 0, 0, 0, 0, 0, 0, 0, r] ++ List.replicate 55 0
def exReq : CacheRequest := { line := 0, write := false, cls := 0 }
def exMsg (r : Option CacheRequest) : RingMsg := { unit := .hostInterface, request := r, consumer := .host 1 [] }
def exRing : State := ({ exOp with start := { exOp.start with passed := [11] }, sup := { exOp.sup with power := .active }, mem := { exOp.mem with layout := [0, 0, 1, 0, 1, 0, 0, 0] } } : State).fset Fld.LLC_STATUS_CACHED 1
def exCacheLine (w : Nat) : CacheLine := { line := 0, home := 0, way := w, valid := 2 ^ 64 - 1, dirty := 0 }
theorem witness_MemoryAndJournal : exRing.ringOn = true ∧ exRing.mem.claim? (4 : Fin 30) = none ∧ stopHalf 4 ≠ stopHalf 20 ∧ exRing.mem.folded = false ∧
    (let m : Mem := { exRing.mem with aboard := [{ msg := exMsg none, src := 4, dst := 7, ring := 0, car := carAt false 0 4 9, left := 3 }],
                                      waiting := [{ msg := exMsg none, src := 4, dst := 7, who := 0, waited := 5000 }] }
     m.occupied (ringName false 0 4) (carAt false 0 4 9) = true ∧ m.oldest 4 = some { msg := exMsg none, src := 4, dst := 7, who := 0, waited := 5000 } ∧
     bitOn (m.slot 0 (slotAt 0 4 9)) 15 = false ∧ exRing.fget Fld.CRG_CONFIG_STARVE ≤ 5000 ∧ ringFor false 4 7 = 0 ∧ m.claim? 4 = none) ∧
    ({ exRing.mem with aboard := [{ msg := exMsg none, src := 4, dst := 7, ring := 0, car := 0, left := 0 }] } : Mem).arrived.isSome = true ∧ exRing.mem.arrived = none ∧
    (exRing.dirtyError exReq 0 = false ∧ exRing.cached = true ∧ exRing.windowMode (64 * exReq.line.toNat) = 1 ∧ unitL1 .hostInterface exReq = none) ∧
    (({ exRing with mem := { exRing.mem with llc := [exCacheLine 0] } } : State).isHit exReq = true) ∧ exRing.writesFixed .hostInterface = false ∧ exRing.mem.llc? 0 = none ∧
    bitOn (exRing.fget (Fld.LLC_CLASSk_WAYS_WAYS 0)) 0 = true ∧ (exRing.blockFor 3 false).isSome = true ∧ (exRing.mem.scrub 3).late = false := by (repeat' apply And.intro) <;> decide
theorem witness_MemoryAndJournal_read : exOp.Runs 0x11 1 (exJournalD 3) (tagged (exJournalD 3) unfetched) ∧ exOp.jrn.failed = false ∧ rd (exJournalD 3) 8 1 = 3 ∧
    hostAddr (rd (exJournalD 3) 32 8) = true ∧ rd (exJournalD 0) 16 8 < regionSize 0 ∧ rd (exJournalD 4) 8 1 = 4 := by
  unfold State.Runs; decide

def exCmp : List Byte := [0x09, 0, 0, 0, 0, 0, 0, 0, 1, 0, 1] ++ List.replicate 53 0
def exCmpBuf : List Byte := [0x40] ++ List.replicate 23 0 ++ [1, 0, 0, 0, 5, 0, 0, 0]
def exSpoke : State := (({ exOp with start := { exOp.start with st19Passed := true } } : State).fset (Fld.SPK_ENCn_CFG_MODE 1) 1)
theorem witness_EncoderEvents : exSpoke.Runs 0x09 1 exCmp (tagged exCmp unfetched) ∧ (exUp exSpoke).hif.linkUp = true ∧ (exUp exSpoke).Runs 0x09 1 exCmp (tagged exCmp unfetched) ∧ rd exCmp 8 1 = 1 ∧ rd exCmp 9 1 ≤ 2 ∧ rd exCmp 10 2 ≤ 8192 ∧
    hostAddr (rd exCmp 16 8) = true ∧ exSpoke.encMode 1 = 1 ∧ exOp.encMode 1 = 0 ∧ exSpoke.spokeOn = true ∧ badEntry exCmpBuf = false ∧ badEntry [] = true ∧
    (exSpoke.chan 1).fault = false ∧ ((exSpoke.setChan 1 { fault := true }).chan 1).fault = true ∧ (exSpoke.sortEntries 1 [exCmpBuf]).1.length = 1 ∧
    ((exSpoke.setChan 1 { st := .settling }).chan 1).st = .settling ∧ (exSpoke.fset (Fld.SPK_ENCn_CFG_REF_MODE 1) 1).fget (Fld.SPK_ENCn_CFG_REF_MODE 1) = 1 ∧
    (exSpoke.chan 1).phase = none ∧ exSpoke.brk.outRegions.contains (8, 1) = false ∧ (exSpoke.fset (Fld.SPK_MSWm_CFG_MODE 0) 1).fget (Fld.SPK_MSWm_CFG_MODE 0) = 1 ∧
    (exSpoke.fset (Fld.SPK_MSWm_CFG_MODE 0) 1).fget (Fld.SPK_MSWm_CFG_EDGE 0) = 0 := by
  unfold State.Runs; decide

def exEnt : CmpEntry := { bytes := exCmpBuf, base := 0, expiry := some 3, travel := 4 }
def exFiring : State := exSpoke.setChan 1 { entries := [exEnt], fires := 0, pos := 5 }
def exOn : State := exSpoke.setOut 2 { latch := true }
theorem witness_OutputEvents : exFiring.spokeOn = true ∧ (exFiring.chan 1).fault = false ∧ (exFiring.nextFire 1 (decide (16 ≤ (exFiring.chan 1).fires)) (exFiring.chan 1).entries 0).isSome = true ∧ (exFiring.chan 1).fires < 16 ∧
    exEnt.imprecise = false ∧ (exFiring.chan 1).entries.any (fun e : CmpEntry => e.expiry.any fun x => decide (x < e.travel)) = true ∧
    ((((exSpoke.setOut 9 { pulses := [.time 8] }).out 9).pulses.findSome? fun p => match p with | .time u => some u | _ => none) = some 8) ∧
    (let u := (exSpoke.setOut 9 { pulses := [.count 1 4 true] }).setChan 1 { pos := 5, rising := true }
     ((u.out 9).pulses.find? fun x => (u.countEnds 9 7 x).isSome) = some (.count 1 4 true)) ∧
    (let u := (exFiring.setGen 0 { running := true, s := 65536, a := 0, ref2 := 0 }).fset (Fld.SPK_GENg_CFG_SOURCE 0) 1; (u.genFires 0).isSome = true) ∧
    exOn.spokeOn = true ∧ exOn.spk.actLost = false ∧ (exOn.out 2).on = true ∧ (exOn.fset (Fld.SPK_ACTn_CFG_TEST_EN 2) 1).fget (Fld.SPK_ACTn_CFG_TEST_EN 2) ≠ 0 ∧
    ((exSpoke.setOut 2 { hold := true }).out 2).hold = true ∧ ({ exOn with spk := { exOn.spk with actLost := true } } : State).spk.actLost = true ∧
    (exOn.fset (Fld.SPK_ACTn_CFG_MAX_ON 2) 5).fget (Fld.SPK_ACTn_CFG_MAX_ON 2) ≠ 0 := by (repeat' apply And.intro) <;> decide

def exNet0 : State := ((exOp.fset Fld.SW_STATUS_LINK_UP 63).fset (Fld.SW_Pp_CFG_ENABLE 1) 1).setWord Reg.SW_VLAN0 0xFFFF0001
def exNetLow (p : Nat × BitVec 32) : Bool := decide (p.1 < Reg.SW_MAC)
def exNet : State :=
  { exNet0 with regs := exNet0.regs.takeWhile exNetLow ++ [(Reg.SW_MAC, 5), (Reg.SW_MAC + 4, 1)] ++ exNet0.regs.dropWhile exNetLow }
def exEth : List Byte := List.replicate 12 2 ++ [0x81, 0, 0, 1, 0x12, 0x34] ++ List.replicate 46 0
def exSer : State := exOp.fset (Fld.SER_n_CFG_MODE 0) 1
theorem witness_NetworkEvents : exNet.sup.power ≠ .doze ∧ exNet.swOn = true ∧ exNet.swUp 1 = true ∧ ¬ (exNet.fget (Fld.SW_Pp_CFG_MAX_FRAME 1) < exEth.length) ∧
    (exNet.fset (Fld.SW_Pp_VLAN_DROP_UNTAGGED 1) 1).frameIn 1 [] = none ∧ (exNet.frameIn 1 exEth).isSome = true ∧ (∀ f, exNet.frameIn 1 exEth = some f → f.ptpAt = none ∧ (∀ c, c < 10 → exNet.rtpMatch c f = false) ∧
      f.type ≠ 0x88B5 ∧ exNet.arpForUs f = false ∧ exNet.serialFor f = none ∧ f.dst ≠ exNet.word64 Reg.SW_MAC % 2 ^ 48 ∧ reservedMac f.dst = false) := by
  refine ⟨by decide, by decide, by decide, by decide, by decide, by decide, ?_⟩
  intro f h; rw [show exNet.frameIn 1 exEth = some ⟨0x020202020202, 0x020202020202, 1, 0, [0x12, 0x34] ++ List.replicate 46 0⟩ from by decide] at h
  cases h; decide
theorem witness_NetworkEvents_serial : exSer.serOn 0 = true ∧ exSer.serReceives 0 0x5A { rate := exSer.fget (Fld.SER_n_BAUD_BAUD 0) } = some (0x5A, true) ∧
    exSer.serReceives 0 0x5A { rate := exSer.fget (Fld.SER_n_BAUD_BAUD 0), stop := false } = some (0x5A, false) ∧ exSer.serStepped 0 9 = false ∧
    exSer.serReceives 0 0x5A { rate := exSer.fget (Fld.SER_n_BAUD_BAUD 0), flips := [(0, 7), (0, 8)] } = none ∧ (exSer.serPort 0).skip = false ∧ (exSer.serPort 0).frame = none ∧ exSer.fget (Fld.SER_n_CFG_MODE 0) = 1 ∧
    ((exSer.setSer 0 { frame := some ⟨[1], 0, 5, false⟩ }).serPort 0).frame = some ⟨[1], 0, 5, false⟩ ∧ ((exSer.setSer 0 { skip := true }).serPort 0).skip = true ∧
    ((exSer.setSer 0 { queue := [(7, [1, 2])] }).serPort 0).queue = [(7, [1, 2])] ∧ ((exNet.setSwPort 4 { nextGates := some (9, {}) }).swPort 4).nextGate 0 = some 9 ∧
    (({ exNet with sw := { exNet.sw with fdb := [⟨5, 1, 2, 0⟩] } } : State).sw.fdb.find? fun e => e.mac == (5 : BitVec 48).toNat && e.vid == (1 : BitVec 12).toNat) = some ⟨5, 1, 2, 0⟩ ∧
    (({ exNet with sup := { exNet.sup with power := .doze } } : State).isWol ((beBytes 6 (2 ^ 48 - 1)) ++ List.replicate 6 0 ++ beBytes 6 (2 ^ 48 - 1) ++
      (List.replicate 16 (beBytes 6 (exNet.word64 Reg.SW_MAC % 2 ^ 48))).flatten) = true) := by (repeat' apply And.intro) <;> decide

/-! ## Ill-formed terms are refused (R110: a descriptor command carries a descriptor of its own opcode) -/

/-- A descriptor with a given opcode byte and zeros after it. -/
def exD (op : Byte) : List Byte := op :: List.replicate 63 0

/-- One ill-formed term for each descriptor row: no descriptor at all, or one of another opcode. -/
theorem smoke_no_descriptor :
    ([.run 0 [], .testIterationRun 0 [], .stageRegisterList 0 [] [] [], .stageScheduleImage 0 [] [], .stageCorrectionBlock 0 [] [], .commitConfig 0 [],
      .commitAbandon 0 [], .programArrays 0 [] [], .verifyArrays 0 [] [], .streamOpen 0 [], .streamClose 0 [], .intake 0 [] [], .solve 0 [] [],
      .cmpLoad 0 [] [], .timedSend 0 [] [], .fence 0 [], .readState 0 [], .readFaultQueue 0 [], .contextKill 0 [], .timeStepBack 0 [],
      .powerRequest 0 [], .ihlexTilePush 0 [] [], .remoteDoorbellPush 0 [], .hostBarrierJoin 0 [], .journalRead 0 [], .arrayRetire 0 [],
      .badOpcode 0 []] : List Instr).all (fun c => !c.wellFormed) = true := by decide

theorem smoke_other_opcode :
    ([.run 0 (exD 2), .testIterationRun 0 (exD 2), .stageRegisterList 0 (exD 3) [] [], .stageScheduleImage 0 (exD 3) [], .stageCorrectionBlock 0 (exD 3) [],
      .commitConfig 0 (exD 4), .commitAbandon 0 (exD 4), .programArrays 0 (exD 5) [], .verifyArrays 0 (exD 5) [], .streamOpen 0 (exD 6), .streamClose 0 (exD 7),
      .intake 0 (exD 8) [], .solve 0 (exD 9) [], .cmpLoad 0 (exD 10) [], .timedSend 0 (exD 11) [], .fence 0 (exD 12), .readState 0 (exD 13),
      .readFaultQueue 0 (exD 13), .contextKill 0 (exD 14), .timeStepBack 0 (exD 15), .powerRequest 0 (exD 16), .ihlexTilePush 0 (exD 17) [],
      .remoteDoorbellPush 0 (exD 17), .hostBarrierJoin 0 (exD 17), .journalRead 0 (exD 18), .arrayRetire 0 (exD 1), .badOpcode 0 (exD 1)] :
        List Instr).all (fun c => !c.wellFormed) = true := by decide

theorem smoke_exec_refuses : exec (.fence 0 []) State.reset = .refused (.illFormed "not a descriptor of this opcode") := rfl

/-! ## Small tests: what the spec's worked cases and rules give -/

/-- The state after one step on a command, where it answers one. -/
def exRunOne (s : State) (c : Instr) : State :=
  match step { s with pending := c :: s.pending } with
  | .next t => t
  | _ => s

/-- The fault codes that wait in the record queue: class, block, cause. -/
def exCodes (s : State) : List (Nat × Nat × Nat) := s.brk.queue.map fun r => (r.cls, r.block, r.cause)

/-- Table 0.9: code 0x0002 is class 0, block 0, cause 2. -/
theorem test_unmapped_write : exCodes (exRunOne exOp (.registerWrite 0x2D000 5 none)) = [(0, 0, 2)] := by decide
/-- R5: UNALIGNED_ACCESS is 0x0001. -/
theorem test_unaligned : exCodes (exRunOne exOp (.unalignedAccess 0x10 true)) = [(0, 0, 1)] := by decide
/-- Table 2.3: E1 acts below 0.70 J, not at it. -/
theorem test_energy_e1 : (exRunOne exOp (.energyTrigger 700)).sup.supplyLevel = 0 ∧ (exRunOne exOp (.energyTrigger 699)).sup.supplyLevel = 1 := by decide
/-- Worked case of chapter 19: P_max is 76 W at 79.5 °C, 67 W at 84.0 °C, 65 W at 85.0 °C; R475: 0 W from 117.5 °C upward. -/
theorem test_p_max : pMax 795 = 7600 ∧ pMax 840 = 6700 ∧ pMax 850 = 6500 ∧ pMax 1175 = 0 := by decide
/-- R478: BASEPLATE_HOT (0x004A) above 85.0 °C. -/
theorem test_baseplate : exCodes (exRunOne exOp (.baseplateHot 850)) = [] ∧ exCodes (exRunOne exOp (.baseplateHot 851)) = [(0, 1, 10)] := by decide
/-- R455: a module-class record in operation puts the module into safe state (TEMP_CRITICAL is of class module). -/
theorem test_temp_critical : (exRunOne exOp (.tempMonitor 1251)).start.phase = .safe := by decide
/-- Worked case of chapter 18, step 4: CHAIN_TIMEOUT 0x25CF in a region with another record in handling escalates to class 3. -/
theorem test_escalation :
    let t := ({ exOp with brk := { exOp.brk with handling := [⟨5, 1, 12, 2, 2⟩] } } : State).raiseIn 0x25CF 5 1
    (t.brk.queue.map fun r => (r.cls, r.block, r.cause, r.origCls, r.escalated)) = [(3, 23, 15, 2, true)] ∧ t.fget Fld.BRK_COUNTS_ESCALATIONS = 1 := by decide
/-- Table 7.6: step exponents and bounds B(k) of the measured vector (TOL 8); 140 ones make row-phases of 128 and 12. -/
theorem test_row_phases : [128, 12, 121, 96, 70, 41, 17, 4].map MvmMath.stepExp = [3, 0, 3, 3, 2, 2, 0, 0] ∧ [3, 0, 2].map (MvmMath.bound · 8) = [288, 64, 160] ∧
    (MvmMath.phases false (List.range 140)).map List.length = [128, 12] := by decide
/-- Worked case of chapter 8, step 8: v = 47 in a group from 10 to 80. -/
theorem test_frc_element : Frc.code8 47 10 80 7 = 4 ∧ Frc.value8 4 10 80 7 = 50 ∧ Frc.code8 47 10 80 1 = 1 ∧ Frc.value8 1 10 80 1 = 80 := by decide
/-- Worked case of chapter 9, step 4: SCALE of 7,713 by 17,000 over 2^20 is 125. -/
theorem test_scale_stage : rndShift (7713 * 17000) 20 false = 125 := by decide
/-- The post block of Table 9.4 of the worked case of chapter 9. -/
def exPost : List Byte := [0, 1, 7, 0] ++ leBytes 4 0x78000 ++ leBytes 4 0x100000 ++ leBytes 4 0xE7C944 ++ leBytes 8 857609 ++ leBytes 2 32 ++ leBytes 2 480 ++ [16, 0, 0, 0] ++
  [64] ++ List.replicate 15 0
/-- Worked case of chapter 9, step 6: the entry of output row 19 lies at 4,200,929,810. -/
theorem test_post_position : Chain.postPos exPost ⟨4200000000, 9, false, false, 512, true, false, 0⟩ 19 = 4200929810 ∧ Chain.lineFx exPost 19 / 65536 = 311 := by decide
/-- The layout of the worked case of chapter 10. -/
def exLayout : List Byte := [0, 0, 16, 0, 3, 0, 0, 0, 16, 0, 16, 0, 3, 1, 0, 0, 32, 0, 0x80, 1, 1, 0, 0, 0, 0xA0, 1, 32, 0, 2, 0, 0, 0, 0xC0, 1, 32, 0, 2, 1, 0, 0] ++ List.replicate 88 0
/-- Worked case of chapter 10, step 5: offset 0x8000_1A40 is homed in S15 on channel 7, channel-local line 4,194,317. -/
theorem test_line_home : Image.placeLine exLayout 0x80001A40 = some (some 15, 7, 4194317) := by decide
/-- Worked case of chapter 6: row bytes of an LS0 tile and of a door tensor. -/
theorem test_row_bytes : IntakeMath.rowBytes 16384 1 0 = 16384 ∧ IntakeMath.rowBytes 640 3 0 = 1920 := by decide
/-- The entry of the worked case of chapter 15: ACT0, rising, LEAD, width 46,357 counts. -/
def exMark (dist : Nat) : List Byte := leBytes 8 4200927145 ++ leBytes 8 0 ++ leBytes 4 dist ++ leBytes 4 0 ++ [1, 0, 8, 0] ++ leBytes 4 (2 ^ 31 + 46357)
/-- Worked case of chapter 15, steps 1 and 4: L at 50 and at 70 km/h with LEAD_US 6,000. -/
theorem test_lead : (let s := exOp.fset (Fld.SPK_ACTn_CFG_LEAD_US 0) 6000; let e : CmpEntry := { bytes := exMark 0, base := 4200927145, expiry := none }
    s.entryLead 6438506 e = 38631 ∧ s.entryLead 9013908 e = 54083) := by decide
/-- Worked case of chapter 15, step 7: DISTANCE_UM 1,850,000 is 857,609 counts under the nominal CPM and 862,400 after the wheel commit. -/
theorem test_distance : (let f := fun c => match (exOp.setWord64 (Reg.SPK_ENCn_CPM_EFFECT 0) c).acceptEntry 0 (exMark 1850000) with
      | .entry e => e.base - 4200927145
      | _ => 0
    f 0x000712D466666666 = 857609 ∧ f 0x00071CF233333333 = 862400) := by decide
/-- Worked case of chapter 14, step 5: trims +30 and −5 with the solution 0.00625 and 0.3875 become +4 and −17. -/
theorem test_trims : newTrim [30, 0xFB] { x := [0x3BCCCCCD, 0x3EC66666], cost := 0, ns := 0 } 0 = ((4, -17), false) := by decide
/-- FP32 rounds to nearest, ties to even: 1 + 2^-24 is 1 and 1 + 3 × 2^-24 is 1 + 2^-22. -/
theorem test_fp_ties : fadd 0x3F800000 0x33800000 = 0x3F800000 ∧ fadd 0x3F800000 0x34400000 = 0x3F800002 := by decide
/-- R360: a sample of +3 moves a channel's position by 3. -/
theorem test_encoder_sample : ((exRunOne (exSpoke.setChan 1 { pos := 5 }) (.encoderSample 1 3 0)).chan 1).pos = 8 := by decide
/-- R86: ENABLE makes a pair ACTIVE; R88: a tail doorbell moves its SQ tail. -/
theorem test_doorbell : ((exRunOne exOp (.qpEnable 5)).qp 5).state = .active ∧
    ((exRunOne (exRunOne exOp (.qpEnable 5)) (.sqTailDoorbell 5 0 4 (some 3))).qp 5).sqTail = 3 := by decide

/-! ## Further witnesses -/

/-- A state whose layout gives one hashed window of 64 MiB at offset 0. -/
def exMem : State := { exOp with mem := { exOp.mem with layout := [0, 0, 1, 0, 1, 0, 0, 0] ++ List.replicate 120 0 } }
theorem witness_DramWriteReadsBack : (0 < 100 ∨ 100 + [(7 : Byte)].length ≤ 0) ∧ (100 < 100 ∨ 100 + [(7 : Byte)].length ≤ 101) ∧ 0 < [(7 : Byte)].length ∧
    exMem.windowMode (100 + 0) ≠ 0 ∧ exMem.windowMode (100 + 0) ≠ 3 ∧ exMem.windowMode (2 ^ 26) = 0 := by (repeat' apply And.intro) <;> decide
theorem witness_CountClearZeroesClasses : 0 < 8 ∧ bitOn (0x81 : BitVec 8).toNat 0 = true ∧ 7 < 8 ∧ bitOn (0x81 : BitVec 8).toNat 7 = true ∧
    bitOn (0x81 : BitVec 8).toNat 1 = false := by decide
theorem witness_UnalignedAccessIsDiscarded : (0x10 : Nat) ≠ Reg.BRK_COUNTS ∧ (0x10 : Nat) ≠ Reg.BRK_NEXT_SEQ := by decide
end

section
/-! SUPPORT. The register file and the host interface, as chapter 0 states them: fields laid out in bytes, where an offset falls in the register map, the equations of a
register access, what a host reset leaves; and the statements that these settle. -/
namespace Sys2Proof.Machine

/-! ### Little-endian fields (R2) -/

theorem length_leBytes (n v : Nat) : (leBytes n v).length = n := by
  induction n generalizing v with
  | zero => rfl
  | succ n ih => simp [leBytes, ih]

/-- The value of the bytes laid out is the part of the value that they can hold. -/
theorem leVal_leBytes (n v : Nat) : leVal (leBytes n v) = v % 256 ^ n := by
  induction n generalizing v with
  | zero => simp [leBytes, leVal, Nat.mod_one]
  | succ n ih =>
    calc leVal (leBytes (n + 1) v) = v % 256 + 256 * (v / 256 % 256 ^ n) := by simp only [leBytes, leVal, ih, BitVec.toNat_ofNat, Nat.reducePow]
      _ = v % 256 ^ (n + 1) := by rw [pow_succ', Nat.mod_mul]

theorem getD_leBytes {n i : Nat} (v : Nat) (hi : i < n) : ((leBytes n v).getD i 0).toNat = v / 256 ^ i % 256 := by
  induction n generalizing v i with
  | zero => omega
  | succ n ih =>
    cases i with
    | zero => simp [leBytes]
    | succ i => rw [leBytes, List.getD_cons_succ, ih _ (by omega), Nat.div_div_eq_div_mul, pow_succ']

/-- A field that fills its structure is the value of all its bytes. -/
theorem rd_zero_length (b : List Byte) : rd b 0 b.length = leVal b := by simp [rd]

/-- Settles O11, by induction on the number of bytes. -/
theorem littleEndianFields : Obligations.LittleEndianFields := by
  unfold Obligations.LittleEndianFields
  intro n v hv
  refine ⟨length_leBytes n v, ?_, fun i hi => getD_leBytes v hi⟩
  calc rd (leBytes n v) 0 n = leVal (leBytes n v) := by rw [← rd_zero_length, length_leBytes]
    _ = v := by rw [leVal_leBytes, Nat.mod_eq_of_lt hv]

/-! ### Where an offset falls in the register map (R10, R11) -/

/-- A row that an offset hits names the register at that offset, or 4 below it for the high word of a 64-bit register. -/
theorem RegSpec.eq_of_hit {r : RegSpec} {off : Nat} {h : RegHit} (e : r.hit off = some h) :
    h.spec = r ∧ h.i < r.count ∧ h.j < r.count2 ∧ off ≤ h.offset + 4 := by
  unfold RegSpec.hit at e
  split at e
  · cases e
  · extract_lets d i d1 j d2 at e
    split at e
    · next hit =>
      obtain ⟨hi, hj, hd⟩ := hit
      cases e
      refine ⟨rfl, hi, hj, ?_⟩
      show off ≤ r.base + i * r.stride + j * r.stride2 + 4
      omega
    · cases e

theorem findReg_eq_some {off : Nat} {h : RegHit} (e : findReg off = some h) : h.spec ∈ regTable ∧ h.spec.hit off = some h := by
  obtain ⟨r, hr, hh⟩ := List.exists_of_findSome?_eq_some e
  obtain rfl := (RegSpec.eq_of_hit hh).1
  exact ⟨hr, hh⟩

/-- The highest offset at which a word of the row can lie. -/
def RegSpec.last (r : RegSpec) : Nat := r.base + (r.count - 1) * r.stride + (r.count2 - 1) * r.stride2 + 4

theorem RegSpec.le_last_of_hit {r : RegSpec} {off : Nat} {h : RegHit} (e : r.hit off = some h) : off ≤ r.last := by
  obtain ⟨rfl, hi, hj, ho⟩ := RegSpec.eq_of_hit e
  have h1 : h.i * h.spec.stride ≤ (h.spec.count - 1) * h.spec.stride := Nat.mul_le_mul_right _ (by omega)
  have h2 : h.j * h.spec.stride2 ≤ (h.spec.count2 - 1) * h.spec.stride2 := Nat.mul_le_mul_right _ (by omega)
  unfold RegHit.offset at ho
  unfold RegSpec.last
  omega

set_option maxRecDepth 4000 in
/-- Every register row of the map ends below 0x2_D000 (R11). -/
theorem RegSpec.last_lt_of_mem_regTable : ∀ r ∈ regTable, r.last < 0x2D000 := by decide

theorem findReg_eq_none_of_le {off : Nat} (h : 0x2D000 ≤ off) : findReg off = none := by
  cases e : findReg off with
  | none => rfl
  | some hit =>
    obtain ⟨hm, hh⟩ := findReg_eq_some e
    have := RegSpec.le_last_of_hit hh
    have := RegSpec.last_lt_of_mem_regTable _ hm
    omega

/-! ### Field by field (R4, R7) -/

/-- Two fields of one register lie on different bits. -/
abbrev FieldSpec.Apart (f g : FieldSpec) : Prop := f.hi < g.lo ∨ g.hi < f.lo

theorem FieldSpec.Apart.symm {f g : FieldSpec} (h : f.Apart g) : g.Apart f := Or.symm h

set_option maxRecDepth 4000 in
/-- In every register of the map a field's bits are in order, and no two fields share a bit. -/
theorem RegSpec.fields_apart_of_mem_regTable :
    ∀ r ∈ regTable, (∀ f ∈ r.fields, f.lo ≤ f.hi) ∧ r.fields.Pairwise FieldSpec.Apart := by decide

/-- The value of a field that held `c`, after a write of `v` to it (Table 0.2). -/
def FieldSpec.after (f : FieldSpec) (c v : Nat) : Nat :=
  match f.access with
  | .ro => c
  | .w1c => (c - (c &&& v)) % 2 ^ (f.hi + 1 - f.lo)
  | .rw | .lck | .st | .wo1 => v

/-- Writing one field leaves the bits above and below it. -/
theorem bits_writeField_other {f : FieldSpec} (cur v : Nat) {hi lo : Nat} (h : f.lo ≤ f.hi) (k : f.hi < lo ∨ hi < f.lo) :
    bits (writeField f cur v) hi lo = bits cur hi lo := by
  have e : ∀ x, bits (setBits cur f.hi f.lo x) hi lo = bits cur hi lo := fun x =>
    k.elim (bits_setBits_above _ _ _ _ _ _ h) (bits_setBits_below _ _ _ _ _ _ h)
  unfold writeField
  split
  · rfl
  all_goals exact e _

/-- A field after the write is what its access type says. -/
theorem bits_writeField_same {f : FieldSpec} (cur v : Nat) (h : f.lo ≤ f.hi) :
    bits (writeField f cur v) f.hi f.lo = f.after (bits cur f.hi f.lo) (bits v f.hi f.lo) := by
  have e : bits v f.hi f.lo % 2 ^ (f.hi + 1 - f.lo) = bits v f.hi f.lo := Nat.mod_eq_of_lt (bits_lt _ _ _)
  unfold writeField FieldSpec.after
  cases f.access <;> simp only [bits_setBits_same _ _ _ _ h, e]

/-- Writing a register leaves the bits that no field covers. -/
theorem bits_writeFields_other (fs : List FieldSpec) (cur v : Nat) {hi lo : Nat} (h : ∀ f ∈ fs, f.lo ≤ f.hi)
    (k : ∀ f ∈ fs, f.hi < lo ∨ hi < f.lo) : bits (writeFields fs cur v) hi lo = bits cur hi lo := by
  induction fs generalizing cur with
  | nil => rfl
  | cons f fs ih =>
    rw [List.forall_mem_cons] at h k
    rw [writeFields, ih _ h.2 k.2, bits_writeField_other cur v h.1 k.1]

/-- Writing a register whose fields share no bit changes each field as its access type says. -/
theorem bits_writeFields_same (fs : List FieldSpec) (cur v : Nat) (h : ∀ f ∈ fs, f.lo ≤ f.hi) (d : fs.Pairwise FieldSpec.Apart)
    {f : FieldSpec} (hf : f ∈ fs) :
    bits (writeFields fs cur v) f.hi f.lo = f.after (bits cur f.hi f.lo) (bits v f.hi f.lo) := by
  induction fs generalizing cur with
  | nil => cases hf
  | cons g fs ih =>
    rw [List.forall_mem_cons] at h
    rw [List.pairwise_cons] at d
    rw [writeFields]
    rcases List.mem_cons.mp hf with rfl | hf
    · rw [bits_writeFields_other fs _ v h.2 fun g hg => (d.1 g hg).symm, bits_writeField_same cur v h.1]
    · rw [ih _ h.2 d.2 hf, bits_writeField_other cur v h.1 (d.1 f hf)]

/-- Settles O15: the fields of each register of the map share no bit, so that the writes of the others do not reach a field. -/
theorem fieldsFollowAccessType : Obligations.FieldsFollowAccessType := by
  unfold Obligations.FieldsFollowAccessType
  intro off cur v h hh
  obtain ⟨hord, hapart⟩ := RegSpec.fields_apart_of_mem_regTable _ (findReg_eq_some hh).1
  refine ⟨fun f hf => ?_, fun b hb => bits_writeFields_other _ cur v hord fun f hf => (hb f hf).symm⟩
  rw [bits_writeFields_same _ cur v hord hapart hf]
  unfold FieldSpec.after
  cases f.access <;> simp

/-! ### Register accesses (R5 to R8, R11, R479) -/

/-- An aligned REGISTER_WRITE is a write at its offset. -/
theorem exec_registerWrite_aligned {off : BitVec 20} (v : Word) (f : Option (List Byte)) (s : State) (h : off.toNat % 4 = 0) :
    exec (.registerWrite off v f) s = .next (s.regWrite off.toNat v.toNat f).settle := by
  show execRegisterWrite off v f s = _
  rw [execRegisterWrite, if_pos h]

theorem exec_unalignedAccess (off : BitVec 20) (w : Bool) (s : State) : exec (.unalignedAccess off w) s = .next (s.unaligned off.toNat w).settle := rfl

theorem exec_reg64LowRead (off : BitVec 20) (s : State) : exec (.reg64LowRead off) s = .next (s.hostReads off.toNat) := rfl

/-- Raising a record leaves what the last register read returned. -/
@[simp] theorem State.hostRead_raise (s : State) (c d : Nat) : (s.raise c d).hif.hostRead = s.hif.hostRead := by
  rw [(s.recordsOnly_raise c d).1]

/-- Raising a record leaves the link as it is. -/
@[simp] theorem State.linkUp_raise (s : State) (c d : Nat) : (s.raise c d).hif.linkUp = s.hif.linkUp := by
  rw [(s.recordsOnly_raise c d).1]

theorem State.recordsOnly_badConfig (s : State) (off : Nat) : s.RecordsOnly (s.badConfig off) := by
  unfold State.badConfig
  split
  · exact s.recordsOnly_raise _ _
  · exact .refl s

theorem State.regValue_narrow (s : State) {h : RegHit} (w : h.spec.wide = false) : s.regValue h = s.word h.offset := by
  simp [State.regValue, w]

section
variable (s : State) (off v : Nat) (f : Option (List Byte)) {h : RegHit}

theorem State.regWrite_unmapped (e : findReg off = none) : s.regWrite off v f = s.raise Cause.UNMAPPED_ACCESS off := by
  simp only [State.regWrite, e]

theorem State.regWrite_narrow (e : findReg off = some h) (w : h.spec.wide = false) : s.regWrite off v f = s.writeReg h v off v f := by
  simp [State.regWrite, e, w]

/-- A write to the low word of a 64-bit register is held (R6). -/
theorem State.regWrite_wide_low (e : findReg off = some h) (w : h.spec.wide = true) (hw : h.writable = true) (hi : h.high = false) :
    s.regWrite off v f = { s with holding := s.holding.keep (fun o => decide (o < h.offset)) ++
      (h.offset, BitVec.ofNat 32 v) :: s.holding.keep (fun o => decide (h.offset < o)) } := by
  simp [State.regWrite, e, w, hw, hi]

/-- A write to the high word of a 64-bit register applies the held low word with it and empties the holding word (R6). -/
theorem State.regWrite_wide_high (e : findReg off = some h) (w : h.spec.wide = true) (hw : h.writable = true) (hi : h.high = true) :
    s.regWrite off v f = ({ s with holding := s.holding.keep (fun o => o != h.offset) } : State).writeReg h
      ((s.holding.get (fun o => BitVec.ofNat 32 (s.word o)) h.offset).toNat + 2 ^ 32 * v) off v f := by
  simp [State.regWrite, e, w, hw, hi]

end

section
variable {s : State} {h : RegHit} {v : Nat} (woff wval : Nat) (f : Option (List Byte))

/-- R8 comes first. -/
theorem State.writeReg_locked (l : s.lockedWrite h (s.regValue h) v = true) : s.writeReg h v woff wval f = s.raiseLocked woff wval := by
  simp [State.writeReg, l]

variable (l : s.lockedWrite h (s.regValue h) v = false) (b : s.qpSetupBusy h.offset (s.regValue h) v = false)
include l b

theorem State.writeReg_reserved (r : reservedValue h v = true) : s.writeReg h v woff wval f = s.badConfig woff := by
  simp [State.writeReg, l, b, r]

variable (r : reservedValue h v = false) (k : s.blockRejects h.offset (s.regValue h) v = false)
include r k

/-- A gate register before operation takes a write that no rule discards into its shadow. -/
theorem State.writeReg_shadow (g : gateReg h.offset = true) (z : s.frozen = false) :
    s.writeReg h v woff wval f = s.shadowWrite h (writeFields h.spec.fields (s.regValue h) v) := by
  simp [State.writeReg, l, b, r, k, g, z]

/-- Every other register takes a write that no rule discards at once. -/
theorem State.writeReg_stored (g : gateReg h.offset = false ∨ s.frozen = true) :
    s.writeReg h v woff wval f = (s.setRegValue h (writeFields h.spec.fields (s.regValue h) v)).written h.offset (s.regValue h)
      (writeFields h.spec.fields (s.regValue h) v) f := by
  have e : (gateReg h.offset && !s.frozen) = false := by rcases g with g | g <;> simp [g]
  simp [State.writeReg, l, b, r, k, e]

end

/-- Settles O13: an access that is not an aligned 32-bit word raises its notice and writes nothing. -/
theorem unalignedAccessIsDiscarded : Obligations.UnalignedAccessIsDiscarded := by
  unfold Obligations.UnalignedAccessIsDiscarded
  intro off write s
  refine ⟨_, exec_unalignedAccess off write s, rfl, ?_, ?_, ?_, by decide, by decide, by decide⟩
  · intro o h1 h2
    refine ((State.recordsOnly_raise _ _ _).2 o h1 h2).trans ?_
    cases write <;> rfl
  · rintro rfl
    simp [State.unaligned]
  · rintro rfl
    exact s.recordsOnly_raise _ _

/-- Settles O14: every row of the map ends below 0x2_D000, and an offset that no row hits is no register's. -/
theorem unmappedOffsets : Obligations.UnmappedOffsets := by
  unfold Obligations.UnmappedOffsets
  intro off v f s
  refine ⟨findReg_eq_none_of_le, fun e => ⟨by simp [State.hostReads, e], fun ha => ?_⟩⟩
  refine ⟨s.raise Cause.UNMAPPED_ACCESS off.toNat, ?_, rfl, s.recordsOnly_raise _ _, rfl⟩
  rw [exec_registerWrite_aligned v f s ha, State.regWrite_unmapped s _ _ f e]

/-! ### Locked writes (R8, R78) -/

/-- The count and the last locked write, before its notice is raised. -/
def State.noteLocked (s : State) (off v : Nat) : State :=
  ((s.bump Fld.SYS_LOCK_VIOLATIONS_COUNT).fset Fld.SYS_LOCK_LAST_OFFSET_OFFSET off).fset Fld.SYS_LOCK_LAST_VALUE_VALUE (v % 2 ^ 16)

theorem State.raiseLocked_eq (s : State) (off v : Nat) :
    s.raiseLocked off v = (s.noteLocked off v).raise Cause.LOCKED_WRITE (off + 2 ^ 32 * (v % 2 ^ 16)) := rfl

theorem State.word_noteLocked (s : State) (off v o : Nat) (h1 : o ≠ Fld.SYS_LOCK_VIOLATIONS_COUNT.off) (h2 : o ≠ Fld.SYS_LOCK_LAST_OFFSET_OFFSET.off)
    (h3 : o ≠ Fld.SYS_LOCK_LAST_VALUE_VALUE.off) : (s.noteLocked off v).word o = s.word o := by
  rw [State.noteLocked, State.word_fset_other _ _ _ _ h3, State.word_fset_other _ _ _ _ h2, State.bump, State.word_fset_other _ _ _ _ h1]

/-- A count that is bumped reads one higher, saturating. -/
theorem State.fget_bump_same (s : State) (f : Fld) (k : Nat) (h : f.inWord) : (s.bump f k).fget f = satAdd (f.hi + 1 - f.lo) (s.fget f) k := by
  have lt : satAdd (f.hi + 1 - f.lo) (s.fget f) k < 2 ^ (f.hi + 1 - f.lo) :=
    lt_of_le_of_lt (min_le_right _ _) (Nat.sub_lt (Nat.two_pow_pos _) one_pos)
  rw [State.bump, State.fget_fset_same _ _ _ h, Nat.mod_eq_of_lt lt]

theorem State.fget_violations_noteLocked (s : State) (off v : Nat) :
    (s.noteLocked off v).fget Fld.SYS_LOCK_VIOLATIONS_COUNT = satAdd 32 (s.fget Fld.SYS_LOCK_VIOLATIONS_COUNT) 1 := by
  rw [State.noteLocked, State.fget_fset_other _ _ _ _ ⟨by decide, by decide⟩ (.inl (by decide)),
    State.fget_fset_other _ _ _ _ ⟨by decide, by decide⟩ (.inl (by decide)), State.fget_bump_same _ _ _ ⟨by decide, by decide⟩]
  rfl

theorem State.fget_lastOffset_noteLocked (s : State) (off v : Nat) : (s.noteLocked off v).fget Fld.SYS_LOCK_LAST_OFFSET_OFFSET = off % 2 ^ 20 := by
  rw [State.noteLocked, State.fget_fset_other _ _ _ _ ⟨by decide, by decide⟩ (.inl (by decide)), State.fget_fset_same _ _ _ ⟨by decide, by decide⟩]
  rfl

theorem State.fget_lastValue_noteLocked (s : State) (off v : Nat) : (s.noteLocked off v).fget Fld.SYS_LOCK_LAST_VALUE_VALUE = v % 2 ^ 16 := by
  rw [State.noteLocked, State.fget_fset_same _ _ _ ⟨by decide, by decide⟩]
  exact Nat.mod_mod _ _

/-- Raising a record leaves every field outside the two words of the record counters. -/
theorem State.fget_raise (s : State) (c d : Nat) (f : Fld) (h1 : f.off ≠ Reg.BRK_COUNTS) (h2 : f.off ≠ Reg.BRK_NEXT_SEQ) :
    (s.raise c d).fget f = s.fget f := by
  rw [State.fget, (s.recordsOnly_raise c d).2 _ h1 h2, ← State.fget]

/-- Settles O16: the write is noted in the three SYS_LOCK words and its notice raised, and the register is not stored. -/
theorem lockedWriteChangesNothing : Obligations.LockedWriteChangesNothing := by
  unfold Obligations.LockedWriteChangesNothing
  intro off v f s h ha hf hw hl
  rw [← s.regValue_narrow hw] at hl
  refine ⟨s.raiseLocked off.toNat v.toNat, ?_, ?_, ?_, ?_, ?_, s.noteLocked off.toNat v.toNat, rfl, rfl, by decide⟩
  · rw [exec_registerWrite_aligned v f s ha, State.regWrite_narrow s _ _ f hf hw, State.writeReg_locked _ _ f hl]
  · rw [State.raiseLocked_eq, State.fget_raise _ _ _ _ (by decide) (by decide), State.fget_violations_noteLocked]
  · rw [State.raiseLocked_eq, State.fget_raise _ _ _ _ (by decide) (by decide), State.fget_lastOffset_noteLocked, Nat.mod_eq_of_lt off.isLt]
  · rw [State.raiseLocked_eq, State.fget_raise _ _ _ _ (by decide) (by decide), State.fget_lastValue_noteLocked]
  · intro o h1 h2 h3 h4 h5
    exact ((State.recordsOnly_raise _ _ _).2 o h4 h5).trans (s.word_noteLocked _ _ o h1 h2 h3)

/-- Settles O17: R479 discards the whole write. -/
theorem reservedValueDiscardsWrite : Obligations.ReservedValueDiscardsWrite := by
  unfold Obligations.ReservedValueDiscardsWrite
  intro off v f s h ha hf hw hl hb hr
  rw [← s.regValue_narrow hw] at hl hb
  refine ⟨s.badConfig off.toNat, ?_, rfl, s.recordsOnly_badConfig _⟩
  rw [exec_registerWrite_aligned v f s ha, State.regWrite_narrow s _ _ f hf hw, State.writeReg_reserved _ _ f hl hb hr]

/-- Settles O18: the last branch of a register write, with the shadow of a gate register apart. -/
theorem plainRegisterWriteCompletes : Obligations.PlainRegisterWriteCompletes := by
  unfold Obligations.PlainRegisterWriteCompletes
  intro off v f s h ha hf hw hl hb hr hk new
  have e := s.regValue_narrow hw
  have run : exec (.registerWrite off v f) s = .next (s.writeReg h v.toNat off.toNat v.toNat f).settle := by
    rw [exec_registerWrite_aligned v f s ha, State.regWrite_narrow s _ _ f hf hw]
  rw [← e] at hl hb hk
  refine ⟨fun g z => ?_, fun g => ?_, s.word_setWord_same _ _, fun o ho => s.word_setWord_other _ _ _ ho⟩
  · rw [run, State.writeReg_shadow _ _ f hl hb hr hk g z, e]
  · rw [run, State.writeReg_stored _ _ f hl hb hr hk g, e, State.setRegValue, hw]
    rfl

/-! ### 64-bit registers (R6) -/

/-- A table in front that does not list a key does not say what the key reads as. -/
theorem Tbl.get_append_of_forall_ne {α : Type} (d : Nat → α) (t u : Tbl α) (k : Nat) (h : ∀ e ∈ t, e.1 ≠ k) :
    Tbl.get d (t ++ u) k = Tbl.get d u k := by
  induction t with
  | nil => rfl
  | cons e t ih =>
    rw [List.forall_mem_cons] at h
    rw [List.cons_append, Tbl.get, if_neg h.1.symm, ih h.2]

@[simp] theorem State.regs_afterRead (s : State) (off len : Nat) : (s.afterRead off len).regs = s.regs := by
  simp only [State.afterRead, List.range_succ, List.range_zero, List.nil_append, List.cons_append, List.foldl_cons, List.foldl_nil]
  split <;> split <;> rfl

theorem State.hostReads_wide_low (s : State) {off : Nat} {h : RegHit} (e : findReg off = some h) (w : h.spec.wide = true) (hi : h.high = false) :
    s.hostReads off = { (s.afterRead off 4).useFree with
      hif := { s.hif with hostRead := s.readWord off }
      latches := s.latches.put (fun _ => 0) off (BitVec.ofNat 32 (s.readWord (off + 4))) } := by
  simp [State.hostReads, e, w, hi]

theorem State.hostReads_wide_high (s : State) {off : Nat} {h : RegHit} (e : findReg off = some h) (w : h.spec.wide = true) (hi : h.high = true) :
    s.hostReads off = { s with hif := { s.hif with hostRead := (s.latches.get (fun _ => 0) h.offset).toNat } } := by
  simp [State.hostReads, e, w, hi]

/-- Settles O19: each of the four accesses of R6 by its equation. -/
theorem wideRegisterAccess : Obligations.WideRegisterAccess := by
  unfold Obligations.WideRegisterAccess
  intro off v f s h ha hf hw
  refine ⟨fun hi => ?_, fun hi => ?_, fun hi hwr => ?_, fun hi hwr => ?_⟩
  · refine ⟨_, (exec_reg64LowRead off s).trans (congrArg _ (s.hostReads_wide_low hf hw hi)), rfl, ?_, ?_⟩
    · exact Tbl.get_put_same _ _ _ _
    · exact s.regs_afterRead _ _
  · exact ⟨_, (exec_reg64LowRead off s).trans (congrArg _ (s.hostReads_wide_high hf hw hi)), rfl, rfl⟩
  · rw [exec_registerWrite_aligned v f s ha, State.regWrite_wide_low s _ _ f hf hw hwr hi]
    refine ⟨_, rfl, rfl, ?_⟩
    have below : ∀ e ∈ s.holding.keep (fun o => decide (o < h.offset)), e.1 ≠ h.offset := fun e he =>
      (of_decide_eq_true (Tbl.mem_keep _ _ _ he).1).ne
    rw [Tbl.get_append_of_forall_ne _ _ _ _ below]
    simp [Tbl.get]
  · rw [exec_registerWrite_aligned v f s ha, State.regWrite_wide_high s _ _ f hf hw hwr hi]
    refine ⟨_, rfl, _, rfl, ?_, rfl⟩
    simp [Tbl.get_keep]

/-! ### Resets of the host interface (R81, R83, R480) -/

/-- A pair after the host has written ENABLE 0 to it (Table 4.3, R112). -/
def Qp.stopped (q : Qp) : Qp :=
  match q.state with
  | .error => { q with state := .disabled, cause := 0, inflight := q.inflight.map fun f => { f with dead := true } }
  | .active => ({ q with state := .draining, waiting := [] } : Qp).drained
  | .disabled | .draining => q

/-- A pair after the host interface is disabled: one held in ERROR stays as it is. -/
def Qp.hostStopped (q : Qp) : Qp := if q.held then q else q.stopped

theorem Qp.state_drained_ne_active {q : Qp} (h : q.state ≠ .active) : q.drained.state ≠ .active := by
  unfold Qp.drained
  split
  · simp
  · exact h

theorem Qp.state_stopped_ne_active (q : Qp) : q.stopped.state ≠ .active := by
  unfold Qp.stopped
  cases e : q.state with
  | error => simp
  | active => exact Qp.state_drained_ne_active (by simp)
  | disabled => simp [e]
  | draining => simp [e]

@[simp] theorem Qp.state_hifReset (q : Qp) : q.hifReset.state = q.state := by
  unfold Qp.hifReset
  split <;> rfl

/-- What writing ENABLE 0 to a pair leaves of each pair (Table 4.3). -/
theorem State.qp_qpDisableWritten (s : State) (n m : Nat) :
    (s.qpDisableWritten n).qp m = if m = n then (s.qp n).stopped else s.qp m := by
  have same : s.qp m = if m = n then s.qp n else s.qp m := by split <;> simp_all
  cases e : (s.qp n).state <;> simp only [State.qpDisableWritten, State.qpStop, Qp.stopped, e]
  case error => exact s.qp_setQp n m _
  case active => exact s.qp_setQp n m _
  case disabled => exact same
  case draining => exact same

/-- A pass over the pairs 0 to k − 1 that changes each by `g`, and at each step no other pair. -/
theorem State.qp_foldl_range {step : State → Nat → State} {g : Qp → Qp}
    (hstep : ∀ s n m, (step s n).qp m = if m = n then g (s.qp n) else s.qp m) (k : Nat) (s : State) (m : Nat) :
    ((List.range k).foldl step s).qp m = if m < k then g (s.qp m) else s.qp m := by
  induction k with
  | zero => rfl
  | succ k ih =>
    rw [List.range_succ, List.foldl_append, List.foldl_cons, List.foldl_nil, hstep]
    by_cases h : m = k
    · subst h
      rw [if_pos rfl, if_pos (Nat.lt_succ_self m), ih, if_neg (Nat.lt_irrefl m)]
    · rw [if_neg h, ih]
      exact if_congr (by omega) rfl rfl

/-- `t` is `s` but for the queue pairs and the records that are in handling. -/
def State.PairsOnly (s t : State) : Prop := t = { s with qps := t.qps, brk := { s.brk with handling := t.brk.handling } }

theorem State.PairsOnly.trans {s t u : State} (h : s.PairsOnly t) (k : t.PairsOnly u) : s.PairsOnly u := by
  unfold State.PairsOnly at *
  rw [k, h]

theorem State.pairsOnly_qpDisableWritten (s : State) (n : Nat) : s.PairsOnly (s.qpDisableWritten n) := by
  unfold State.qpDisableWritten State.qpStop
  dsimp only
  split
  · rfl
  · split <;> rfl

theorem State.pairsOnly_foldl {step : State → Nat → State} (hstep : ∀ (s : State) (n : Nat), s.PairsOnly (step s n)) (l : List Nat) (s : State) :
    s.PairsOnly (l.foldl step s) := by
  induction l generalizing s with
  | nil => rfl
  | cons n l ih => exact (hstep s n).trans (ih _)

theorem State.qp_disableAll (s : State) (m : Nat) : s.disableAll.qp m = if m < 64 then (s.qp m).hostStopped else s.qp m := by
  refine State.qp_foldl_range (fun s n m => ?_) 64 s m
  unfold Qp.hostStopped
  split
  · split <;> simp_all
  · exact s.qp_qpDisableWritten n m

theorem State.pairsOnly_disableAll (s : State) : s.PairsOnly s.disableAll := by
  refine State.pairsOnly_foldl (fun s n => ?_) _ s
  by_cases h : (s.qp n).held
  · rw [if_pos h]; rfl
  · rw [if_neg h]; exact s.pairsOnly_qpDisableWritten n

@[simp] theorem State.operational_disableAll (s : State) : s.disableAll.operational = s.operational := by
  unfold State.operational
  rw [s.pairsOnly_disableAll]

@[simp] theorem State.linkUp_disableAll (s : State) : s.disableAll.hif.linkUp = s.hif.linkUp := by rw [s.pairsOnly_disableAll]

/-- What the HIF registers report of each pair returns to reset: the first half of `resetHif`. -/
def State.resetPairs (s : State) : State := (List.range 64).foldl (fun s n => s.setQp n (s.qp n).hifReset) s

theorem State.qp_resetPairs (s : State) (m : Nat) : s.resetPairs.qp m = if m < 64 then (s.qp m).hifReset else s.qp m :=
  State.qp_foldl_range (fun s n m => s.qp_setQp n m _) 64 s m

theorem State.pairsOnly_setQp (s : State) (n : Nat) (q : Qp) : s.PairsOnly (s.setQp n q) := rfl

theorem State.pairsOnly_resetPairs (s : State) : s.PairsOnly s.resetPairs := State.pairsOnly_foldl (fun s n => s.pairsOnly_setQp n _) _ s

/-- Does an offset lie outside the blocks of the host interface? (Table 0.3) -/
def outsideHif (o : Nat) : Bool := decide (o < 0x4000) || decide (0x8000 ≤ o)

/-- The words, latches and held words of the host interface are dropped, with the state of its vectors: the second half of `resetHif`. -/
def State.dropHif (s : State) : State := { s with
  regs := s.regs.keep outsideHif, latches := s.latches.keep outsideHif, holding := s.holding.keep outsideHif
  hif := { s.hif with vecs := [], pending := [] } }

theorem State.resetHif_eq (s : State) : s.resetHif = s.resetPairs.dropHif := rfl

@[simp] theorem State.qp_dropHif (s : State) (m : Nat) : s.dropHif.qp m = s.qp m := rfl

theorem State.word_dropHif (s : State) (o : Nat) : s.dropHif.word o = if outsideHif o then s.word o else (regDefault o).toNat := by
  show (Tbl.get regDefault (s.regs.keep outsideHif) o).toNat = _
  rw [Tbl.get_keep]
  split <;> rfl

theorem State.latch_dropHif (s : State) {o : Nat} (h : outsideHif o = false) : s.dropHif.latches.get (fun _ => 0) o = 0 := by
  show Tbl.get (fun _ => 0) (s.latches.keep outsideHif) o = 0
  rw [Tbl.get_keep, h]
  rfl

theorem State.qp_resetHif (s : State) (m : Nat) : s.resetHif.qp m = if m < 64 then (s.qp m).hifReset else s.qp m := by
  rw [s.resetHif_eq, State.qp_dropHif, s.qp_resetPairs]

/-! What a reset of the host interface keeps and clears. -/

/-- What every reset of the host interface keeps: the config epoch, staged sets and commits, the units behind the interface, time, power and the start, and the words
outside its registers but for the record counters. -/
structure State.OutsideHostKept (s t : State) : Prop where
  epoch : t.hif.epoch = s.hif.epoch
  sets : t.hif.sets = s.hif.sets
  commits : t.hif.commits = s.hif.commits
  fxg : t.fxg = s.fxg
  engs : t.engs = s.engs
  mem : t.mem = s.mem
  spk : t.spk = s.spk
  now : t.now = s.now
  sup : t.sup = s.sup
  start : t.start = s.start
  word : ∀ o, (o < 0x4000 ∨ 0x8000 ≤ o) → o ≠ Reg.BRK_COUNTS → o ≠ Reg.BRK_NEXT_SEQ → t.word o = s.word o

theorem State.OutsideHostKept.trans {s t u : State} (h : s.OutsideHostKept t) (k : t.OutsideHostKept u) : s.OutsideHostKept u where
  epoch := k.epoch.trans h.epoch
  sets := k.sets.trans h.sets
  commits := k.commits.trans h.commits
  fxg := k.fxg.trans h.fxg
  engs := k.engs.trans h.engs
  mem := k.mem.trans h.mem
  spk := k.spk.trans h.spk
  now := k.now.trans h.now
  sup := k.sup.trans h.sup
  start := k.start.trans h.start
  word o ho h1 h2 := (k.word o ho h1 h2).trans (h.word o ho h1 h2)

theorem State.RecordsOnly.outsideHostKept {s t : State} (h : s.RecordsOnly t) : s.OutsideHostKept t := by
  obtain ⟨e, w⟩ := h
  constructor
  case word => exact fun o _ => w o
  all_goals rw [e]

theorem State.PairsOnly.outsideHostKept {s t : State} (h : s.PairsOnly t) : s.OutsideHostKept t := by
  unfold State.PairsOnly at h
  constructor
  case word => intros; rw [h]; rfl
  all_goals rw [h]

theorem State.outsideHostKept_resetHif (s : State) : s.OutsideHostKept s.resetHif := by
  have drop (u : State) : u.OutsideHostKept u.dropHif :=
    ⟨rfl, rfl, rfl, rfl, rfl, rfl, rfl, rfl, rfl, rfl, fun o ho _ _ => by rw [u.word_dropHif, if_pos (by simpa [outsideHif] using ho)]⟩
  rw [s.resetHif_eq]
  exact s.pairsOnly_resetPairs.outsideHostKept.trans (drop _)

/-- The words of the host interface hold their reset values, and its latches 0. -/
def State.HifCleared (t : State) : Prop := ∀ o, 0x4000 ≤ o → o < 0x8000 → t.word o = (regDefault o).toNat ∧ t.latches.get (fun _ => 0) o = 0

theorem State.hifCleared_resetHif (s : State) : s.resetHif.HifCleared := by
  intro o h1 h2
  have ho : outsideHif o = false := by simp [outsideHif]; omega
  rw [s.resetHif_eq]
  exact ⟨by rw [State.word_dropHif, ho]; rfl, State.latch_dropHif _ ho⟩

theorem State.HifCleared.raise {s : State} (h : s.HifCleared) (c d : Nat) : (s.raise c d).HifCleared := by
  intro o h1 h2
  have hc : o ≠ Reg.BRK_COUNTS ∧ o ≠ Reg.BRK_NEXT_SEQ := by unfold Reg.BRK_COUNTS Reg.BRK_NEXT_SEQ; omega
  rw [s.latches_raise, (s.recordsOnly_raise c d).2 o hc.1 hc.2]
  exact h o h1 h2

/-- A pair held is in ERROR, and the module has no pair beyond the 64. -/
def State.HeldInError (s : State) : Prop := (∀ n, n < 64 → (s.qp n).held = true → (s.qp n).state = .error) ∧ ∀ n, 64 ≤ n → (s.qp n).state ≠ .active

/-- No pair is ACTIVE, and a pair held in ERROR is as it was. -/
def State.PairsStopped (s t : State) : Prop := (∀ n, (t.qp n).state ≠ .active) ∧ ∀ n, n < 64 → (s.qp n).held = true → t.qp n = s.qp n

theorem State.pairsStopped_disableAll {s : State} (h : s.HeldInError) : s.PairsStopped s.disableAll := by
  obtain ⟨herr, hbeyond⟩ := h
  refine ⟨fun n => ?_, fun n hn hh => by rw [s.qp_disableAll, if_pos hn, Qp.hostStopped, if_pos hh]⟩
  rw [s.qp_disableAll]
  by_cases hn : n < 64
  · rw [if_pos hn, Qp.hostStopped]
    split
    · next hh => simp [herr n hn hh]
    · exact Qp.state_stopped_ne_active _
  · rw [if_neg hn]
    exact hbeyond n (by omega)

theorem State.PairsStopped.raise {s t : State} (h : s.PairsStopped t) (c d : Nat) : s.PairsStopped (t.raise c d) := by
  unfold State.PairsStopped State.qp at *
  rw [t.qps_raise]
  exact h

theorem State.PairsStopped.resetHif {s t : State} (h : s.PairsStopped t) : s.PairsStopped t.resetHif := by
  refine ⟨fun n => ?_, fun n hn hh => ?_⟩ <;> rw [t.qp_resetHif]
  · split
    · rw [Qp.state_hifReset]; exact h.1 n
    · exact h.1 n
  · rw [if_pos hn, h.2 n hn hh, Qp.hifReset, if_pos hh]

/-! ### Loss of the link and PERST_N (R83, R480) -/

/-- The link is down. -/
def State.linkDown (s : State) : State := { s with hif := { s.hif with linkUp := false } }
/-- PERST_N is asserted. -/
def State.perstOn (s : State) : State := { s with hif := { s.hif with perst := true } }
/-- The PCIe configuration space is at reset. -/
def State.pcieReset (s : State) : State := { s with hif := { s.hif with pcie := {} } }

/-- A change of the host interface that keeps its epoch, sets and commits. -/
theorem State.outsideHostKept_hif (s : State) (x : Hif) (h1 : x.epoch = s.hif.epoch) (h2 : x.sets = s.hif.sets) (h3 : x.commits = s.hif.commits) :
    s.OutsideHostKept { s with hif := x } :=
  ⟨h1, h2, h3, rfl, rfl, rfl, rfl, rfl, rfl, rfl, fun _ _ _ _ => rfl⟩

theorem State.outsideHostKept_linkDown (s : State) : s.OutsideHostKept s.linkDown := s.outsideHostKept_hif _ rfl rfl rfl
theorem State.outsideHostKept_perstOn (s : State) : s.OutsideHostKept s.perstOn := s.outsideHostKept_hif _ rfl rfl rfl
theorem State.outsideHostKept_pcieReset (s : State) : s.OutsideHostKept s.pcieReset := s.outsideHostKept_hif _ rfl rfl rfl

theorem State.PairsStopped.of_perstOn {s t : State} (h : s.perstOn.PairsStopped t) : s.PairsStopped t := h
theorem State.PairsStopped.pcieReset {s t : State} (h : s.PairsStopped t) : s.PairsStopped t.pcieReset := h
theorem State.HifCleared.pcieReset {s : State} (h : s.HifCleared) : s.pcieReset.HifCleared := h

theorem State.linkLost_eq (s : State) :
    s.linkLost = if s.operational = true then s.linkDown.disableAll.raise Cause.LINK_LOST else s.linkDown.disableAll := by
  unfold State.linkLost State.linkDown
  extract_lets h t
  have e : t.operational = s.operational := State.operational_disableAll _
  rw [e]

/-- What holds once the pairs are stopped, and still holds when LINK_LOST is raised, holds after the loss of the link. -/
theorem State.linkLost_of {s : State} {P : State → Prop} (h : P s.linkDown.disableAll) (hr : P s.linkDown.disableAll → P (s.linkDown.disableAll.raise Cause.LINK_LOST)) :
    P s.linkLost := by
  rw [s.linkLost_eq]
  split
  · exact hr h
  · exact h

theorem State.pairsStopped_linkLost {s : State} (h : s.HeldInError) : s.PairsStopped s.linkLost :=
  State.linkLost_of (P := s.PairsStopped) (State.pairsStopped_disableAll (s := s.linkDown) h) fun k => k.raise _ _

theorem State.outsideHostKept_linkLost (s : State) : s.OutsideHostKept s.linkLost :=
  State.linkLost_of (P := s.OutsideHostKept) (s.outsideHostKept_linkDown.trans s.linkDown.pairsOnly_disableAll.outsideHostKept)
    fun k => k.trans (State.recordsOnly_raise _ _ _).outsideHostKept

theorem State.linkUp_linkLost (s : State) : s.linkLost.hif.linkUp = false :=
  State.linkLost_of (P := fun t => t.hif.linkUp = false) s.linkDown.linkUp_disableAll fun k => (State.linkUp_raise _ _ _).trans k

/-- The pairs under PERST_N: stopped as by the loss of the link while it is up. -/
def State.perstStopped (s : State) : State := if s.hif.linkUp then s.linkLost else s.disableAll

theorem State.pairsStopped_perstStopped {s : State} (h : s.HeldInError) : s.PairsStopped s.perstStopped := by
  unfold State.perstStopped
  split
  · exact State.pairsStopped_linkLost h
  · exact State.pairsStopped_disableAll h

theorem State.outsideHostKept_perstStopped (s : State) : s.OutsideHostKept s.perstStopped := by
  unfold State.perstStopped
  split
  · exact s.outsideHostKept_linkLost
  · exact s.pairsOnly_disableAll.outsideHostKept

theorem exec_flr (s : State) : exec .flr s = .next (s.disableAll.resetHif.raise Cause.FLR_RECEIVED).settle := rfl

theorem exec_perstNAssert (s : State) : exec .perstNAssert s = .next s.perstOn.perstStopped.resetHif.pcieReset.settle := by
  show execPerstNAssert s = _
  unfold execPerstNAssert State.perstStopped State.perstOn State.pcieReset
  rfl

theorem exec_linkLost (s : State) (h : s.hif.linkUp = true) : exec .linkLost s = .next s.linkLost.settle := by
  show execLinkLost s = _
  rw [execLinkLost, if_pos h]

/-- Settles O27: each command stops the pairs, and, but for the loss of the link, resets the registers; every step of it keeps what lies outside the host interface. -/
theorem hostResetsKeepTheModule : Obligations.HostResetsKeepTheModule := by
  unfold Obligations.HostResetsKeepTheModule
  intro s herr hbeyond c hc
  have hs : s.HeldInError := ⟨herr, hbeyond⟩
  suffices ∃ t : State, exec c s = .next t.settle ∧ s.PairsStopped t ∧ s.OutsideHostKept t ∧ (c ≠ .linkLost → t.HifCleared) ∧
      (c = .flr → t = (s.disableAll.resetHif).raise Cause.FLR_RECEIVED) ∧ (c = .linkLost → t = s.linkLost) by
    obtain ⟨t, he, hp, hk, hcl, hflr, hlost⟩ := this
    refine ⟨t, he, hp.1, hp.2, hk.epoch, hk.sets, hk.commits, hk.fxg, hk.engs, hk.mem, hk.spk, hk.now, hk.sup, hk.start, hk.word, hcl, hflr, fun h => ?_⟩
    rw [hlost h]
    exact ⟨s.linkUp_linkLost, s.linkLost_eq⟩
  rcases hc with rfl | rfl | ⟨rfl, hl⟩
  · refine ⟨_, exec_flr s, ((State.pairsStopped_disableAll hs).resetHif).raise _ _, ?_, fun _ => (State.hifCleared_resetHif _).raise _ _, fun _ => rfl, nofun⟩
    exact (s.pairsOnly_disableAll.outsideHostKept.trans (State.outsideHostKept_resetHif _)).trans (State.recordsOnly_raise _ _ _).outsideHostKept
  · have hp : s.perstOn.PairsStopped s.perstOn.perstStopped := State.pairsStopped_perstStopped (s := s.perstOn) hs
    refine ⟨_, exec_perstNAssert s, hp.of_perstOn.resetHif.pcieReset, ?_, fun _ => (State.hifCleared_resetHif _).pcieReset, nofun, nofun⟩
    exact ((s.outsideHostKept_perstOn.trans s.perstOn.outsideHostKept_perstStopped).trans (State.outsideHostKept_resetHif _)).trans
      (State.outsideHostKept_pcieReset _)
  · exact ⟨s.linkLost, exec_linkLost s hl, State.pairsStopped_linkLost hs, s.outsideHostKept_linkLost, fun h => absurd rfl h, nofun, fun _ => rfl⟩

end Sys2Proof.Machine
end

section
/-! SUPPORT. The host link's coming up and the supply monitor (R33, R48, R80, R101, R480): equations of the commands, what a sample of V_in changes; and the statements
that these settle. -/
namespace Sys2Proof.Machine

/-- Two commands that act alike end alike. -/
theorem next_settle_congr {t u : State} (h : t = u) : (.next t.settle : Host.Outcome State Fault Refusal) = .next u.settle := by rw [h]

/-! ### The link and the moderation timers (R48, R80, R101, R480) -/

/-- The link in L0 at a generation, which ST08's alternate caps at Gen3, and a width; WAKE# is released. -/
def State.linkTrained (s : State) (gen width : Nat) : State := { s with
  hif := { s.hif with linkUp := true, linkGen := if s.hif.linkCap3 then min gen 3 else gen, linkWidth := width }
  sup := { s.sup with wakePin := false } }

theorem exec_linkUp {gen : Fin 5} {width : BitVec 4} {s : State} (hs : s.endpointUp = true) (hg : gen ≠ 0) (hw : width.toNat ∈ [1, 2, 4]) :
    exec (.linkUp gen width) s = .next (s.linkTrained gen.val width.toNat).sendPending.settle := by
  have hg' : gen.val ≠ 0 := fun e => hg (Fin.ext e)
  have hw' : [1, 2, 4].contains width.toNat = true := List.contains_iff_mem.mpr hw
  show execLinkUp gen width s = _
  rw [execLinkUp, hs, hw', decide_eq_true hg']
  rfl

/-- The timer of a vector runs out TIME_US after its first completion not yet signalled. -/
theorem exec_moderationTimer {v : Fin 64} {s : State} {t0 : Nat} (h : (s.vec v).since = some t0) (hm : s.fget (Fld.HIF_VEC_n_MOD_TIME_US v) ≠ 0) :
    exec (.moderationTimer v) s = .next ((s.passUntil (t0 + 1000 * s.fget (Fld.HIF_VEC_n_MOD_TIME_US v))).fireVec v).settle := by
  show execModerationTimer v s = _
  simp only [execModerationTimer, h, if_neg hm]

/-- Settles O28: the three commands' equations; a vector fires by resetting its count and sending its message. -/
theorem linkAndInterruptEvents : Obligations.LinkAndInterruptEvents := by
  unfold Obligations.LinkAndInterruptEvents
  intro gen width v s
  exact ⟨exec_linkUp, rfl, fun _ h hm => ⟨_, exec_moderationTimer h hm, rfl⟩⟩

/-! ### Power levels that the supply demands (R32, R34) -/

/-- The bands of Table 2.3. -/
theorem energyDemand_cases (e : Nat) :
    (e < 100 ∧ energyDemand e = 5) ∨ (100 ≤ e ∧ e < 200 ∧ energyDemand e = 4) ∨ (200 ≤ e ∧ e < 450 ∧ energyDemand e = 3) ∨
    (450 ≤ e ∧ e < 550 ∧ energyDemand e = 2) ∨ (550 ≤ e ∧ e < 700 ∧ energyDemand e = 1) ∨ (700 ≤ e ∧ energyDemand e = 0) := by
  unfold energyDemand
  split_ifs <;> omega

/-- Settles O36: the bands do not overlap, and the demand is the maximum of both sources by definition. -/
theorem energyAndVoltageDemand : Obligations.EnergyAndVoltageDemand := by
  unfold Obligations.EnergyAndVoltageDemand
  intro p
  have bands := energyDemand_cases p.eNow
  exact ⟨by omega, by omega, by omega, by omega, by omega, by omega, rfl⟩

/-! ### A sample of V_in (R33) -/

/-- A trigger's condition does not hold where V_in has come back past its threshold. -/
theorem vRecovered_eq_false_of_vHolds {strap vin : Nat} {k : VTrig} (h : vHolds strap vin k = true) : vRecovered strap vin k = false := by
  unfold vHolds at h
  unfold vRecovered
  have low : vThreshold k * unOf strap ≤ (vThreshold k + 2) * unOf strap := Nat.mul_le_mul_right _ (Nat.le_add_right _ _)
  have high : (vThreshold k - 2) * unOf strap ≤ vThreshold k * unOf strap := Nat.mul_le_mul_right _ (Nat.sub_le _ _)
  split at h
  all_goals
    simp only [decide_eq_true_eq] at h
    simp only [*, if_true, if_false, decide_eq_false_iff_not]
    omega

namespace Supply

variable (p : Supply) (now vin : Nat) (t k : VTrig)

theorem trig_setTrig (b : Bool) : (p.setTrig t b).trig k = if k = t then b else p.trig k := by
  fin_cases t <;> fin_cases k <;> rfl

@[simp] theorem count_setTrig (b : Bool) : (p.setTrig t b).count k = p.count k := by
  unfold setTrig
  split <;> rfl

theorem count_setCount (c : Option Nat) : (p.setCount t c).count k = if k = t then c else p.count k := by
  simp [count, setCount, Tbl.get_put, Fin.ext_iff]

@[simp] theorem trig_setCount (c : Option Nat) : (p.setCount t c).trig k = p.trig k := rfl

/-- What the supply monitor keeps of one voltage trigger: its dwell count, and whether it is active. -/
def watch : Option Nat × Bool := (p.count k, p.trig k)

/-- What a sample of V_in makes of the count and the activity of a trigger. -/
def sampled (strap now vin : Nat) (k : VTrig) (w : Option Nat × Bool) : Option Nat × Bool :=
  if vRecovered strap vin k then (none, false)
  else if vHolds strap vin k && w.1.isNone then (some now, w.2) else w

theorem watch_seeOne : (p.seeOne now vin t).watch k = if k = t then sampled p.strap now vin k (p.watch k) else p.watch k := by
  by_cases h : k = t
  · subst h
    unfold seeOne sampled watch
    split
    · simp [count_setCount, trig_setTrig]
    · split <;> simp_all [count_setCount]
  · unfold seeOne watch
    split
    · simp [count_setCount, trig_setTrig, h]
    · split <;> simp [count_setCount, h]

/-- `q` is `p` but for the triggers, their counts and the good spells. -/
def MonitorOnly (p q : Supply) : Prop := q = { p with
  vLow1 := q.vLow1, vLow2 := q.vLow2, vInt := q.vInt, vHigh1 := q.vHigh1, vHigh2 := q.vHigh2
  dwell := q.dwell, vOkSince := q.vOkSince, goodSince := q.goodSince }

variable {p} in
theorem MonitorOnly.trans {q r : Supply} (h : p.MonitorOnly q) (k : q.MonitorOnly r) : p.MonitorOnly r := by
  unfold MonitorOnly at *
  rw [k, h]

theorem monitorOnly_setTrig (b : Bool) : p.MonitorOnly (p.setTrig t b) := by
  unfold setTrig
  split <;> rfl

theorem monitorOnly_seeOne : p.MonitorOnly (p.seeOne now vin t) := by
  unfold seeOne
  split
  · exact (p.monitorOnly_setTrig t false).trans rfl
  · split <;> rfl

@[simp] theorem strap_seeOne : (p.seeOne now vin t).strap = p.strap := by rw [p.monitorOnly_seeOne now vin t]

theorem monitorOnly_foldl_seeOne (l : List VTrig) : p.MonitorOnly (l.foldl (fun p t => p.seeOne now vin t) p) := by
  induction l generalizing p with
  | nil => rfl
  | cons t l ih => exact (p.monitorOnly_seeOne now vin t).trans (ih _)

theorem watch_foldl_seeOne {l : List VTrig} (hl : l.Nodup) :
    (l.foldl (fun p t => p.seeOne now vin t) p).watch k = if k ∈ l then sampled p.strap now vin k (p.watch k) else p.watch k := by
  induction l generalizing p with
  | nil => rfl
  | cons t l ih =>
    obtain ⟨ht, hl⟩ := List.nodup_cons.mp hl
    rw [List.foldl_cons, ih _ hl, p.watch_seeOne, strap_seeOne]
    by_cases e : k = t
    · subst e
      simp [ht]
    · simp [e]

/-- A sample of V_in changes nothing but V_in, the triggers, their counts and the good spells. -/
theorem monitorOnly_see : ({ p with vin } : Supply).MonitorOnly (p.see now vin) :=
  (monitorOnly_foldl_seeOne { p with vin } now vin [0, 1, 2, 3, 4]).trans rfl

theorem watch_see : (p.see now vin).watch k = sampled p.strap now vin k (p.watch k) := by
  have all : k ∈ ([0, 1, 2, 3, 4] : List VTrig) := by revert k; decide
  exact (watch_foldl_seeOne { p with vin } now vin k (by decide)).trans (if_pos all)

@[simp] theorem strap_see : (p.see now vin).strap = p.strap := by rw [p.monitorOnly_see now vin]
@[simp] theorem vin_see : (p.see now vin).vin = vin := by rw [p.monitorOnly_see now vin]
@[simp] theorem eNow_see : (p.see now vin).eNow = p.eNow := by rw [p.monitorOnly_see now vin]
@[simp] theorem abandoned_see : (p.see now vin).abandoned = p.abandoned := by rw [p.monitorOnly_see now vin]

variable {p vin k}

/-- The dwell count starts at a sample at which the trigger's condition holds. -/
theorem count_see_of_vHolds (h : vHolds p.strap vin k = true) (hc : p.count k = none) : (p.see now vin).count k = some now := by
  have e : (p.see now vin).watch k = (some now, p.trig k) := by
    rw [watch_see, sampled, vRecovered_eq_false_of_vHolds h, h, watch, hc]
    rfl
  exact congrArg Prod.fst e

/-- The count and the trigger end at a sample 0.02 Un past the threshold. -/
theorem see_of_vRecovered (h : vRecovered p.strap vin k = true) : (p.see now vin).count k = none ∧ (p.see now vin).trig k = false := by
  have e : (p.see now vin).watch k = (none, false) := by rw [watch_see, sampled, if_pos h]
  exact Prod.mk.inj e

end Supply

/-! ### Leaving Off (R25, R30, R31) -/

theorem State.sup_bankMeasured (s : State) (mJ : Nat) : (s.bankMeasured mJ).sup = { s.sup with eFull := mJ } := by
  unfold State.bankMeasured
  dsimp only
  split <;> split <;> simp

@[simp] theorem State.sup_passVOk (s : State) (ns : Nat) : (s.passVOk ns).sup = s.sup := by
  unfold State.passVOk
  cases s.sup.vOkSince <;> rfl

/-- A sample of V_in and a measurement of E_FULL, with `p` the monitor's values before them. -/
def State.measured (s : State) (p : Supply) (vin eFull : Nat) : State := ({ s with sup := p.see s.now vin } : State).bankMeasured eFull

/-- The module begins a start, or the attempt that E4 had abandoned, when V_in has held for 1 s. -/
def State.begun (s : State) : State :=
  let v := s.passVOk 1000000000
  let w := ({ v with sup := v.sup.atStart v.now } : State)
  if s.sup.abandoned then w.beginAttempt 3 else w.startFromOff

theorem State.leaveOff_eq (s : State) : s.leaveOff = if s.mayStart then s.begun else s := by
  have e : (s.passVOk 1000000000).sup.abandoned = s.sup.abandoned := by rw [State.sup_passVOk]
  unfold State.leaveOff State.begun
  rw [← e]
  rfl

section
variable (s : State) (p : Supply) (vin eFull : Nat)

theorem State.abandoned_measured : (s.measured p vin eFull).sup.abandoned = p.abandoned := by
  rw [State.measured, State.sup_bankMeasured]
  exact p.abandoned_see s.now vin

/-- R30 on the values measured. -/
theorem State.mayStart_measured :
    (s.measured p vin eFull).mayStart = true ↔ vOkOf p.strap vin = true ∧ restoreEnergy eFull ≤ 1000 * p.eNow ∧ 200 ≤ eFull := by
  simp [State.mayStart, State.vOk, Supply.restorable, State.measured, State.sup_bankMeasured, and_assoc]

end

/-- The monitor's values from which SUPPLY_START decides with a good strap: fresh ones from Off, the new energies in the Sprout domain. -/
def State.SupplyTaken (s : State) (strap e eFull : Nat) (p : Supply) : Prop :=
  (s.sup.power = .off ∧ strap < 6 ∧ p = { (({} : Supply)) with power := .sprout, strap, eNow := e, eFull, strapBad := false }) ∨
  (s.sup.power = .sprout ∧ s.sup.strapBad = false ∧ p = { s.sup with eNow := e, eFull })

theorem State.SupplyTaken.eNow {s : State} {strap e eFull : Nat} {p : Supply} (h : s.SupplyTaken strap e eFull p) : p.eNow = e := by
  obtain ⟨-, -, rfl⟩ | ⟨-, -, rfl⟩ := h <;> rfl

theorem State.supplyStart_taken {s : State} {strap e eFull : Nat} {p : Supply} (vin : Nat) (h : s.SupplyTaken strap e eFull p) :
    s.supplyStart strap vin e eFull = (s.measured p vin eFull).leaveOff := by
  unfold State.supplyStart State.measured
  obtain ⟨hp, hs, rfl⟩ | ⟨hp, hb, rfl⟩ := h
  · have hn : ¬ 6 ≤ strap := Nat.not_le.mpr hs
    simp only [if_pos hp, if_neg hn, decide_eq_false hn]
  · have hn : s.sup.power ≠ .off := by simp [hp]
    rw [if_neg hn, if_pos ⟨hp, hb⟩]

theorem State.supplyStart_badStrap {s : State} {strap : Nat} (vin e eFull : Nat) (hp : s.sup.power = .off) (h : 6 ≤ strap) :
    s.supplyStart strap vin e eFull = ({ s with sup :=
      ({ (({} : Supply)) with power := .sprout, strap, eNow := e, eFull, strapBad := true }).see s.now vin } : State).raiseQuiet Cause.STRAP_INVALID := by
  simp only [State.supplyStart, if_pos hp, if_pos h, decide_eq_true h]

/-! ### Voltage and energy events (R33, R34, R37, R38) -/

section
variable {s : State}

theorem State.voltageTrigger_counting {k : VTrig} {vin c : Nat} (h : s.sup.power ≠ .off) (hc : (s.sampleVin vin).sup.count k = some c) :
    s.voltageTrigger k vin = ((s.sampleVin vin).passUntil (c + vDwell k)).trigDue := by
  simp only [State.voltageTrigger, if_neg h, hc]

theorem State.voltageTrigger_idle {k : VTrig} {vin : Nat} (h : s.sup.power ≠ .off) (hc : (s.sampleVin vin).sup.count k = none) :
    s.voltageTrigger k vin = s.sampleVin vin := by
  simp only [State.voltageTrigger, if_neg h, hc]

theorem exec_voltageTriggerClear {k : Fin 5} {vin : BitVec 16} (h : s.sup.power ≠ .off) (hr : vRecovered s.sup.strap vin.toNat k = true) :
    exec (.voltageTriggerClear k vin) s = .next (s.sampleVin vin.toNat).settle :=
  congrArg Host.Outcome.next (if_pos ⟨h, hr⟩)

/-- V_in and E are sampled before a restore is decided (R38). -/
def State.supplySampled (s : State) (vin e : Nat) : State := (s.sampleVin vin).energyTrigger e

theorem State.levelRestore_noSpell {vin e : Nat} (h : s.sup.power ≠ .off) (hg : (s.supplySampled vin e).sup.goodSince = none) :
    s.levelRestore vin e = s.supplySampled vin e := by
  unfold State.supplySampled at *
  simp only [State.levelRestore, if_neg h, hg]

/-- The end of the restore dwell, and the supply level one step lower (R38). -/
def State.restoredFrom (s : State) (g : Nat) : State :=
  let v := s.passUntil (max g s.sup.levelAt + 500000000 * s.fget Fld.PWR_CONFIG_RESTORE_DWELL)
  ({ v with sup := { v.sup with supplyLevel := v.sup.supplyLevel - 1, levelAt := v.now } } : State).setLevels

theorem State.levelRestore_spell {vin e g : Nat} (h : s.sup.power ≠ .off) (hg : (s.supplySampled vin e).sup.goodSince = some g)
    (h0 : 0 < (s.supplySampled vin e).sup.supplyLevel) (h5 : (s.supplySampled vin e).sup.supplyLevel < 5)
    (hd : (s.supplySampled vin e).sup.demand < (s.supplySampled vin e).sup.supplyLevel) (hf : (s.supplySampled vin e).sup.flushing = false) :
    s.levelRestore vin e = (s.supplySampled vin e).restoredFrom g := by
  unfold State.supplySampled at *
  simp only [State.levelRestore, if_neg h, hg]
  exact if_pos ⟨h0, h5, hd, hf⟩

/-- The state at the end of the orderly off, before the command's end (R37, R49). -/
def State.switchedOff (s : State) : State :=
  let u := (s.actRounds 8).fastDomainOff.unitsReset
  { u with
    sup := { (({} : Supply)) with strap := u.sup.strap, eFull := u.sup.eFull }
    regs := [], latches := [], holding := [], stWords := [], qps := []
    hif := { (({} : Hif)) with sent := u.hif.sent, hostWrites := u.hif.hostWrites, hostRead := u.hif.hostRead, perst := u.hif.perst }
    brk := { (({} : Brake)) with wdogLevel := u.brk.wdogLevel, safeSup := u.brk.safeSup }
    start := { (({} : Start)) with failedAttempts := u.start.failedAttempts, cut := u.start.cut } }

theorem exec_orderlyOffDone (h : s.sup.flushing = true) : exec .orderlyOffDone s = .next s.switchedOff.settle :=
  congrArg Host.Outcome.next (if_pos h)

end

/-- Settles O37: each command's equation in the case named, and what a sample of V_in makes of a trigger. That one measurement may raise both bank notices is log 22, that
VOLTAGE_TRIGGER and LEVEL_RESTORE let the rest of a dwell pass log 204 and 205. -/
theorem supplyEvents : Obligations.SupplyEvents := by
  unfold Obligations.SupplyEvents
  intro strap vin e eFull mJ k s
  refine ⟨fun hp hs => ?badStrap, fun p hp => ?start, rfl, Supply.count_see_of_vHolds _, Supply.see_of_vRecovered _, fun h => ⟨fun c hc => ?counting, fun hc => ?idle⟩,
    exec_voltageTriggerClear, fun h => ?energy, fun h => ⟨fun hg => ?noSpell, fun g hg h0 h5 hd hf => ?spell⟩,
    fun h => ⟨s.switchedOff, exec_orderlyOffDone h, rfl, rfl, rfl, rfl, rfl⟩, rfl⟩
  case badStrap => exact next_settle_congr (State.supplyStart_badStrap _ _ _ hp hs)
  case start =>
    have taken : s.SupplyTaken strap.toNat e.toNat eFull.toNat p := hp
    have decided := State.mayStart_measured s p vin.toNat eFull.toNat
    refine next_settle_congr ?_
    rw [State.supplyStart_taken _ taken, State.leaveOff_eq, State.begun, State.abandoned_measured, ← taken.eNow]
    exact if_congr decided rfl rfl
  case counting => exact next_settle_congr (State.voltageTrigger_counting h hc)
  case idle => exact next_settle_congr (State.voltageTrigger_idle h hc)
  case energy => exact next_settle_congr (if_neg h)
  case noSpell => exact next_settle_congr (State.levelRestore_noSpell h hg)
  case spell => exact next_settle_congr (State.levelRestore_spell h hg h0 h5 hd hf)

end Sys2Proof.Machine
end

section
/-! SUPPORT. What a command answers: a next state to every well-formed one, with safe safety lines where they were safe (R71, R450, R456); and the statements that this
settles. -/
namespace Sys2Proof.Machine

variable {s t u : State}

/-- The safety lines are as safe in `t` as in `s`; where nothing that they rest on differs, `id` proves it. -/
def State.KeepsLines (s t : State) : Prop := s.LinesSafe → t.LinesSafe

theorem State.KeepsLines.refl : s.KeepsLines s := id

theorem State.KeepsLines.settle (u : State) : s.KeepsLines u.settle := fun _ => u.linesSafe_settle

theorem State.KeepsLines.ite {c : Prop} [Decidable c] (ht : s.KeepsLines t) (hu : s.KeepsLines u) : s.KeepsLines (if c then t else u) := by
  split
  · exact ht
  · exact hu

theorem State.KeepsLines.takeUp {op n : Nat} {d : List Byte} {f : State → List Byte → State} : s.KeepsLines (s.takeUp op n d f) := by
  unfold State.takeUp
  refine .ite .refl ?_
  split
  · exact .refl
  · exact .ite .refl (.settle _)

theorem State.cams_afterRead (s : State) (off len : Nat) : s.afterRead off len = { s with cams := (s.afterRead off len).cams } := by
  simp only [State.afterRead, List.range_succ, List.range_zero, List.nil_append, List.cons_append, List.foldl_cons, List.foldl_nil]
  split <;> split <;> rfl

theorem State.KeepsLines.hostReads {off : Nat} : s.KeepsLines (s.hostReads off) := by
  unfold State.hostReads
  split
  · exact id
  · refine .ite id ?_
    rw [s.cams_afterRead]
    exact .ite id id

/-- The answer of a command in state `s`: a next state, whose lines are as safe, to a well-formed command, and a refusal to any other. -/
inductive State.Answer (s : State) : Bool → Host.Outcome State Fault Refusal → Prop
  | next {t : State} (h : s.KeepsLines t) : s.Answer true (.next t)
  | refused (r : Refusal) : s.Answer false (.refused r)

theorem State.Answer.next_of_true {o : Host.Outcome State Fault Refusal} (h : s.Answer true o) : ∃ t, o = .next t := by
  cases h with
  | next => exact ⟨_, rfl⟩

theorem State.Answer.keepsLines {b : Bool} {o : Host.Outcome State Fault Refusal} (h : s.Answer b o) (e : o = .next t) : s.KeepsLines t := by
  cases h with
  | next keeps => exact Host.Outcome.next.inj e ▸ keeps
  | refused => cases e

theorem State.Answer.takenUp {b : Bool} {op n : Nat} {d : List Byte} {f : State → List Byte → State} {r : Refusal} :
    s.Answer b (if b then .next (s.takeUp op n d f) else .refused r) := by
  cases b with
  | true => exact .next .takeUp
  | false => exact .refused r

/-- Nearly every command ends with `settle`, or does so where its condition holds and is without effect elsewhere; a descriptor command goes through the gate. -/
theorem exec_answer (c : Instr) (s : State) : s.Answer c.wellFormed (exec c s) := by
  cases c with
  | unalignedAccess | sysLockSet | go | restart | jrnStepClear | brkRestart | llcCountClear | qpEnable | qpDisable | startStep | cqHeadDoorbell
  | descriptorFetch | flr | supplyStart | voltageTrigger | energyTrigger | levelRestore | bankMeasurement | crystalFail | wake | engineGate
  | selftest | warnReadback | hubLockstep | hubWatchdog | clockFault | railFault | stemFault | sleepStrobe | cxpControlRead | cxpControlWrite
  | cxpLine | triggerTimeout | cxpLinkLoss | cxpDiscovery | cxpEventPacket | csi2FrameStart | csi2LongPacket | csi2FrameEnd | apyLinkDown | apyLinkUp
  | sensorWriteAck | sensorWriteFail | decodedPicture | sampleEmit | forwardStep | stepBackApply | launch | launchDeadline | commitEffect
  | commitTimeout | drainReprogramDone | arrayProgramDone | patrolRead | retirementBackingMove | solveEnd | truingStoreWrite | iterationStart
  | checkpoint | iterationEnd | decisionDeadline | taskEnd | preemption | saveComplete | restoreComplete | teardownComplete | jobDeadline
  | starveClaim | carriageDelivery | chainTimeout | scrubPass | dramOvertemp | pieceSend | barrierTimeout | ackTimer | retransmitTimeout | helloTimer
  | peerLostTimeout | peerSlotRelease | encoderSample | standstill | settlingEnd | encSignalFault | encFaultEnd | encAmplitudeWarn | compareFire
  | cmpExpired | pulseEnd | generatorPoint | actReadbackFault | actTestPulse | actOverload | overloadHoldEnd | actMaxOn | mswEdge | perstNAssert
  | perstNRelease | safeOkReadback | safeSupChange | ctlResponse | taskFault | mvm =>
    exact .next (.settle _)
  | stepTimeout | fastDomainRestart | cqStall | linkLost | linkUp | voltageTriggerClear | orderlyOffDone | dozeToHold | dozeWakeComplete
  | wakeRelease | autoRestart | warnHold | obstacleInputLost | warnTestPulse | ctlTimeout | intakeProgramEffect | ptpMessage | patrolResolve
  | variantChange | planChangeResume | referenceMark | actSupplyLost | actSupplyRestored | trgReadbackFault | ethernetLinkChange | serialIdle
  | amplitudeStep | ppsInEdge | ppsOutSecond | serialSend =>
    exact .next (.ite (.settle _) .refl)
  | ihlexTile | ihlexAck | ihlexDoorbell | ihlexJoin | ihlexRelease | ihlexHello =>
    exact .next (.ite .refl (.settle _))
  | stageRegisterList | fence | readState | readFaultQueue | powerRequest | streamOpen | streamClose | intake | timedSend | timeStepBack
  | stageScheduleImage | stageCorrectionBlock | commitConfig | commitAbandon | programArrays | verifyArrays | arrayRetire | solve | testIterationRun
  | contextKill | run | ihlexTilePush | remoteDoorbellPush | hostBarrierJoin | cmpLoad | journalRead | badOpcode =>
    exact .takenUp
  | reg64LowRead => exact .next .hostReads
  | registerWrite => exact .next (.ite (.settle _) (.settle _))
  | brkCrossCheck => exact .next (.ite .refl (.settle _))
  | hostDmaError => exact .next (.ite (.settle _) (.ite .refl (.ite (.settle _) (.settle _))))
  | frameReceive => exact .next (.ite (.ite (.settle _) .refl) (.ite (.settle _) .refl))
  | wdogEdge => exact .next (.ite (.settle _) (.settle _))
  | tempMonitor => exact .next (.ite (.settle _) (.ite (.settle _) (.settle _)))
  | baseplateHot | powerDerate => exact .next (.ite (.ite (.settle _) (.settle _)) (.settle _))
  | sqTailDoorbell page off width value =>
    cases value with
    | none => exact .next id
    | some v => exact .next (.settle _)
  | moderationTimer =>
    refine .next ?_
    split
    · exact .refl
    · exact .ite .refl (.settle _)
  | latchedWakeStart =>
    refine .next ?_
    split
    · exact .refl
    · exact .ite (.settle _) (.settle _)
  | sleepEntry =>
    refine .next (.ite .refl ?_)
    split
    · exact .settle _
    · exact .settle _
    · exact .refl
  | extWatchdog =>
    refine .next ?_
    split
    · exact .settle _
    · exact .refl
  | gateEntry | sensorLost | decodeGap | streamSilent =>
    refine .next ?_
    split
    · exact .ite (.settle _) .refl
    · exact .refl
  | fdbAgeing =>
    refine .next ?_
    split
    · exact .settle _
    · exact .refl
  | ptpSyncTimeout | ppsInTimeout | holdoverExpired =>
    refine .next ?_
    split
    · exact .refl
    · exact .settle _
  | ptpPortTimer =>
    refine .next ?_
    split <;> exact .ite (.settle _) .refl
  | serialCharacter =>
    refine .next (.ite ?_ .refl)
    split
    · exact .settle _
    · exact .refl

/-- Settles O1: `exec_answer` of a well-formed command. -/
theorem everyCommandAnswers : Obligations.EveryCommandAnswers := by
  unfold Obligations.EveryCommandAnswers
  intro c s h
  exact (h ▸ exec_answer c s).next_of_true

theorem State.KeepsLines.idle : s.KeepsLines s.idle := .ite .refl id

/-- Settles O6: idle time changes no line, and a command keeps them by `exec_answer`. -/
theorem everyStepKeepsLinesSafe : Obligations.EveryStepKeepsLinesSafe := by
  unfold Obligations.EveryStepKeepsLinesSafe
  intro s t safe hs
  unfold step at hs
  split at hs
  · cases hs
    exact State.KeepsLines.idle safe
  · exact (exec_answer _ _).keepsLines hs safe

end Sys2Proof.Machine
end

section
/-! SUPPORT. The start sequence and the journal, as chapter 3 states them: step histories, how a start step ends, a failed attempt, JRN_STEP_CLEAR; and the statements that
these settle. -/
namespace Sys2Proof.Machine

/-! ### The history after a failed step (R64) -/

theorem StepHist.fail_state (h : StepHist) (n outcome cause count : Nat) : (h.fail n outcome cause count).state =
    match h.state with
    | .primary => .retry
    | .retry => if skippable n then .skipped else .halted
    | .skipped => .skipped
    | .halted => .halted := by
  unfold StepHist.fail
  cases h.state <;> rfl

theorem StepHist.fail_consec (h : StepHist) (n outcome cause count : Nat) : (h.fail n outcome cause count).consec =
    match h.state with
    | .primary => 1
    | .retry => 2
    | .skipped | .halted => h.consec := by
  unfold StepHist.fail
  cases h.state <;> rfl

theorem StepHist.fail_failures (h : StepHist) (n outcome cause count : Nat) :
    (h.fail n outcome cause count).failures = min (h.failures + 1) (2 ^ 32 - 1) := by
  unfold StepHist.fail
  cases h.state <;> rfl

theorem skippable_iff {n : Nat} : skippable n = true ↔ n ∈ [7, 10, 12, 16, 17, 18] := List.contains_iff_mem

/-- Settles O33: each line of Table 3.2 is a case of the state that the step had. -/
theorem stepHistoryFails : Obligations.StepHistoryFails := by
  unfold Obligations.StepHistoryFails
  intro h n outcome cause count
  have state := h.fail_state n outcome cause count
  have consec := h.fail_consec n outcome cause count
  refine ⟨fun e => ?_, fun e => ?_, fun e => ?_, fun e => ?_, h.fail_failures n outcome cause count⟩
  · rw [state, consec, e]; exact ⟨rfl, rfl⟩
  · rw [state, consec, e]; exact ⟨if_congr skippable_iff rfl rfl, rfl⟩
  · rw [state, e]
  · rw [state, e]

section
variable (s : State)

@[simp] theorem State.start_jrnWrite (type : Nat) (p : List Byte) : (s.jrnWrite type p).start = s.start := by
  rw [(s.recordsOnly_jrnWrite type p).1]

@[simp] theorem State.start_stepResult (n action outcome code dur detail : Nat) : (s.stepResult n action outcome code dur detail).start = s.start :=
  s.start_jrnWrite _ _

@[simp] theorem State.start_raiseStep (code n : Nat) : (s.raiseStep code n).start = s.start := s.start_raise code n

/-! ### The loss of the fast domain (R62, R63) -/

theorem State.fastDomainOff_eq : s.fastDomainOff = { s.unitsReset with
    spk := s.unitsReset.outsOff.spk
    hif := { s.hif with linkUp := false, fetchStopped := false }
    brk := { s.brk with warnA := false, warnB := false, warnAvail := false, safeOkA := false, safeOkB := false, wdogOn := false, testPulse := none, firstDecision := false }
    start := { s.start with stepOpen := false, passed := [], skipped := [], st19Passed := false, st21Passed := false } } := by
  unfold State.fastDomainOff State.outputsOff State.unitsOff
  rw [State.outsOff_spk]
  rfl

theorem State.start_fastDomainOff : s.fastDomainOff.start =
    { s.start with stepOpen := false, passed := [], skipped := [], st19Passed := false, st21Passed := false } := by rw [s.fastDomainOff_eq]

@[simp] theorem State.jrn_fastDomainOff : s.fastDomainOff.jrn = s.jrn := by
  rw [s.fastDomainOff_eq]
  rfl

@[simp] theorem State.spk_fastDomainOff : s.fastDomainOff.spk = s.unitsReset.outsOff.spk := by rw [s.fastDomainOff_eq]

theorem State.on_out_fastDomainOff {o : Nat} (h : o < 12) : (s.fastDomainOff.out o).on = false := by
  have e : s.fastDomainOff.out o = s.unitsReset.outsOff.out o := by rw [State.out, s.spk_fastDomainOff, State.out]
  rw [e, State.on_outsOff _ o h]

/-- The end of a failed attempt: the fast domain is off for 100 ms, and `cut` is the step that the journal does not explain (R62, R65). -/
def State.attemptFailed (s : State) (cut : Option (Nat × Nat)) : State :=
  { s.fastDomainOff with start := { s.fastDomainOff.start with cut, fastOff := true, failedAttempts := s.fastDomainOff.start.failedAttempts + 1 } }

/-- The outputs and the link are held while the fast domain is off after a failed attempt, of which `k` are counted (R63, R66). -/
def State.OutputsHeld (t : State) (k : Nat) : Prop :=
  t.hif.linkUp = false ∧ t.brk.warnA = false ∧ t.brk.warnB = false ∧ t.brk.warnAvail = false ∧ t.brk.safeOkA = false ∧ t.brk.safeOkB = false ∧
    (∀ o, o < 12 → (t.out o).on = false) ∧ t.start.stepOpen = false ∧ t.start.passed = [] ∧ t.start.fastOff = true ∧ t.start.failedAttempts = k

@[simp] theorem State.spk_attemptFailed (cut : Option (Nat × Nat)) : (s.attemptFailed cut).spk = s.fastDomainOff.spk := by
  rw [State.attemptFailed]

@[simp] theorem State.jrn_attemptFailed (cut : Option (Nat × Nat)) : (s.attemptFailed cut).jrn = s.jrn := by
  rw [State.attemptFailed, s.jrn_fastDomainOff]

@[simp] theorem State.cut_attemptFailed (cut : Option (Nat × Nat)) : (s.attemptFailed cut).start.cut = cut := by
  rw [State.attemptFailed]

theorem State.outputsHeld_attemptFailed (cut : Option (Nat × Nat)) : (s.attemptFailed cut).OutputsHeld (s.start.failedAttempts + 1) := by
  have outs : ∀ o, o < 12 → ((s.attemptFailed cut).out o).on = false := fun o h => by
    rw [State.out, State.spk_attemptFailed, ← State.out, s.on_out_fastDomainOff h]
  refine ⟨?_, ?_, ?_, ?_, ?_, ?_, outs, ?_, ?_, rfl, ?_⟩ <;> rw [State.attemptFailed, s.fastDomainOff_eq]

/-! ### The failure of a start step (R62, R64, R65) -/

/-- `y` is of the attempt of `x`: the same bring-up, and as many failed attempts before it. -/
def Start.SameAttempt (x y : Start) : Prop := y.bringUp = x.bringUp ∧ y.failedAttempts = x.failedAttempts

theorem Start.sameAttempt_tried (x : Start) (n : Nat) (h : StepHist) : x.SameAttempt (({ x with stepOpen := false } : Start).tried n h) := by
  unfold Start.tried
  split <;> exact ⟨rfl, rfl⟩

theorem State.failStep_eq {outcome cause dur detail : Nat} (h : s.start.bringUp = false) :
    ∃ (w : State) (cut : Option (Nat × Nat)), s.start.SameAttempt w.start ∧ s.failStep outcome cause dur detail = w.attemptFailed cut := by
  unfold State.failStep
  extract_lets n before after noted _ entered failed skipped _ unusable w off
  have same : s.start.SameAttempt entered.start := by
    rw [← s.start_stepResult n _ outcome cause dur detail]
    exact noted.start.sameAttempt_tried n after
  have startSkipped : skipped.start = entered.start := by
    show (if _ then _ else _ : State).start = _
    split <;> simp [failed]
  have startW : w.start = entered.start := by
    rw [← startSkipped]
    show (if _ then _ else _ : State).start = _
    split
    · split
      · rfl
      · rw [State.start_raise]
    · rfl
  rw [← startW] at same
  exact ⟨w, off.start.cut, same, if_neg (by simp [same.1, h])⟩

theorem State.cutStep_eq (h : s.start.supplyLost = false) : s.cutStep = s.attemptFailed (some (s.start.step, if s.start.alternate then 1 else 0)) := by
  rw [State.cutStep, h, State.attemptFailed]
  exact if_neg Bool.false_ne_true

theorem State.start_abandonStart : s.abandonStart.start.failedAttempts = s.start.failedAttempts ∧ s.abandonStart.start.cut = s.start.cut := by
  have off : s.fastDomainOff.start.failedAttempts = s.start.failedAttempts ∧ s.fastDomainOff.start.cut = s.start.cut := by
    rw [s.start_fastDomainOff]
    exact ⟨rfl, rfl⟩
  unfold State.abandonStart
  generalize s.fastDomainOff = u at off ⊢
  split
  · rw [State.start_raise]
    exact ⟨rfl, rfl⟩
  · split
    · rw [State.start_raise]
      exact off
    · exact off

end

/-- Settles O35: both ends of an attempt are `attemptFailed`, and a loss of supply abandons the start. -/
theorem failedAttemptHoldsOutputs : Obligations.FailedAttemptHoldsOutputs := by
  unfold Obligations.FailedAttemptHoldsOutputs
  intro s outcome cause dur detail up
  refine ⟨?_, fun kept => ?_, fun lost => ?_⟩
  · rintro t (rfl | ⟨kept, rfl⟩)
    · obtain ⟨w, cut, same, e⟩ := s.failStep_eq (outcome := outcome) (cause := cause) (dur := dur) (detail := detail) up
      rw [e, ← same.2]
      exact w.outputsHeld_attemptFailed cut
    · rw [s.cutStep_eq kept]
      exact s.outputsHeld_attemptFailed _
  · rw [s.cutStep_eq kept]
    exact ⟨s.jrn_attemptFailed _, s.cut_attemptFailed _⟩
  · rw [State.cutStep, if_pos lost]
    exact s.start_abandonStart

/-! ### The end of a start step (R60 to R66) -/

section
variable {s q : State} {ok : Bool} {cause dur detail : Nat} {x : StepInput}

theorem State.endStep_cut (h : s.start.stepOpen = true) : s.endStep ok true cause dur detail x = (s.passUntil (s.now + dur * 1000)).cutStep := by
  rw [State.endStep, h]
  rfl

/-- The end of ST22 of a wake from Hold (R70). -/
theorem State.endStep_wake (h : s.start.stepOpen = true) (hp : s.start.phase ≠ .awaitGo) (hn : s.start.step = 22) (hc : s.jrn.snapshot.crcOk = true) :
    s.endStep ok false cause dur detail x = (s.passUntil (s.now + dur * 1000)).restoreSnapshot.passStep dur detail x := by
  rw [State.endStep, h]
  exact (if_neg hp).trans ((if_pos hn).trans (if_pos hc))

@[simp] theorem State.holdWake_damageSeen : (s.damageSeen x).start.holdWake = s.start.holdWake := by
  unfold State.damageSeen
  dsimp only
  split <;> rfl

/-! The end of any other step, on the state `q` in which the damage to the journal shows. -/

variable (h : s.start.stepOpen = true) (hp : s.start.phase ≠ .awaitGo) (hq : q = (s.passUntil (s.now + dur * 1000)).damageSeen x)
include h hp hq

/-- A test iteration that does not pass (R287). -/
theorem State.endStep_mismatch (hn : s.start.step = 21) (hm : Image.mask q.fxg.image ≠ 0) :
    s.endStep false false cause dur detail x = (q.raiseRow Cause.TEST_MISMATCH 0).failStep 1 Cause.TEST_MISMATCH dur detail := by
  subst hq
  simp [State.endStep, h, hp, hn, hm]

variable (hn : s.start.step ≠ 22)
include hn

theorem State.endStep_faulty {c row : Nat} (ht : ok = true ∨ s.start.step ≠ 21) (hf : q.stepFault s.start.step x = some (c, row)) (hc : c ≠ 0) :
    s.endStep ok false cause dur detail x = (q.raiseRow c row).failStep 1 c dur detail := by
  subst hq
  rcases ht with ht | ht <;> simp [State.endStep, h, hp, hn, hf, hc, ht]

theorem State.endStep_passed (hf : q.stepFault s.start.step x = none) (hd : dur ≤ 1000 * stepMax s.start.step s.start.holdWake q.start.alternate)
    (hj : s.start.step = 1 → q.start.alternate = true ∨ q.jrn.mountFails = false) :
    s.endStep true false cause dur detail x = (q.passStep dur detail x).latchedGo := by
  have mounted : (decide (s.start.step = 1) && !q.start.alternate && q.jrn.mountFails) = false := by
    by_cases one : s.start.step = 1
    · rcases hj one with e | e <;> simp [e]
    · simp [one]
  subst hq
  simp [State.endStep, h, hp, hn, hf, hd, mounted]

theorem State.endStep_failed (ht : s.start.step ≠ 21) (hf : q.stepFault s.start.step x = none) :
    s.endStep false false cause dur detail x = q.failStep 1 cause dur detail := by
  subst hq
  simp [State.endStep, h, hp, hn, hf, ht]

end

theorem exec_startStep (ok cut : Bool) (cause : BitVec 16) (dur detail : Word) (x : StepInput) (s : State) :
    exec (.startStep ok cut cause dur detail x) s = .next (s.endStep ok cut cause.toNat dur.toNat detail.toNat x).settle := rfl

theorem exec_stepTimeout {s : State} (h : s.start.stepOpen = true) (hp : s.start.phase ≠ .awaitGo) (hn : s.start.step ≠ 22) :
    let ms := stepMax s.start.step s.start.holdWake s.start.alternate
    exec .stepTimeout s = .next ((s.passUntil (s.now + ms * 1000000)).failStep 1 0 (ms * 1000) 0).settle :=
  congrArg Host.Outcome.next (if_pos (by simp [h, hp, hn]))

theorem exec_fastDomainRestart {s : State} (h : s.start.fastOff = true) :
    let u := s.passUntil (s.now + 100000000)
    exec .fastDomainRestart s = .next (if 8 ≤ s.start.failedAttempts then u.startLoop else u.beginAttempt 3).settle :=
  congrArg Host.Outcome.next (if_pos h)

/-- Settles O34: the ends of a start step one by one, each by its equation of `endStep`. -/
theorem startStepsEnd : Obligations.StartStepsEnd := by
  unfold Obligations.StartStepsEnd
  intro ok cause dur detail x s p q inTime
  refine ⟨fun h => ?cut, fun h hp hn hc => ?wake, fun h hp hn => ⟨fun hok hd hf hj => ?passed, fun hok h21 hm => ?mismatch, fun c row ht hf hc => ?faulty, fun hok ht hf => ?failed⟩,
    exec_stepTimeout, exec_fastDomainRestart⟩
  case cut => exact next_settle_congr (State.endStep_cut h)
  case wake => exact next_settle_congr (State.endStep_wake h hp hn hc)
  case passed =>
    subst hok
    exact next_settle_congr (State.endStep_passed h hp rfl hn hf (of_decide_eq_true hd) hj)
  case mismatch =>
    subst hok
    exact next_settle_congr (State.endStep_mismatch h hp rfl h21 hm)
  case faulty => exact next_settle_congr (State.endStep_faulty h hp rfl hn ht hf hc)
  case failed =>
    subst hok
    exact next_settle_congr (State.endStep_failed h hp rfl hn ht hf)

/-! ### The history of the steps (R64, R74, R75) -/

section
variable {j : Journal} {n : Nat} (e : StepHist)

theorem Journal.entry_one (h : j.retOk = true) : j.entry 1 = j.st01 := by simp [Journal.entry, h]

theorem Journal.entry_of_ne_one (h : n ≠ 1) : j.entry n = j.history.entries.get (fun _ => {}) n := if_neg h

theorem Journal.setEntry_one : j.setEntry 1 e = { j with st01 := e, retOk := true } := rfl

theorem Journal.setEntry_of_uses1 (hn : n ≠ 1) (hf : j.failed = false) (u : j.uses1 = true) :
    j.setEntry n e = { j with hist0 := ⟨true, j.hist1.generation + 1, j.history.entries.put (fun _ => {}) n e⟩ } := by
  simp only [Journal.setEntry, if_neg hn, hf, u, if_true, Bool.false_eq_true, if_false]

theorem Journal.setEntry_of_not_uses1 (hn : n ≠ 1) (hf : j.failed = false) (u : j.uses1 = false) :
    j.setEntry n e = { j with hist1 := ⟨true, j.hist0.generation + 1, j.history.entries.put (fun _ => {}) n e⟩ } := by
  simp only [Journal.setEntry, if_neg hn, hf, u, Bool.false_eq_true, if_false]

/-- Writing the entry of a step other than ST01 changes the two copies of the history alone, and the copy it goes to is the one in use from then on (R74). -/
theorem Journal.setEntry_of_ne_one (hn : n ≠ 1) (hf : j.failed = false) :
    j.setEntry n e = { j with hist0 := (j.setEntry n e).hist0, hist1 := (j.setEntry n e).hist1 } ∧
      (j.setEntry n e).history.entries = j.history.entries.put (fun _ => {}) n e := by
  cases u : j.uses1 with
  | true =>
    rw [Journal.setEntry_of_uses1 e hn hf u]
    refine ⟨rfl, ?_⟩
    rw [Journal.history, if_neg (by simp [Journal.uses1])]
  | false =>
    rw [Journal.setEntry_of_not_uses1 e hn hf u]
    refine ⟨rfl, ?_⟩
    rw [Journal.history, if_pos (by simp [Journal.uses1])]

/-- The journal is mounted, and its retention area is in order. -/
def Journal.InOrder (j : Journal) : Prop := j.failed = false ∧ j.retOk = true

theorem Journal.InOrder.setEntry (h : j.InOrder) : (j.setEntry n e).InOrder := by
  by_cases hn : n = 1
  · subst hn
    exact ⟨h.1, rfl⟩
  · rw [(Journal.setEntry_of_ne_one e hn h.1).1]
    exact h

/-- An entry that is written reads back, and the others stay. -/
theorem Journal.InOrder.entry_setEntry (h : j.InOrder) (m : Nat) : (j.setEntry n e).entry m = if m = n then e else j.entry m := by
  by_cases hn : n = 1
  · subst hn
    by_cases hm : m = 1
    · subst hm
      rfl
    · rw [if_neg hm, Journal.entry_of_ne_one hm, Journal.entry_of_ne_one hm]
      rfl
  · obtain ⟨copies, entries⟩ := Journal.setEntry_of_ne_one e hn h.1
    by_cases hm : m = 1
    · subst hm
      rw [if_neg (Ne.symm hn), Journal.entry_one (h.setEntry e).2, Journal.entry_one h.2, copies]
    · rw [Journal.entry_of_ne_one hm, entries, Journal.entry_of_ne_one hm, Tbl.get_put]

end

/-- The entry of a step that JRN_STEP_CLEAR names. -/
def StepHist.cleared (h : StepHist) : StepHist := { h with state := .primary, consec := 0 }

/-- The history with the entries of step `i + 1` cleared, for each `i` of a list that the mask names. -/
def Journal.clearSteps (mask : Nat) (l : List Nat) (j : Journal) : Journal :=
  l.foldl (fun j i => if bitOn mask i then j.setEntry (i + 1) (j.entry (i + 1)).cleared else j) j

section
variable {mask : Nat} {l : List Nat} {j : Journal}

theorem Journal.clearSteps_cons (a : Nat) :
    j.clearSteps mask (a :: l) = (if bitOn mask a then j.setEntry (a + 1) (j.entry (a + 1)).cleared else j).clearSteps mask l := rfl

theorem Journal.InOrder.clearSteps (h : j.InOrder) : (j.clearSteps mask l).InOrder := by
  induction l generalizing j with
  | nil => exact h
  | cons a l ih =>
    rw [Journal.clearSteps_cons]
    refine ih ?_
    split
    · exact h.setEntry _
    · exact h

theorem Journal.InOrder.entry_clearSteps (h : j.InOrder) (i : Nat) :
    (j.clearSteps mask l).entry (i + 1) = if i ∈ l ∧ bitOn mask i = true then (j.entry (i + 1)).cleared else j.entry (i + 1) := by
  induction l generalizing j with
  | nil => simp [Journal.clearSteps]
  | cons a l ih =>
    rw [Journal.clearSteps_cons]
    by_cases ha : bitOn mask a = true
    · rw [if_pos ha, ih (h.setEntry _), h.entry_setEntry]
      by_cases hi : i = a
      · subst hi
        simp [ha, StepHist.cleared]
      · simp [hi]
    · rw [if_neg ha, ih h]
      by_cases hi : i = a
      · subst hi
        simp [ha]
      · simp [hi]

end

section
variable {s : State} (type : Nat) (p : List Byte)

/-- A record that is written is the newest of the ring, and the history stays (R76). -/
theorem Journal.InOrder.jrnWrite (h : s.jrn.InOrder) : (∃ r, (s.jrnWrite type p).jrn.ring.getLast? = some r ∧ r.type = type ∧ r.payload = slice p 0 32) ∧
    ∀ n, (s.jrnWrite type p).jrn.entry n = s.jrn.entry n := by
  obtain ⟨hf, hr⟩ := h
  simp only [State.jrnWrite, hf, Bool.false_eq_true, if_false]
  refine ⟨⟨_, List.getLast?_concat, rfl, rfl⟩, fun n => ?_⟩
  by_cases hn : n = 1
  · subst hn
    rw [Journal.entry_one rfl, Journal.entry_one hr]
  · rw [Journal.entry_of_ne_one hn, Journal.entry_of_ne_one hn]
    rfl

theorem State.jrnWrite_jrn : s.jrnWrite type p = { s with jrn := (s.jrnWrite type p).jrn } := by
  unfold State.jrnWrite
  split <;> rfl

end

/-- What clearing the steps of a mask leaves: HISTORY_CLEARED as the newest record, the entries named cleared, the others as they were. -/
theorem Journal.InOrder.stepsCleared {s : State} {mask : Nat} (h : s.jrn.InOrder) (hm : mask ≠ 0) :
    (∃ r, (s.stepsCleared mask).jrn.ring.getLast? = some r ∧ r.type = 8 ∧ r.payload = slice (leBytes 4 mask) 0 32) ∧
    (∀ i, i < 22 → (s.stepsCleared mask).jrn.entry (i + 1) = if bitOn mask i = true then (s.jrn.entry (i + 1)).cleared else s.jrn.entry (i + 1)) ∧
    s.stepsCleared mask = { s with jrn := (s.stepsCleared mask).jrn } := by
  have run : s.stepsCleared mask = ({ s with jrn := s.jrn.clearSteps mask (List.range 22) } : State).jrnWrite 8 (leBytes 4 mask) := if_neg hm
  rw [run]
  obtain ⟨record, entries⟩ := Journal.InOrder.jrnWrite 8 (leBytes 4 mask) (s := { s with jrn := s.jrn.clearSteps mask (List.range 22) }) h.clearSteps
  refine ⟨record, fun i hi => ?_, State.jrnWrite_jrn _ _⟩
  exact (entries (i + 1)).trans ((h.entry_clearSteps i).trans (by simp [hi]))

/-! ### Writes to the control registers of chapter 3 and of the Brake (R64, R69, R72, R78, R457) -/

/-- JRN_STEP_CLEAR in the register map: the one field MASK, locked by SYS_LOCK (Table 3.10). -/
def jrnStepClear : RegHit where
  spec := { base := Reg.JRN_STEP_CLEAR, stride := 0, count := 1, stride2 := 0, count2 := 1, wide := false, functional := false, reset := 0, resetStep := 0,
            fields := [{ hi := 21, lo := 0, access := .lck, allowed := [] }] }
  i := 0
  j := 0
  high := false

theorem findReg_jrnStepClear : findReg Reg.JRN_STEP_CLEAR = some jrnStepClear := rfl

theorem State.lockedWrite_jrnStepClear {s : State} (cur v : Nat) (hl : s.sysLocked = false) (hp : s.start.phase ≠ .safe) :
    s.lockedWrite jrnStepClear cur v = false := by
  simp [State.lockedWrite, jrnStepClear, State.fieldLocked, RegHit.fieldFunctional, hl, hp]

theorem bits_of_lt {v hi : Nat} (h : v < 2 ^ (hi + 1)) : bits v hi 0 = v := by
  rw [bits, pow_zero, Nat.div_one, Nat.sub_zero, Nat.mod_eq_of_lt h]

theorem writeFields_jrnStepClear {mask : Nat} (h : mask < 2 ^ 22) : writeFields jrnStepClear.spec.fields 0 mask = mask := by
  show setBits 0 21 0 (bits mask 21 0) = mask
  rw [bits_of_lt h, setBits_eq _ _ _ _ (Nat.zero_le _)]
  omega

theorem State.regWrite_jrnStepClear {s : State} {mask : Nat} (hl : s.sysLocked = false) (hp : s.start.phase ≠ .safe) (hw : s.word Reg.JRN_STEP_CLEAR = 0) (hm : mask < 2 ^ 22) :
    s.regWrite Reg.JRN_STEP_CLEAR mask = ((s.setWord Reg.JRN_STEP_CLEAR mask).setWord Reg.JRN_STEP_CLEAR 0).stepsCleared mask := by
  have cur : s.regValue jrnStepClear = 0 := hw
  rw [State.regWrite_narrow s _ _ none findReg_jrnStepClear rfl,
    State.writeReg_stored _ _ none (s.lockedWrite_jrnStepClear _ _ hl hp) rfl rfl rfl (.inl rfl), cur, writeFields_jrnStepClear hm]
  show State.stepsCleared _ (bits mask 21 0) = _
  rw [bits_of_lt hm]
  rfl

/-- Settles O21: the write of JRN_STEP_CLEAR clears the entries of the mask in a journal that is in order. -/
theorem stepClearMakesPrimary : Obligations.StepClearMakesPrimary := by
  unfold Obligations.StepClearMakesPrimary
  intro mask s hm hl hp hw hf hr
  have order : ((s.setWord Reg.JRN_STEP_CLEAR mask.toNat).setWord Reg.JRN_STEP_CLEAR 0).jrn.InOrder := ⟨hf, hr⟩
  obtain ⟨record, entries, frame⟩ := order.stepsCleared fun h => hm (BitVec.eq_of_toNat_eq h)
  refine ⟨_, next_settle_congr (State.regWrite_jrnStepClear hl hp hw mask.isLt), fun i hi hb => ?_, fun i hi hb => ?_, record, ?_⟩
  · rw [entries i hi, if_pos hb]
    exact ⟨rfl, rfl⟩
  · rw [entries i hi, hb]
    rfl
  · rw [frame]
    rfl

end Sys2Proof.Machine
end

section
/-! SUPPORT. The rows of the safety mechanisms, as R434, R435 and R459 state them, and the statement that they settle. -/
namespace Sys2Proof.Machine

section
variable {s : State}

theorem exec_selftest_pass {b : Fin 12} (ho : s.operational = true) (he : s.fget Fld.BRK_CONFIG_SELFTEST_EN = 1) : let q := s.testTurn b
    exec (.selftest b true) s = .next (q.fset Fld.BRK_SELFTEST_PASSED (q.fget Fld.BRK_SELFTEST_PASSED ||| 2 ^ b.val)).settle :=
  next_settle_congr (if_pos ⟨ho, he⟩)

theorem exec_selftest_fail {b : Fin 12} (ho : s.operational = true) (he : s.fget Fld.BRK_CONFIG_SELFTEST_EN = 1) :
    let q := s.testTurn b
    let v := q.fset Fld.BRK_SELFTEST_PASSED (setBits (q.fget Fld.BRK_SELFTEST_PASSED) b b 0)
    let u := v.fset Fld.BRK_SELFTEST_FAILED (v.fget Fld.BRK_SELFTEST_FAILED ||| 2 ^ b.val)
    exec (.selftest b false) s = .next (if b = 7 then u.raiseIn Cause.SELFTEST_DEGRADED 12 0 7 else u.raise Cause.SELFTEST_FAILED b.val).settle := by
  intro q v u
  have run : exec (.selftest b false) s = .next (if b.val = 7 then u.raiseIn Cause.SELFTEST_DEGRADED 12 0 b.val else u.raise Cause.SELFTEST_FAILED b.val).settle :=
    next_settle_congr (if_pos ⟨ho, he⟩)
  rw [run]
  refine next_settle_congr ?_
  by_cases e : b = 7
  · subst e; rfl
  · have n : b.val ≠ 7 := fun h => e (Fin.ext h)
    rw [if_neg e, if_neg n]

/-- A test that has run waits for its next period. -/
theorem State.le_now_testTurn {k p : Nat} (h : (s.brk.tests.find? fun e => e.1 == k) = some (k, p)) :
    s.brk.opAt + 500000000 * ((p - s.brk.opAt) / 500000000 + 1) ≤ (s.testTurn k).now := by
  simp only [State.testTurn, h]
  exact le_max_right _ _

theorem State.hubFault_operational (h : s.operational = true) (code : Nat) : s.hubFault code = s.raise code :=
  if_neg fun ⟨_, hs, _⟩ => by simp [h] at hs

/-- A record that cuts a start step acts no further (R65). -/
theorem State.hubFault_starting (h : s.operational = false) (ho : s.start.stepOpen = true) (hp : s.start.phase ≠ .maintenance) (code : Nat) :
    s.hubFault code = ({ s.raise code with brk := { (s.raise code).brk with actions := s.brk.actions } } : State).cutStep :=
  if_pos ⟨ho, h, hp⟩

theorem exec_tempMonitor (t10 : BitVec 16) (s : State) : let u := s.fset Fld.PWR_THERMAL_DIE t10.toNat
    exec (.tempMonitor t10) s = .next (if 1250 < t10.toInt then u.raise Cause.TEMP_CRITICAL else if 1100 < t10.toInt then u.raise Cause.TEMP_HIGH else u).settle := by
  intro u
  rw [apply_ite State.settle, apply_ite State.settle]
  rfl

end

/-- Settles O40: the rows of the safety mechanisms, each by its equation; HUB_LOCKSTEP and HUB_WATCHDOG cut a start step (R65, log 15). -/
theorem monitorsRaiseTheirCause : Obligations.MonitorsRaiseTheirCause := by
  unfold Obligations.MonitorsRaiseTheirCause
  intro b t10 s
  refine ⟨fun ho he => ⟨exec_selftest_pass ho he, exec_selftest_fail ho he⟩, fun k p _ h => State.le_now_testTurn h, rfl, rfl,
    fun ho => ⟨next_settle_congr (State.hubFault_operational ho _), next_settle_congr (State.hubFault_operational ho _)⟩, fun ho hs hp c code hc => ?_,
    rfl, rfl, rfl, exec_tempMonitor t10 s⟩
  have cut := State.hubFault_starting ho hs hp code
  rcases hc with ⟨rfl, rfl⟩ | ⟨rfl, rfl⟩
  · exact next_settle_congr cut
  · exact next_settle_congr cut

end Sys2Proof.Machine
end

section
/-! SUPPORT. A command that leaves nothing to go on ends as it stands; so a cold start by RESTART begins with ORIGIN 2 (R62, R72), and the statement that says it does so
while the orderly off runs (R37) is refuted. -/

namespace Sys2Proof.Machine

/-! ### The end of a command that finds nothing to do -/

section
variable {s : State}

theorem foldl_eq_self {α : Type} {f : State → α → State} {l : List α} (h : ∀ a ∈ l, f s a = s) : l.foldl f s = s := by
  induction l with
  | nil => rfl
  | cons a l ih =>
    rw [List.forall_mem_cons] at h
    rw [List.foldl_cons, h.1, ih h.2]

theorem State.actRounds_of_no_actions {n : Nat} (h : s.brk.actions = []) : s.actRounds n = s := by
  cases n with
  | zero => rfl
  | succ n => simp [State.actRounds, h]

theorem State.trigDue_of_none_ripe (h : ∀ t, s.trigRipe t = false) : s.trigDue = s := by
  unfold State.trigDue
  split
  · rfl
  · exact foldl_eq_self fun t _ => by simp [h t]

theorem State.budgetDue_of_none (h : s.sup.budgetAt = none) : s.budgetDue = s := by
  simp [State.budgetDue, h]

theorem State.advanceCtx_of_no_runs {c n : Nat} (h : s.fwh.runs = []) : s.advanceCtx c n = s := by
  cases n with
  | zero => rfl
  | succ n => simp [State.advanceCtx, State.ctxRuns, h]

theorem State.dispatch_of_no_runs (h : s.fwh.runs = []) : s.dispatch = s :=
  foldl_eq_self fun e _ => by simp [State.readyFor, h, bestReady]

theorem State.fwhAdvance_of_no_runs (h : s.fwh.runs = []) : s.fwhAdvance = s := by
  unfold State.fwhAdvance
  rw [foldl_eq_self fun c _ => State.advanceCtx_of_no_runs h, State.dispatch_of_no_runs h, ite_self]

theorem State.commitsAct_of_no_commits (h : s.hif.commits = []) (ht : s.fwh.taskEnded = false) : s.commitsAct = s := by
  have same : ({ s with fwh := { s.fwh with taskEnded := false } } : State) = s := by rw [← ht]
  simpa [State.commitsAct, State.expireCommits, h, State.commitStep] using same

theorem State.startSolve_of_empty {n : Nat} (h : s.tru.queue = []) : s.startSolve n = s := by
  cases n with
  | zero => rfl
  | succ n => simp [State.startSolve, h]

theorem State.dropRegions_of_none (h : ∀ r < 16, (s.region r).held.id = 0 ∨ (s.region r).started = true) : s.dropRegions = s := by
  unfold State.dropRegions
  split
  · rfl
  · refine foldl_eq_self fun r hr => if_neg fun ⟨a, b⟩ => ?_
    rcases h r (List.mem_range.mp hr) with e | e
    · exact a e
    · simp [b] at e

theorem State.boundFlush_of_none {n : Nat} (h : s.fwh.cplHeld = []) : s.boundFlush n = s := by
  cases n with
  | zero => rfl
  | succ n => simp [State.boundFlush, h]

theorem State.drainPort_of_empty {p n : Nat} (h : (s.swPort p).queue = []) (hg : (s.swPort p).nextGates = none) : s.drainPort p n = s := by
  cases n with
  | zero => rfl
  | succ n => simp [State.drainPort, SwPort.gatesAt, hg, SwPort.heads, h, firstHead]

theorem State.drainAll_of_empty (h : ∀ p < 6, (s.swPort p).queue = [] ∧ (s.swPort p).nextGates = none) : s.drainAll = s :=
  foldl_eq_self fun p hp => State.drainPort_of_empty (h p (List.mem_range.mp hp)).1 (h p (List.mem_range.mp hp)).2

theorem State.pumpEvery_of_none_waiting (h : ∀ p ∈ s.ihx.peers, p.2.wait = []) : s.pumpEvery = s := by
  have none : (s.ihx.peers.filter fun p => !p.2.wait.isEmpty) = [] := List.filter_eq_nil_iff.mpr fun p hp => by simp [h p hp]
  rw [State.pumpEvery, none]
  rfl

theorem State.updateAvail_of_agrees (hc : s.brk.conds = s.availConds) (h : s.AvailAgrees) (hp : s.brk.testPulse = none) : s.updateAvail = s := by
  have warn : (s.availConds && s.fget Fld.CAD_STATUS_AVAIL_OK == 1) = s.brk.warnAvail := h.symm
  simp only [State.updateAvail, hc, Bool.and_not_self, Bool.false_eq_true, if_false, warn, hp, Option.filter_none]
  rw [← hc, ← hp]

/-- Nothing is left to go on by itself, and the safety lines are as their conditions and the phase ask. -/
structure State.Still (s : State) : Prop where
  actions : s.brk.actions = []
  triggers : ∀ t, s.trigRipe t = false
  budget : s.sup.budgetAt = none
  runs : s.fwh.runs = []
  taskEnded : s.fwh.taskEnded = false
  contexts : ∀ n < 24, (s.ctx n).closing = none
  commits : s.hif.commits = []
  solves : s.tru.queue = []
  regions : ∀ r < 16, (s.region r).held.id = 0 ∨ (s.region r).started = true
  completions : s.fwh.cplHeld = []
  frames : ∀ p < 6, (s.swPort p).queue = [] ∧ (s.swPort p).nextGates = none
  waiting : ∀ p ∈ s.ihx.peers, p.2.wait = []
  fences : s.hif.fences = []
  request : s.sup.request = none
  queued : s.sup.queued = []
  running : ¬ s.stopped
  conds : s.brk.conds = s.availConds
  avail : s.AvailAgrees
  pulse : s.brk.testPulse = none

variable (h : s.Still)
include h

theorem State.Still.goOn : s.goOn = s := by
  have closing : (List.range 24).foldl (fun s n => if (s.ctx n).closing.isSome then s.finishClose n else s) s = s :=
    foldl_eq_self fun n hn => by simp [h.contexts n (List.mem_range.mp hn)]
  simp only [State.goOn, State.trigDue_of_none_ripe h.triggers, State.budgetDue_of_none h.budget, State.fwhAdvance_of_no_runs h.runs, closing,
    State.commitsAct_of_no_commits h.commits h.taskEnded, State.startSolve_of_empty h.solves, State.dropRegions_of_none h.regions,
    State.updateAvail_of_agrees h.conds h.avail h.pulse, State.boundFlush_of_none h.completions, State.drainAll_of_empty h.frames,
    State.pumpEvery_of_none_waiting h.waiting]

/-- The end of a command leaves such a state as it is. -/
theorem State.Still.settle : s.settle = s := by
  have request : s.settleRequest = s := by simp only [State.settleRequest, h.request]
  have queued : s.settleQueued = s := by simp only [State.settleQueued, h.queued]
  have lines : s.linesHeld = s := if_neg h.running
  simp only [State.settle, State.actRounds_of_no_actions h.actions, h.goOn, h.fences, State.settleFences, request, queued, lines,
    State.updateAvail_of_agrees h.conds h.avail h.pulse]

end

/-! ### A cold start by RESTART (R72) -/

section
variable {s : State}

theorem State.openStep_primary (n : Nat) : ∃ j, s.openStep n false = { s with jrn := j, start := { s.start with step := n, alternate := false, stepOpen := true, stepAt := s.now } } := by
  refine ⟨(s.jrnWrite 2 (leBytes 1 n ++ leBytes 1 0)).jrn, ?_⟩
  simp only [State.openStep, Bool.false_eq_true, if_false]
  rw [State.jrnWrite_jrn]

/-- An attempt whose history has ST01 in PRIMARY begins with the primary action of ST01. -/
theorem State.beginStep_one {k : Nat} (hb : s.start.bringUp = false) (hw : s.start.holdWake = false) (h : (s.jrn.entry 1).state = .primary) :
    s.beginStep 1 (k + 1) = s.openStep 1 false := by
  rw [State.beginStep, hb, hw]
  simp [h]

/-- What a cold start by a restart begins from, but for the journal: every unit and register reset but SPR_WAKE_CAUSE (R62, R70, R72). -/
def State.restartBase (s : State) : State := { s.resetForStart true false with
  sup := { (s.resetForStart true false).sup with power := .starting, plan := 0, budget := 96, planPending := false, abandoned := false, request := none, queued := [], sleepTarget := none }
  start := { (({} : Start)) with
    phase := .starting, origin := 2, attempt := 1, failedAttempts := s.start.failedAttempts, cut := s.start.cut, began := s.now, supplyLost := (s.resetForStart true false).sup.vInt } }

theorem Journal.setHeader_eq (j : Journal) (f : JrnHeader → JrnHeader) :
    j.setHeader f = { j with headerA := (j.setHeader f).headerA, headerB := (j.setHeader f).headerB } := by
  unfold Journal.setHeader
  dsimp only
  split <;> rfl

theorem State.beginAttempt_restart (ho : s.jrn.InOrder) (h : s.jrn.st01.state = .primary) :
    ∃ j, s.beginAttempt 2 = { s.restartBase with jrn := j, start := { s.restartBase.start with step := 1, stepOpen := true, stepAt := s.now } } := by
  unfold State.beginAttempt
  extract_lets _ _ _ _ _ _ _ reset counted _ _ _ _ begun noted
  have base : begun = { s.restartBase with jrn := begun.jrn } := rfl
  have header : begun.jrn = { s.jrn.setHeader _ with reformatted := false } := rfl
  have order : begun.jrn.InOrder := by
    rw [header, Journal.setHeader_eq]
    exact ho
  have primary : (noted.jrn.entry 1).state = .primary := by
    rw [(order.jrnWrite _ _).2, Journal.entry_one order.2, header, Journal.setHeader_eq]
    exact h
  have frame : noted = { begun with jrn := noted.jrn } := State.jrnWrite_jrn _ _
  obtain ⟨j, opened⟩ := State.openStep_primary (s := noted) 1
  refine ⟨j, ?_⟩
  rw [show stepFuel = 59 + 1 from rfl, State.beginStep_one (by rw [frame, base]; rfl) (by rw [frame, base]; rfl) primary, opened, frame, base]
  rfl

theorem State.availConds_of_no_variant (h : s.fxg.variant = none) : s.availConds = false := by
  simp [State.availConds, State.variantRuns, h]

theorem State.availAgrees_of_no_variant (h : s.fxg.variant = none) (hw : s.brk.warnAvail = false) : s.AvailAgrees := by
  rw [State.AvailAgrees, State.availConds_of_no_variant h, hw, Bool.false_and]

/-- A cold start by a restart leaves nothing to go on, unless a record or the supply had. -/
theorem State.still_beginAttempt_restart (ho : s.jrn.InOrder) (h : s.jrn.st01.state = .primary) (ha : s.brk.actions = []) (hb : s.sup.budgetAt = none)
    (ht : ∀ t, s.trigRipe t = false) : (s.beginAttempt 2).Still ∧ (s.beginAttempt 2).start.origin = 2 := by
  obtain ⟨j, e⟩ := State.beginAttempt_restart ho h
  rw [e]
  exact ⟨{
    actions := ha
    triggers := ht
    budget := hb
    runs := rfl
    taskEnded := rfl
    contexts := fun _ _ => rfl
    commits := rfl
    solves := rfl
    regions := fun _ _ => .inl rfl
    completions := rfl
    frames := fun _ _ => ⟨rfl, rfl⟩
    waiting := fun _ hp => nomatch hp
    fences := rfl
    request := rfl
    queued := rfl
    running := fun hs => hs.elim nofun nofun
    conds := (State.availConds_of_no_variant rfl).symm
    avail := State.availAgrees_of_no_variant rfl rfl
    pulse := rfl }, rfl⟩

end

/-- A start under way while the orderly off flushes the journal (PL5): nothing begins a new attempt any more (R37). -/
def exFlushing : State := { State.reset with sup := { State.reset.sup with power := .starting, flushing := true } }

set_option maxRecDepth 20000 in
theorem origin_restart_exFlushing : (exRunOne exFlushing .restart).start.origin = 0 := by decide

theorem exRunOne_of_exec {s t : State} {c : Instr} (h : exec c s = .next t) : exRunOne s c = t := by
  simp only [exRunOne, step, h]

theorem State.restart_exFlushing {u : State} (h : u = { exFlushing with regs := u.regs }) : (u.fastDomainOff.beginAttempt 2).settle.start.origin = 2 := by
  have jrn : u.fastDomainOff.jrn = State.reset.jrn := by
    rw [State.jrn_fastDomainOff, h]
    rfl
  have sup : u.fastDomainOff.sup = exFlushing.sup := by
    rw [State.fastDomainOff_eq, h]
    rfl
  have actions : u.fastDomainOff.brk.actions = [] := by
    rw [State.fastDomainOff_eq, h]
    rfl
  have ripe : ∀ t, u.fastDomainOff.trigRipe t = false := fun t => by
    simp [State.trigRipe, Supply.count, sup, exFlushing, State.reset]
  obtain ⟨still, origin⟩ := State.still_beginAttempt_restart (s := u.fastDomainOff) (by rw [jrn]; exact ⟨rfl, rfl⟩) (by rw [jrn]; rfl) actions (by rw [sup]; rfl) ripe
  rw [still.settle, origin]

/-- Refutes O20: while the orderly off runs, RESTART begins no attempt (R37, R72), and the statement does not leave that case out. -/
theorem not_lockAndRestartCompletes : ¬ Obligations.LockAndRestartCompletes := by
  unfold Obligations.LockAndRestartCompletes
  intro h
  obtain ⟨-, -, restart, -⟩ := h exFlushing
  have frozen : exFlushing.frozen = false := by decide
  have control : exFlushing.word Reg.SYS_CONTROL = 0 := by decide
  obtain ⟨t, run, u, hu, attempt⟩ := restart frozen control
  have kept := origin_restart_exFlushing
  rw [exRunOne_of_exec run, attempt, State.restart_exFlushing hu] at kept
  cases kept

end Sys2Proof.Machine
end

section
/-! SUPPORT. A quiet state: nothing that a command's end would let go on is left in it, so the command ends as it stands. -/
namespace Sys2Proof.Machine

variable {s : State}

theorem State.dropRegions_of_runs_or_none (h : s.variantRuns = true ∨ ∀ r < 16, (s.region r).held.id = 0 ∨ (s.region r).started = true) : s.dropRegions = s := by
  rcases h with runs | none
  · exact if_pos runs
  · exact State.dropRegions_of_none none

theorem State.settle_of_quiet (h : s.quiet = true) : s.settle = s := by
  simp only [State.quiet, Bool.and_eq_true, Bool.or_eq_true, Bool.not_eq_true', List.isEmpty_iff, Option.isNone_iff_eq_none, List.all_eq_true, List.mem_range,
    decide_eq_true_eq, beq_iff_eq, and_assoc] at h
  obtain ⟨actions, runs, taskEnded, held, commits, fences, solves, request, queued, budget, contexts, regions, frames, waiting, notSafe, notMaintenance, triggers, pulse,
    conds, avail⟩ := h
  have ripe : ∀ t, s.trigRipe t = false := fun t => triggers t (by revert t; decide)
  have still : s.updateAvail = s := State.updateAvail_of_agrees conds avail pulse
  have closing : (List.range 24).foldl (fun s n => if (s.ctx n).closing.isSome then s.finishClose n else s) s = s :=
    foldl_eq_self fun n hn => by simp [contexts n (List.mem_range.mp hn)]
  have goOn : s.goOn = s := by
    simp only [State.goOn, State.trigDue_of_none_ripe ripe, State.budgetDue_of_none budget, State.fwhAdvance_of_no_runs runs, closing,
      State.commitsAct_of_no_commits commits taskEnded, State.startSolve_of_empty solves, State.dropRegions_of_runs_or_none regions, still,
      State.boundFlush_of_none held, State.drainAll_of_empty frames, State.pumpEvery_of_none_waiting waiting]
  have lines : s.linesHeld = s := if_neg fun stopped => stopped.elim notSafe notMaintenance
  simp only [State.settle, State.actRounds_of_no_actions actions, goOn, fences, State.settleFences, State.settleRequest, request, State.settleQueued, queued, lines, still]

/-- Settles O7: each part of `settle` finds nothing to do in a quiet state. -/
theorem quietStateSettlesToItself : Obligations.QuietStateSettlesToItself := by
  unfold Obligations.QuietStateSettlesToItself
  exact fun _ => State.settle_of_quiet

end Sys2Proof.Machine
end

section
/-! SUPPORT. The rings of the host interface, as chapter 4 states them: doorbells, descriptor reads, stalls and failed host accesses, ENABLE, FENCE, READ_STATE and reserved
opcodes; and the statements that these settle. -/
namespace Sys2Proof.Machine

/-! ### Doorbells (R88, R92) -/

section
variable {s : State} {n : Nat}

/-- The first test of R88: only an aligned 32-bit write to one of the two doorbells is one. -/
theorem State.doorbell_misplaced {off width : Nat} (v : Nat) (h : width ≠ 4 ∨ (off ≠ 0 ∧ off ≠ 4)) : s.doorbell n off width v = s.raise Cause.BAD_DOORBELL := if_pos h

/-- The second: a doorbell of a pair that is not ACTIVE is ignored. -/
theorem State.doorbell_ignored {off : Nat} (v : Nat) (ho : off = 0 ∨ off = 4) (h : (s.qp n).state ≠ .active) : s.doorbell n off 4 v = s.raise Cause.DOORBELL_IGNORED := by
  rw [State.doorbell, if_neg (by omega), if_pos h]

theorem State.doorbell_sqTail {v : Nat} (h : (s.qp n).state = .active) : s.doorbell n 0 4 v = s.sqTailRung n v := by
  rw [State.doorbell, if_neg (by decide), if_neg (not_not_intro h), if_pos rfl]

theorem State.doorbell_cqHead {v : Nat} (h : (s.qp n).state = .active) : s.doorbell n 4 4 v = s.cqHeadRung n v := by
  rw [State.doorbell, if_neg (by decide), if_neg (not_not_intro h), if_neg (by decide)]

theorem State.cqHeadRung_outside {v : Nat} (h : s.cqHeadOk n v = false) : s.cqHeadRung n v = s.raise Cause.BAD_DOORBELL := by
  simp [State.cqHeadRung, h]

theorem State.cqHeadRung_unchanged {v : Nat} (h : s.cqHeadOk n v = true) (hv : (s.qp n).cqHead = v) : s.cqHeadRung n v = s := by
  simp [State.cqHeadRung, h, hv]

theorem State.cqHeadRung_moved {v : Nat} (h : s.cqHeadOk n v = true) (hv : (s.qp n).cqHead ≠ v) :
    s.cqHeadRung n v = (s.setQp n { s.qp n with cqHead := v, stallRaised := false }).flushCpls n (s.qp n).waiting := by
  simp [State.cqHeadRung, h, hv]

end

theorem exec_sqTailDoorbell (n : Fin 64) (off : BitVec 12) (width : BitVec 8) (v : Word) (s : State) :
    exec (.sqTailDoorbell n off width (some v)) s = .next (s.doorbell n off.toNat width.toNat v.toNat).settle := rfl

theorem exec_cqHeadDoorbell (n : Fin 64) (v : Word) (s : State) : exec (.cqHeadDoorbell n v) s = .next (s.doorbell n 4 4 v.toNat).settle := rfl

/-- Settles O24: the tests of a doorbell in turn, then the tests of the tail or of the head. -/
theorem doorbellsInOrder : Obligations.DoorbellsInOrder := by
  unfold Obligations.DoorbellsInOrder
  intro n off width v s
  refine ⟨fun h => ?misplaced, fun h => ⟨?tailIgnored, ?headIgnored⟩, fun h hv => ?tail, fun h hv => ?tailOutside, fun h hv => ?headOutside, fun h hv he => ?headUnchanged,
    fun h hv he => ⟨_, ?head, rfl⟩, rfl⟩
  case misplaced =>
    refine next_settle_congr (State.doorbell_misplaced _ ?_)
    simpa [← BitVec.toNat_inj] using h
  case tailIgnored => exact next_settle_congr (State.doorbell_ignored _ (.inl rfl) h)
  case headIgnored => exact next_settle_congr (State.doorbell_ignored _ (.inr rfl) h)
  case tail => exact next_settle_congr ((State.doorbell_sqTail h).trans (if_pos hv))
  case tailOutside => exact next_settle_congr ((State.doorbell_sqTail h).trans (if_neg (Nat.not_lt.mpr hv)))
  case headOutside => exact next_settle_congr ((State.doorbell_cqHead h).trans (State.cqHeadRung_outside hv))
  case headUnchanged => exact next_settle_congr ((State.doorbell_cqHead h).trans (State.cqHeadRung_unchanged hv he))
  case head => exact next_settle_congr ((State.doorbell_cqHead h).trans (State.cqHeadRung_moved hv he))

/-! ### Descriptor reads (R90, R91) -/

section
variable (s : State) (n : Nat) (b : List Byte) (l : List (List Byte))

/-- One descriptor of pair `n` arrives: it is in flight, and the SQ head moves past it (R90). -/
def State.takeOne : State :=
  let h := ((s.qp n).sqHead + 1) % s.sqSize n
  let q := { s.qp n with sqHead := h, inflight := (s.qp n).inflight ++ [⟨s.hif.fetchSeq, h, slice b 0 64, false, false⟩] }
  { s.setQp n q with hif := { s.hif with fetchSeq := s.hif.fetchSeq + 1 } }

theorem State.take_cons : s.take n (b :: l) = (s.takeOne n b).take n l := rfl

theorem State.qp_takeOne_same : (s.takeOne n b).qp n = { s.qp n with
    sqHead := ((s.qp n).sqHead + 1) % s.sqSize n
    inflight := (s.qp n).inflight ++ [⟨s.hif.fetchSeq, ((s.qp n).sqHead + 1) % s.sqSize n, slice b 0 64, false, false⟩] } :=
  s.qp_setQp_same n _

theorem State.qp_takeOne_other {m : Nat} (h : m ≠ n) : (s.takeOne n b).qp m = s.qp m := (s.qp_setQp n m _).trans (if_neg h)

theorem State.sqSize_takeOne : (s.takeOne n b).sqSize n = s.sqSize n := rfl

/-- A read changes the pairs and the fetch counter alone. -/
theorem State.take_eq : s.take n l = { s with qps := (s.take n l).qps, hif := { s.hif with fetchSeq := s.hif.fetchSeq + l.length } } := by
  induction l generalizing s with
  | nil => rfl
  | cons b l ih => rw [State.take_cons, ih, State.takeOne, List.length_cons, Nat.add_comm l.length, ← Nat.add_assoc]; rfl

theorem State.qp_take_other {m : Nat} (h : m ≠ n) : (s.take n l).qp m = s.qp m := by
  induction l generalizing s with
  | nil => rfl
  | cons b l ih => rw [State.take_cons, ih, s.qp_takeOne_other n b h]

/-- What is read is in flight behind what was, in ring order. -/
theorem State.inflight_take : ((s.take n l).qp n).inflight.map (·.bytes) = (s.qp n).inflight.map (·.bytes) ++ l.map fun b => slice b 0 64 := by
  induction l generalizing s with
  | nil => simp [State.take]
  | cons b l ih => simp [State.take_cons, ih, State.qp_takeOne_same]

/-- The SQ head moves past each descriptor read. -/
theorem State.sqHead_take (h : (s.qp n).sqHead < s.sqSize n) : ((s.take n l).qp n).sqHead = ((s.qp n).sqHead + l.length) % s.sqSize n := by
  induction l generalizing s with
  | nil => exact (Nat.mod_eq_of_lt h).symm
  | cons b l ih =>
    have head : ((s.takeOne n b).qp n).sqHead = ((s.qp n).sqHead + 1) % s.sqSize n := by rw [s.qp_takeOne_same]
    have inRing : ((s.takeOne n b).qp n).sqHead < (s.takeOne n b).sqSize n := head ▸ Nat.mod_lt _ (Nat.zero_lt_of_lt h)
    rw [State.take_cons, ih _ inRing, head, s.sqSize_takeOne, Nat.mod_add_mod, List.length_cons, Nat.add_assoc, Nat.add_comm 1]

end

section
variable {s : State} {n w start : Nat} {rest : List (Nat × Nat)} (data : List (List Byte))

/-- A read of the pair whose turn it is begins: the round moves on, and the address is noted (R91). -/
def State.readBegun (s : State) (n w : Nat) (rest : List (Nat × Nat)) (start : Nat) : State :=
  { s with hif := { s.hif with round := if 1 < w then (n, w - 1) :: rest else rest, roundStart := start, lastRead := s.sqSlot n (s.qp n).sqHead } }

theorem State.fetch_none (h : s.visits.1 = []) : s.fetch data = s := by
  have e : s.visits = ([], s.visits.2) := Prod.ext h rfl
  rw [State.fetch, e]

theorem State.fetch_turn (h : s.visits = ((n, w) :: rest, start)) : s.fetch data = (s.readBegun n w rest start).take n (data.take (s.readLength n)) := by
  rw [State.fetch, h]
  rfl

theorem State.readLength_le (s : State) (n : Nat) : s.readLength n ≤ 8 ∧ s.readLength n ≤ s.sqAvail n ∧ s.readLength n ≤ s.cqFree n := by
  unfold State.readLength
  omega

end

theorem exec_descriptorFetch (data : List (List Byte)) (s : State) : exec (.descriptorFetch data) s = .next (s.fetch data).settle := rfl

/-- Settles O25: the read takes its descriptors one by one. That completions still owed take no free entry of the CQ away is log 26. -/
theorem fetchTakesAtMostEight : Obligations.FetchTakesAtMostEight := by
  unfold Obligations.FetchTakesAtMostEight
  intro data s
  refine ⟨fun h => ?none, fun n w rest start h inRing enough => ?turn⟩
  case none => rw [exec_descriptorFetch, State.fetch_none data h]
  case turn =>
    obtain ⟨le8, leAvail, leFree⟩ := s.readLength_le n
    let u := s.readBegun n w rest start
    let l := data.take (s.readLength n)
    have length : l.length = s.readLength n := List.length_take_of_le enough
    refine ⟨u.take n l, ?_, le8, leAvail, leFree, u.inflight_take n l, ?_, ?_, fun m hm => u.qp_take_other n l hm, ?_⟩
    · rw [exec_descriptorFetch, State.fetch_turn data h]
    · rw [← length]
      exact u.sqHead_take n l inRing
    · rw [← length, u.take_eq n l]
      rfl
    · rw [u.take_eq n l]
      rfl

/-! ### Stalls and failed host accesses (R83, R92, R111) -/

/-- A failed ring access puts an ACTIVE pair into ERROR. -/
theorem State.qpError_active {s : State} {n : Nat} (code : Nat) (h : (s.qp n).state = .active) :
    s.qpError n code = s.setQp n { s.qp n with state := .error, cause := bits code 5 0, waiting := [] } := if_pos h

theorem exec_cqStall {n : Fin 64} {s : State} (ha : (s.qp n).state = .active) (hf : s.cqFull n = true) (hr : (s.qp n).stallRaised = false) :
    exec (.cqStall n) s = .next ((s.setQp n { s.qp n with stallRaised := true }).raise Cause.CQ_STALL).settle :=
  congrArg Host.Outcome.next (if_pos ⟨ha, hf, hr⟩)

section
variable {n : Fin 64} {s : State} (d : List Byte) (addr : BitVec 64)

theorem exec_hostDmaError_fetch (hl : s.hif.linkUp = true) :
    exec (.hostDmaError 0 n d addr) s = .next ((s.qpError n Cause.FETCH_ERROR).raiseIn Cause.FETCH_ERROR 1 n addr.toNat).settle := by
  show execHostDmaError 0 n d addr s = _
  simp [execHostDmaError, hl]

theorem exec_hostDmaError_completion (hl : s.hif.linkUp = true) :
    exec (.hostDmaError 2 n d addr) s = .next ((s.qpError n Cause.CPL_WRITE_ERROR).raiseIn Cause.CPL_WRITE_ERROR 1 n addr.toNat).settle := by
  show execHostDmaError 2 n d addr s = _
  simp [execHostDmaError, hl]

variable (n s) in
theorem exec_hostDmaError_operand :
    exec (.hostDmaError 1 n d addr) s = .next (s.operandError n (s.begunDesc n d) addr.toNat).settle := rfl

end

/-- Settles O26: each access by its equation; the FAULT of a completion after failed operand data is log 27. -/
theorem hostAccessFaults : Obligations.HostAccessFaults := by
  unfold Obligations.HostAccessFaults
  intro n d addr s
  refine ⟨exec_cqStall, fun hl ha => ⟨?fetch, ?completion⟩, fun e he => ⟨fun hd => ?neverFetched, fun hd => ?fetched⟩⟩
  case fetch => rw [exec_hostDmaError_fetch d addr hl, State.qpError_active _ ha]
  case completion => rw [exec_hostDmaError_completion d addr hl, State.qpError_active _ ha]
  case neverFetched =>
    rw [exec_hostDmaError_operand, he]
    exact next_settle_congr (if_pos hd)
  case fetched =>
    rw [exec_hostDmaError_operand, he]
    exact next_settle_congr (if_neg hd)

/-! ### FENCE, READ_STATE and reserved opcodes (R97, R98, R110) -/

theorem rd_opcode_of_isDescr {op : Nat} {w : List Byte} (h : isDescr op w = true) : rd w 0 1 = op := by
  simp only [isDescr, Bool.and_eq_true, beq_iff_eq] at h
  exact h.2

/-- A descriptor of a reserved opcode that is taken up now (R110; in every phase, log 24). -/
theorem exec_badOpcode {n : Fin 64} {w d : List Byte} {s : State} (hw : isBadOpcode w = true) (hm : s.start.phase = .maintenance → n = 0) (hd : s.nextDesc n w = some d)
    (hh : s.held n d = false) (hp : s.powerHolds (rd w 0 1) d = false) :
    exec (.badOpcode n w) s = .next (((s.starts n d).complete n d St.BAD_OPCODE Cause.BAD_OPCODE_SEEN).raise Cause.BAD_OPCODE_SEEN).settle := by
  have serviced : ¬(s.start.phase = .maintenance ∧ (n : Nat) ≠ 0) := fun ⟨a, b⟩ => b (by rw [hm a]; rfl)
  show execBadOpcode n w s = _
  rw [execBadOpcode, if_pos hw, State.takeUp, if_neg serviced]
  simp [hd, hh, hp]

/-- The fetch numbers that a FENCE waits for: those before its own, of its pair or of every pair. -/
theorem State.mem_fenceIds {s : State} {n : Nat} {d : List Byte} {all : Bool} {id : Nat} :
    id ∈ s.fenceIds n d all ↔ ∃ m, m < 64 ∧ (all = true ∨ m = n) ∧ ∃ f ∈ (s.qp m).inflight, f.id = id ∧ f.id < descNo d := by
  simp only [State.fenceIds, List.mem_flatMap, List.mem_filter, List.mem_range, List.mem_map, Bool.or_eq_true, beq_iff_eq, decide_eq_true_eq]
  constructor
  · rintro ⟨m, ⟨hm, hs⟩, f, ⟨hf, hlt⟩, he⟩
    exact ⟨m, hm, hs, f, hf, he, hlt⟩
  · rintro ⟨m, hm, hs, f, hf, he, hlt⟩
    exact ⟨m, ⟨hm, hs⟩, f, ⟨hf, hlt⟩, he⟩

theorem State.fence_inScope {s : State} {n : Nat} {d : List Byte} (h : rd d 8 1 ≤ 1) : s.fence n d =
    { s with hif := { s.hif with fences := s.hif.fences ++ [⟨n, d, s.fenceIds n d (rd d 8 1 == 1), (s.fenceIds n d (rd d 8 1 == 1)).length⟩] } } :=
  if_neg (Nat.not_lt.mpr h)

/-- READ_STATE of BAR0 with its fields in order (Table 4.20). -/
theorem State.readState_bar0 {s : State} {n : Nat} {d : List Byte} (hs : rd d 8 1 = 0) (h9 : rd d 9 1 ≤ 3) (ho : rd d 12 4 % 4 = 0) (hl : rd d 16 4 % 4 = 0)
    (hb : rd d 16 4 ≤ 65536) (ha : hostAddr (rd d 24 8) = true) : let off := bits (rd d 12 4) 19 0
    s.readState n d = ((s.afterRead off (rd d 16 4)).useFree.hostWrite (rd d 24 8) (stateWords off (rd d 16 4) s.readWord)).complete n d St.OK 0 (rd d 16 4) := by
  intro off
  have aligned : off % 4 = 0 := by
    simp only [off, bits]
    omega
  have h9' : ¬ 3 < rd d 9 1 := Nat.not_lt.mpr h9
  have hb' : ¬ 65536 < rd d 16 4 := Nat.not_lt.mpr hb
  simp [State.readState, hs, h9', off, aligned, hl, hb', ha]

/-- Settles O32: each opcode by its equation, once the gate has taken the descriptor up. That a reserved opcode completes BAD_OPCODE in every phase is log 24. -/
theorem fencesAndReserved : Obligations.FencesAndReserved := by
  unfold Obligations.FencesAndReserved
  intro n w d s0 hm hd hh hp s
  have taken {op : Nat} (f : State → List Byte → State) (h : isDescr op w = true) (early : runsEarly op = true) : gate op n w s0 f = .next (f s d).settle :=
    gate_takes f h hd hh (rd_opcode_of_isDescr h ▸ hp) hm early
  refine ⟨fun h hs => ?scope, fun h hs => ⟨s.fence n d, taken _ h rfl, _, State.fence_inScope hs, fun id => ?ids⟩, fun h hs h9 ho hl hb ha => ?read,
    fun h => exec_badOpcode h hm hd hh hp⟩
  case scope => exact (taken _ h rfl).trans (next_settle_congr (if_pos hs))
  case ids => rw [State.mem_fenceIds, beq_iff_eq]
  case read => exact (taken _ h rfl).trans (next_settle_congr (State.readState_bar0 hs h9 ho hl hb ha))

end Sys2Proof.Machine
end

section
/-! SUPPORT. ENABLE of a queue pair (R85, R86, R112): a write of HIF_QP_n_CFG that leaves its other fields as they stand, and the statement that it settles. -/
namespace Sys2Proof.Machine

/-! ### The register HIF_QP_n_CFG (Table 4.30) -/

/-- ENABLE, CQ_LOG2, SQ_LOG2 and WEIGHT. -/
def qpCfgFields : List FieldSpec :=
  [{ hi := 31, lo := 31, access := .rw, allowed := [] }, { hi := 20, lo := 16, access := .rw, allowed := [(4, 16)] },
   { hi := 12, lo := 8, access := .rw, allowed := [(4, 16)] }, { hi := 3, lo := 0, access := .rw, allowed := [(1, 15)] }]

/-- HIF_QP_n_CFG in the register map. -/
def qpCfg (n : Nat) : RegHit where
  spec := { base := 0x4810, stride := 0x20, count := 64, stride2 := 0, count2 := 1, wide := false, functional := false, reset := 0x40401, resetStep := 0,
            fields := qpCfgFields }
  i := n
  j := 0
  high := false

set_option maxRecDepth 20000 in
theorem findReg_qpCfg : ∀ n : Fin 64, findReg (Reg.HIF_QP_n_CFG n) = some (qpCfg n) := by decide

theorem offset_qpCfg (n : Nat) : (qpCfg n).offset = Reg.HIF_QP_n_CFG n := by simp [RegHit.offset, qpCfg]

/-- CFG of pair `n` is the fifth word of the pair's row. -/
theorem qpCfg_row {n : Nat} (hn : n < 64) : 0x4800 ≤ Reg.HIF_QP_n_CFG n ∧ Reg.HIF_QP_n_CFG n < 0x5000 ∧ (Reg.HIF_QP_n_CFG n - 0x4800) % 0x20 = 0x10 ∧
    (Reg.HIF_QP_n_CFG n - 0x4800) / 0x20 = n := by
  unfold Reg.HIF_QP_n_CFG
  omega

/-- No lock is on a field of CFG. -/
theorem State.lockedWrite_qpCfg (s : State) (n cur v : Nat) : s.lockedWrite (qpCfg n) cur v = false := by
  simp [State.lockedWrite, qpCfg, qpCfgFields, State.fieldLocked, RegHit.fieldFunctional]

/-- No block rule is on a register below those of the camera links (Table 0.3). -/
theorem State.blockRejects_low (s : State) {off : Nat} (h : off < 0x8000) (cur v : Nat) : s.blockRejects off cur v = false := by
  have indexed : ∀ c, off ≠ Reg.DEC_Cc_RATE c ∧ off ≠ Reg.DEC_Cc_FLOW c ∧ Reg.TIN_Cn_POOL c ≠ off ∧ off ≠ Reg.CXP_CAMn_CFG c := fun c => by
    unfold Reg.DEC_Cc_RATE Reg.DEC_Cc_FLOW Reg.TIN_Cn_POOL Reg.CXP_CAMn_CFG
    omega
  have others : off ≠ Reg.TIN_POOL_BASE ∧ off ≠ Reg.TIN_POOL_SIZE ∧ off ≠ Reg.ENG_BUDGET ∧ off ≠ Reg.FWH_SAVE_BASE ∧ off ≠ Reg.FWH_SAVE_FRAMES ∧ off ≠ Reg.TRU_WORK_BASE ∧
      off ≠ Reg.TRU_WORK_SIZE ∧ off ≠ Reg.TB_PTP_CFG ∧ off ≠ Reg.IHX_LIVENESS := by
    unfold Reg.TIN_POOL_BASE Reg.TIN_POOL_SIZE Reg.ENG_BUDGET Reg.FWH_SAVE_BASE Reg.FWH_SAVE_FRAMES Reg.TRU_WORK_BASE Reg.TRU_WORK_SIZE Reg.TB_PTP_CFG Reg.IHX_LIVENESS
    omega
  have serial : ¬ 0x2A300 ≤ off := by omega
  simp [State.blockRejects, poolReg, indexed, others, serial]

theorem State.written_qpCfg (s : State) {n : Nat} (hn : n < 64) (old new : Nat) (f : Option (List Byte)) :
    s.written (Reg.HIF_QP_n_CFG n) old new f = if bitOn new 31 then s.qpEnableWritten n else s.qpDisableWritten n := by
  obtain ⟨ge, lt, at10, pair⟩ := qpCfg_row hn
  generalize Reg.HIF_QP_n_CFG n = off at ge lt at10 pair
  have control : off ≠ Reg.SYS_LOCK ∧ off ≠ Reg.SYS_CONTROL ∧ off ≠ Reg.JRN_STEP_CLEAR ∧ off ≠ Reg.BRK_CONTROL := by
    unfold Reg.SYS_LOCK Reg.SYS_CONTROL Reg.JRN_STEP_CLEAR Reg.BRK_CONTROL
    omega
  simp [State.written, control, ge, lt, at10, pair]

/-- A field of a register word below its top bit is as it stands after a write of the top bit. -/
theorem bits_enable {cur b : Nat} {hi lo : Nat} (h : hi < 31) : bits (setBits cur 31 31 b) hi lo = bits cur hi lo := bits_setBits_below _ _ _ _ _ _ (by decide) h

/-- CQ_LOG2, SQ_LOG2 and WEIGHT of a pair hold values that Table 4.30 allows. -/
def State.CfgAllowed (s : State) (n : Nat) : Prop :=
  (4 ≤ s.fget (Fld.HIF_QP_n_CFG_SQ_LOG2 n) ∧ s.fget (Fld.HIF_QP_n_CFG_SQ_LOG2 n) ≤ 16) ∧
    (4 ≤ s.fget (Fld.HIF_QP_n_CFG_CQ_LOG2 n) ∧ s.fget (Fld.HIF_QP_n_CFG_CQ_LOG2 n) ≤ 16) ∧ 1 ≤ s.fget (Fld.HIF_QP_n_CFG_WEIGHT n)

section
variable {s : State} {n b : Nat}

theorem State.reservedValue_qpCfg (h : s.CfgAllowed n) : reservedValue (qpCfg n) (setBits (s.word (Reg.HIF_QP_n_CFG n)) 31 31 b) = false := by
  obtain ⟨sq, cq, weight⟩ := h
  have top : s.fget (Fld.HIF_QP_n_CFG_WEIGHT n) ≤ 15 := Nat.le_of_lt_succ (bits_lt _ 3 0)
  unfold State.fget at *
  simp [reservedValue, qpCfg, qpCfgFields, bits_enable, sq, cq, weight, top]

theorem bitOn_eq_decide_bits (m i : Nat) : bitOn m i = decide (bits m i i = 1) := by
  rw [bitOn, bits, Nat.add_sub_cancel_left, pow_one]

theorem bitOn_setBits_same (m i b : Nat) : bitOn (setBits m i i b) i = decide (b % 2 = 1) := by
  rw [bitOn_eq_decide_bits, bits_setBits_same _ _ _ _ le_rfl, Nat.add_sub_cancel_left, pow_one]

/-- ENABLE after the write is what was written. -/
theorem bitOn_writeFields_qpCfg (n cur v : Nat) : bitOn (writeFields (qpCfg n).spec.fields cur v) 31 = bitOn v 31 := by
  have apart : (∀ f ∈ qpCfgFields, f.lo ≤ f.hi) ∧ qpCfgFields.Pairwise FieldSpec.Apart := by decide
  rw [bitOn_eq_decide_bits, bitOn_eq_decide_bits]
  exact congrArg (fun x => decide (x = 1)) (bits_writeFields_same _ cur v apart.1 apart.2 (f := ⟨31, 31, .rw, []⟩) (.head _))

/-- A write of ENABLE alone is not discarded with QP_BUSY, unless it is 1 for a pair that is DRAINING or in ERROR (R85, R112, Table 4.3). -/
theorem State.qpSetupBusy_qpCfg (hn : n < 64) (hh : (s.qp n).held = false) (hb : b = 0 ∨ ((s.qp n).state ≠ .draining ∧ (s.qp n).state ≠ .error)) :
    s.qpSetupBusy (Reg.HIF_QP_n_CFG n) (s.word (Reg.HIF_QP_n_CFG n)) (setBits (s.word (Reg.HIF_QP_n_CFG n)) 31 31 b) = false := by
  obtain ⟨ge, lt, at10, pair⟩ := qpCfg_row hn
  simp only [State.qpSetupBusy, ge, lt, at10, pair, hh, bitOn_setBits_same]
  rcases hb with rfl | ⟨hd, he⟩
  · simp [bits_enable]
  · simp [bits_enable, hd, he]

/-- A write of ENABLE that no rule discards is stored, and the pair starts or stops. -/
theorem State.regWrite_qpCfg (hn : n < 64) (hc : s.CfgAllowed n) (hh : (s.qp n).held = false) (hb : b = 0 ∨ ((s.qp n).state ≠ .draining ∧ (s.qp n).state ≠ .error)) :
    ∃ w, s.regWrite (Reg.HIF_QP_n_CFG n) (setBits (s.word (Reg.HIF_QP_n_CFG n)) 31 31 b) =
      if b % 2 = 1 then (s.setWord (Reg.HIF_QP_n_CFG n) w).qpEnableWritten n else (s.setWord (Reg.HIF_QP_n_CFG n) w).qpDisableWritten n := by
  obtain ⟨-, lt, -⟩ := qpCfg_row hn
  have cur : s.regValue (qpCfg n) = s.word (Reg.HIF_QP_n_CFG n) := by rw [State.regValue_narrow s rfl, offset_qpCfg]
  have gate : gateReg (qpCfg n).offset = false := by
    rw [offset_qpCfg, gateReg, Bool.or_eq_false_iff, decide_eq_false_iff_not, decide_eq_false_iff_not]
    omega
  refine ⟨writeFields (qpCfg n).spec.fields (s.word (Reg.HIF_QP_n_CFG n)) (setBits (s.word (Reg.HIF_QP_n_CFG n)) 31 31 b), ?_⟩
  rw [State.regWrite_narrow s _ _ none (findReg_qpCfg ⟨n, hn⟩) rfl,
    State.writeReg_stored _ _ none (s.lockedWrite_qpCfg n _ _) ?busy (State.reservedValue_qpCfg hc) ?block (.inl gate),
    cur, offset_qpCfg, State.written_qpCfg _ hn, bitOn_writeFields_qpCfg, bitOn_setBits_same, State.setRegValue, offset_qpCfg]
  case busy => rw [cur, offset_qpCfg, State.qpSetupBusy_qpCfg hn hh hb]
  case block => exact s.blockRejects_low (by rw [offset_qpCfg]; omega) _ _
  simp [qpCfg]

end

/-! ### ENABLE written 1 and 0 (Table 4.3) -/

/-- A pair that ENABLE makes ACTIVE: empty rings, phase 1. -/
def Qp.enabled (q : Qp) : Qp :=
  { q with state := .active, sqHead := 0, sqTail := 0, cqHead := 0, cqTail := 0, phase := 1, waiting := [], stallRaised := false, cause := 0 }

section
variable {s : State} {n : Nat}

theorem State.qpEnableWritten_disabled (h : (s.qp n).state = .disabled) : s.qpEnableWritten n = s.setQp n (s.qp n).enabled := if_pos h

theorem State.qpDisableWritten_active (h : (s.qp n).state = .active) : s.qpDisableWritten n = s.setQp n (s.qp n).stopped := by
  simp [State.qpDisableWritten, State.qpStop, Qp.stopped, h]

/-- An ACTIVE pair that stops keeps what it has fetched and drops its waiting completions. -/
theorem Qp.stopped_active {q : Qp} (h : q.state = .active) :
    q.stopped.state = (if q.inflight = [] then .disabled else .draining) ∧ q.stopped.inflight = q.inflight ∧ q.stopped.waiting = [] := by
  simp only [Qp.stopped, h, Qp.drained, true_and]
  split <;> exact ⟨rfl, rfl, rfl⟩

theorem Qp.stopped_error {q : Qp} (h : q.state = .error) : q.stopped.state = .disabled ∧ q.stopped.cause = 0 := by
  simp [Qp.stopped, h]

end

theorem exec_qpEnable (n : Fin 64) (s : State) :
    exec (.qpEnable n) s = .next (s.regWrite (Reg.HIF_QP_n_CFG n) (setBits (s.word (Reg.HIF_QP_n_CFG n)) 31 31 1)).settle := rfl

theorem exec_qpDisable (n : Fin 64) (s : State) :
    exec (.qpDisable n) s = .next (s.regWrite (Reg.HIF_QP_n_CFG n) (setBits (s.word (Reg.HIF_QP_n_CFG n)) 31 31 0)).settle := rfl

/-- Settles O23: the write of ENABLE is stored, and the pair goes by Table 4.3. -/
theorem enableActivatesPair : Obligations.EnableActivatesPair := by
  unfold Obligations.EnableActivatesPair
  intro n s hh sqLow sqHigh cqLow cqHigh weight
  have allowed : s.CfgAllowed n := ⟨⟨sqLow, sqHigh⟩, ⟨cqLow, cqHigh⟩, weight⟩
  refine ⟨fun h => ?enable, fun h => ?stop, fun h => ?free⟩
  case enable =>
    obtain ⟨w, stored⟩ := State.regWrite_qpCfg (b := 1) n.isLt allowed hh (.inr ⟨by simp [h], by simp [h]⟩)
    let u := s.setWord (Reg.HIF_QP_n_CFG n) w
    refine ⟨u.setQp n (s.qp n).enabled, ?_, rfl, u.qp_setQp_same n _, fun m hm => (u.qp_setQp n m _).trans (if_neg hm)⟩
    rw [exec_qpEnable, stored]
    exact next_settle_congr (State.qpEnableWritten_disabled (s := u) h)
  case stop =>
    obtain ⟨w, stored⟩ := State.regWrite_qpCfg (b := 0) n.isLt allowed hh (.inl rfl)
    let u := s.setWord (Reg.HIF_QP_n_CFG n) w
    obtain ⟨state, inflight, waiting⟩ := Qp.stopped_active h
    refine ⟨u.setQp n (s.qp n).stopped, ?_, rfl, ?_, ?_, ?_, fun m hm => (u.qp_setQp n m _).trans (if_neg hm)⟩
    · rw [exec_qpDisable, stored]
      exact next_settle_congr (State.qpDisableWritten_active (s := u) h)
    all_goals rwa [State.qp_setQp_same]
  case free =>
    obtain ⟨w, stored⟩ := State.regWrite_qpCfg (b := 0) n.isLt allowed hh (.inl rfl)
    let u := s.setWord (Reg.HIF_QP_n_CFG n) w
    have pair (m : Nat) : (u.qpDisableWritten n).qp m = if m = n then (s.qp n).stopped else s.qp m := u.qp_qpDisableWritten n m
    obtain ⟨state, cause⟩ := Qp.stopped_error h
    refine ⟨u.qpDisableWritten n, ?_, ?_, ?_, fun m hm => (pair m).trans (if_neg hm)⟩
    · rw [exec_qpDisable, stored]
      exact next_settle_congr (if_neg (by decide))
    all_goals rwa [pair, if_pos rfl]

end Sys2Proof.Machine
end

section
/-! SUPPORT. Staging and committing a configuration, as section 4.7 states it: STAGE_CONFIG by kind, COMMIT_CONFIG, and how a waiting commit moves; and the statements that
these settle. -/
namespace Sys2Proof.Machine

/-! ### The entries of a set (R103) -/

/-- A table in front of another reads as the other where it lists nothing. -/
theorem Tbl.get_append {α : Type} (d : Nat → α) (t u : Tbl α) (k : Nat) : Tbl.get d (t ++ u) k = Tbl.get (Tbl.get d u) t k := by
  induction t with
  | nil => rfl
  | cons e t ih => simp only [List.cons_append, Tbl.get, ih]

theorem Tbl.get_congr {α : Type} {d d' : Nat → α} (t : Tbl α) {k : Nat} (h : d k = d' k) : Tbl.get d t k = Tbl.get d' t k := by
  induction t with
  | nil => exact h
  | cons e t ih => simp only [Tbl.get, ih]

section
variable {t : Tbl Word} {l : List (Nat × Nat)} {o v : Nat}

/-- One entry staged: it replaces what the set held for its offset. -/
def stageEntry (t : Tbl Word) (e : Nat × Nat) : Tbl Word :=
  t.keep (fun o => decide (o < e.1)) ++ (e.1, BitVec.ofNat 32 e.2) :: t.keep (fun o => decide (e.1 < o))

theorem stageEntries_eq_foldl (t : Tbl Word) (l : List (Nat × Nat)) : stageEntries t l = l.foldl stageEntry t := by
  induction l generalizing t with
  | nil => rfl
  | cons e l ih => exact ih _

theorem stageEntries_append_one : stageEntries t (l ++ [(o, v)]) = stageEntry (stageEntries t l) (o, v) := by
  simp [stageEntries_eq_foldl]

theorem get_stageEntry_same : (stageEntry t (o, v)).get (fun _ => 0) o = BitVec.ofNat 32 v := by
  simp [stageEntry, Tbl.get_append, Tbl.get_keep, Tbl.get]

/-- An entry leaves what the set holds for every other offset. -/
theorem get_stageEntry_other {o' : Nat} (h : o' ≠ o) : (stageEntry t (o, v)).get (fun _ => 0) o' = t.get (fun _ => 0) o' := by
  rw [stageEntry, Tbl.get_append, Tbl.get_keep]
  simp only [decide_eq_true_eq, Tbl.get, if_neg h, Tbl.get_keep]
  split
  · next lt => exact Tbl.get_congr t (by simp [h, Nat.lt_asymm lt])
  · next ge => rw [if_pos (by omega)]

end

/-! ### STAGE_CONFIG (R102, R103, R104, R346) -/

/-- The fields of a STAGE_CONFIG are in order (Table 4.10), and no commit of its set is outstanding. -/
structure State.Stageable (s : State) (d : List Byte) : Prop where
  set : rd d 8 1 ≤ 3
  kind : rd d 9 1 ≤ 2
  count : rd d 9 1 = 0 → 0 < rd d 12 2 ∧ rd d 12 2 ≤ 512
  addr : hostAddr (rd d 16 8) = true
  free : (s.set (rd d 8 1)).outstanding = false

section
variable {s : State} {n : Nat} {d data : List Byte} {tables : List (List Byte)}

theorem State.Stageable.stage (h : s.Stageable d) : s.stage n d data tables = s.reads n d true fun s =>
    if rd d 9 1 = 0 then s.stageRegs n d data tables else if rd d 9 1 = 1 then s.stageImage n d data else s.stageBlock n d data := by
  have count : ¬(rd d 9 1 = 0 ∧ (rd d 12 2 = 0 ∨ 512 < rd d 12 2)) := fun ⟨k, c⟩ => by
    have := h.count k
    omega
  rw [State.stage, if_neg (Nat.not_lt.mpr h.set), if_neg (Nat.not_lt.mpr h.kind), if_neg count, h.addr, h.free]
  rfl

/-- Without the link the list cannot be read, and the descriptor ends without a completion (R83). -/
theorem State.Stageable.stage_linkDown (h : s.Stageable d) (hl : s.hif.linkUp = false) : s.stage n d data tables = s.endDesc n d := by
  rw [h.stage, State.reads, hl]
  rfl

section
variable (hl : s.hif.linkUp = true)
include hl

theorem State.Stageable.stage_registers (h : s.Stageable d) (hk : rd d 9 1 = 0) : s.stage n d data tables = s.stageRegs n d data tables := by
  rw [h.stage, State.reads, hl, hk]
  rfl

theorem State.Stageable.stage_image (h : s.Stageable d) (hk : rd d 9 1 = 1) : s.stage n d data tables = s.stageImage n d data := by
  rw [h.stage, State.reads, hl, hk]
  rfl

theorem State.Stageable.stage_block (h : s.Stageable d) (hk : rd d 9 1 = 2) : s.stage n d data tables = s.stageBlock n d data := by
  rw [h.stage, State.reads, hl, hk]
  rfl

end

/-- A register list without a bad entry that fits its set (R103). -/
theorem State.stageRegs_staged (hb : ∀ e ∈ (List.range (rd d 12 2)).map (regEntry data), badRegEntry e = false)
    (hl : (stageEntries (s.set (rd d 8 1)).entries ((List.range (rd d 12 2)).map (regEntry data))).length ≤ 512) :
    let k := rd d 8 1
    let es := (List.range (rd d 12 2)).map (regEntry data)
    let t := stageEntries (s.set k).entries es
    let u := s.setSet k { s.set k with entries := t, tables := s.shadow t (s.set k).tables (sourcesOf (stageEntries [] es)) tables }
    s.stageRegs n d data tables = u.complete n d St.OK 0 (u.stageResult k) := by
  intro k es t u
  have bad : es.any badRegEntry = false := List.any_eq_false.mpr fun e he => by simp [hb e he]
  have fits : ¬ 512 < t.length := Nat.not_lt.mpr hl
  rw [State.stageRegs, if_neg (by simp [es, bad]), if_neg fits]

/-- A correction block that passes its rules, with room in its set for its sections (R346). -/
theorem State.stageBlock_staged {l : List Section} (hr : readBlock data (rd d 24 4) = some l) (hl : (addSections (s.set (rd d 8 1)).sections (l.map s.noteSection)).length ≤ 1024) :
    let k := rd d 8 1
    let u := s.setSet k { s.set k with sections := addSections (s.set k).sections (l.map s.noteSection) }
    s.stageBlock n d data = u.complete n d St.OK 0 (u.stageResult k) := by
  intro k u
  rw [State.stageBlock, hr]
  exact if_neg (Nat.not_lt.mpr hl)

/-! A schedule image (R104). -/

/-- The set with an image that has passed its check, and, with PERSIST, the flash with the image in the partition's slot that is not preferred. -/
def State.imageKept (s : State) (k : Nat) (image : List Byte) (persist : Bool) : State :=
  let fixed := decide (Image.partition image = 1)
  let x := s.set k
  let u := s.setSet k (if fixed then { x with fixedImg := some image, persistFixed := persist } else { x with freeImg := some image, persistFree := persist })
  if persist then { u with flash := u.flash.put (fun _ => []) (slotIndex fixed (1 - u.slotPref fixed)) image } else u

/-- The arrays that the image lacks are not programmed now: none is lacking, the level forbids it, or one of them is not free. -/
def State.programsLater (s : State) (k : Nat) (image : List Byte) : Bool :=
  (s.lacking image).isEmpty || decide (1 < s.sup.level) || !(s.lacking image).all fun p => s.arrayFree k (Image.pEngine p) (Image.pArray p)

theorem State.programsLater_iff {k : Nat} {image : List Byte} : s.programsLater k image = true ↔
    ¬(s.lacking image ≠ [] ∧ s.sup.level ≤ 1 ∧ ∀ p ∈ s.lacking image, s.arrayFree k (Image.pEngine p) (Image.pArray p) = true) := by
  simp only [State.programsLater, Bool.or_eq_true, List.isEmpty_iff, decide_eq_true_eq, Bool.not_eq_true', List.all_eq_false, not_and_or, not_forall, not_not, Nat.not_le,
    or_assoc, exists_prop]

/-- The set does not yet hold an image of the partition of this one. -/
def State.ImageFits (s : State) (k : Nat) (image : List Byte) : Prop :=
  (if decide (Image.partition image = 1) = true then (s.set k).fixedImg else (s.set k).freeImg) = none

section
variable {image : List Byte} (hf : s.ImageFits (rd d 8 1) image)
include hf

theorem State.stageImage_failed {code row : Nat} (hc : s.stagedCheck (rd d 8 1) image (rd d 24 4) (bitOn (rd d 10 1) 0) = some (code, row)) :
    s.stageImage n d image = (s.complete n d St.REFUSED code (2 ^ 32)).raiseRow code row := by
  simp only [State.stageImage, hc]
  exact if_neg (by rw [hf]; decide)

variable (hc : s.stagedCheck (rd d 8 1) image (rd d 24 4) (bitOn (rd d 10 1) 0) = none)
include hc

theorem State.stageImage_passed : let v := s.imageKept (rd d 8 1) image (bitOn (rd d 10 1) 0)
    s.stageImage n d image = if v.programsLater (rd d 8 1) image then v.complete n d St.OK 0 (v.stageResult (rd d 8 1))
      else ({ v with progs := v.progs ++ [(⟨n, d, 0, 0⟩ : ProgAcc)] } : State).programAll (.staging (rd d 8 1) n d) image (v.lacking image) := by
  simp only [State.stageImage, hc]
  exact if_neg (by rw [hf]; decide)

end

end

theorem exec_stageRegisterList {s0 : State} {n : Fin 64} {w d : List Byte} (list : List Byte) (tables : List (List Byte)) (h : s0.Runs 0x02 n w d) :
    exec (.stageRegisterList n w list tables) s0 = .next ((s0.starts n d).stage n d list tables).settle := gate_runs _ h

theorem exec_stageScheduleImage {s0 : State} {n : Fin 64} {w d : List Byte} (image : List Byte) (h : s0.Runs 0x02 n w d) :
    exec (.stageScheduleImage n w image) s0 = .next ((s0.starts n d).stage n d image []).settle := gate_runs _ h

theorem exec_stageCorrectionBlock {s0 : State} {n : Fin 64} {w d : List Byte} (block : List Byte) (h : s0.Runs 0x02 n w d) :
    exec (.stageCorrectionBlock n w block) s0 = .next ((s0.starts n d).stage n d block []).settle := gate_runs _ h

/-! ### COMMIT_CONFIG (R105) -/

/-- The fields of a COMMIT_CONFIG are in order (Table 4.11), and no commit of its set is outstanding. -/
structure State.Committable (s : State) (d : List Byte) : Prop where
  set : rd d 8 1 ≤ 3
  boundary : rd d 9 1 ≤ 2
  stream : rd d 9 1 = 0 → rd d 10 1 ≤ 23
  free : (s.set (rd d 8 1)).outstanding = false

/-- The commit of a descriptor that waits for its boundary. -/
def commitOf (n : Nat) (d : List Byte) : Commit :=
  { qp := n, d, set := rd d 8 1, boundary := rd d 9 1, stream := rd d 10 1, notAfter := rd d 16 8, drain := bitOn (rd d 11 1) 2 }

section
variable {s : State} {n : Nat} {d : List Byte} (h : s.Committable d)
include h

theorem State.Committable.not_badStream : ¬(rd d 9 1 = 0 ∧ 23 < rd d 10 1) := fun ⟨b, c⟩ => Nat.not_lt.mpr (h.stream b) c

theorem State.Committable.commit_abandon (ha : bitOn (rd d 11 1) 0 = true) :
    s.commit n d = (s.setSet (rd d 8 1) {}).complete n d St.OK 0 ((s.setSet (rd d 8 1) {}).commitResult (rd d 8 1)) := by
  rw [State.commit, if_neg (Nat.not_lt.mpr h.set), if_neg (Nat.not_lt.mpr h.boundary), if_neg h.not_badStream, h.free, ha]
  rfl

theorem State.Committable.commit_waits (ha : bitOn (rd d 11 1) 0 = false)
    (hf : ∀ f, (s.set (rd d 8 1)).fixedImg = some f → s.lacking f = [] ∧ (s.mem.layout = [] ∨ Image.layout f = s.mem.layout))
    (hp : s.setPending (rd d 8 1) = 0 ∨ bitOn (rd d 11 1) 2 = true) (hs : rd d 9 1 = 0 → (s.ctx (rd d 10 1)).state ≠ .free) :
    s.commit n d = ({ s with hif := { s.hif with commits := s.hif.commits ++ [commitOf n d] } } : State).setSet (rd d 8 1) { s.set (rd d 8 1) with outstanding := true } := by
  have layout : ((s.set (rd d 8 1)).fixedImg.any fun f => !s.mem.layout.isEmpty && Image.layout f != s.mem.layout) = false := by
    cases e : (s.set (rd d 8 1)).fixedImg with
    | none => rfl
    | some f => rcases (hf f e).2 with l | l <;> simp [l]
  have loaded : ((s.set (rd d 8 1)).fixedImg.map s.lacking).getD [] = [] := by
    cases e : (s.set (rd d 8 1)).fixedImg with
    | none => rfl
    | some f => exact (hf f e).1
  have drains : ¬(s.setPending (rd d 8 1) ≠ 0 ∧ bitOn (rd d 11 1) 2 = false) := fun ⟨p, q⟩ => by
    rcases hp with e | e
    · exact p e
    · simp [q] at e
  have bound : ¬(rd d 9 1 = 0 ∧ (s.ctx (rd d 10 1)).state = .free) := fun ⟨b, c⟩ => hs b c
  rw [State.commit, if_neg (Nat.not_lt.mpr h.set), if_neg (Nat.not_lt.mpr h.boundary), if_neg h.not_badStream, h.free, ha, layout, if_neg drains,
    if_neg (not_not_intro loaded), if_neg bound]
  rfl

end

theorem exec_commitConfig {s0 : State} {n : Fin 64} {w d : List Byte} (h : s0.Runs 0x03 n w d) :
    exec (.commitConfig n w) s0 = .next ((s0.starts n d).commit n d).settle := gate_runs _ h

theorem exec_commitAbandon {s0 : State} {n : Fin 64} {w d : List Byte} (h : s0.Runs 0x03 n w d) :
    exec (.commitAbandon n w) s0 = .next ((s0.starts n d).commit n d).settle := gate_runs _ h

/-- Settles O44: the gate runs the command, and its fields being in order the kind of staging, or ABANDON, decides. -/
theorem stageAndCommit : Obligations.StageAndCommit := by
  unfold Obligations.StageAndCommit
  intro n w d list image block tables s0 hset s k x hfree
  refine ⟨fun hr hk hc ha hl => ?linkDown, fun hr ha hl => ⟨fun hk h0 h1 hb ht => ?registers, fun hk hx => ⟨fun hc => ?image, fun code row hc => ?failed⟩,
    fun hk l hb hy => ?block⟩, fun hr hb hst => ⟨fun hab => ?abandon, fun hab hf hp hctx => ?waits⟩, fun t l o v => ?entries⟩
  case linkDown =>
    have ok : s.Stageable d := ⟨hset, hk, hc, ha, hfree⟩
    refine ⟨?_, ?_, ?_⟩
    · rw [exec_stageRegisterList _ _ hr, ok.stage_linkDown hl]
    · rw [exec_stageScheduleImage _ hr, ok.stage_linkDown hl]
    · rw [exec_stageCorrectionBlock _ hr, ok.stage_linkDown hl]
  case registers =>
    have ok : s.Stageable d := ⟨hset, by omega, fun _ => ⟨h0, h1⟩, ha, hfree⟩
    rw [exec_stageRegisterList _ _ hr, ok.stage_registers hl hk, State.stageRegs_staged hb ht]
  case image =>
    have ok : s.Stageable d := ⟨hset, by omega, by omega, ha, hfree⟩
    let v := s.imageKept k image (bitOn (rd d 10 1) 0)
    have later := v.programsLater_iff (k := k) (image := image)
    rw [exec_stageScheduleImage _ hr, ok.stage_image hl hk, State.stageImage_passed hx hc]
    exact ⟨fun h => next_settle_congr (if_pos (later.mpr h)), fun h => next_settle_congr (if_neg fun hv => later.mp hv h)⟩
  case failed =>
    have ok : s.Stageable d := ⟨hset, by omega, by omega, ha, hfree⟩
    rw [exec_stageScheduleImage _ hr, ok.stage_image hl hk, State.stageImage_failed hx hc]
  case block =>
    have ok : s.Stageable d := ⟨hset, by omega, by omega, ha, hfree⟩
    rw [exec_stageCorrectionBlock _ hr, ok.stage_block hl hk, State.stageBlock_staged hb hy]
  case abandon =>
    have ok : s.Committable d := ⟨hset, hb, hst, hfree⟩
    rw [exec_commitAbandon hr, ok.commit_abandon hab]
  case waits =>
    have ok : s.Committable d := ⟨hset, hb, hst, hfree⟩
    rw [exec_commitConfig hr, ok.commit_waits hab hf hp hctx]
    rfl
  case entries =>
    rw [stageEntries_append_one]
    exact ⟨get_stageEntry_same, fun o' ho => get_stageEntry_other ho⟩

end Sys2Proof.Machine
end

section
/-! SUPPORT. How the front commit moves (R105, R106, R108, R142): its boundary, its time limit and the end of its drain; and the statement that this settles. -/
namespace Sys2Proof.Machine

section
variable {s : State} {c : Commit} {l r : List Commit} (h : s.hif.commits = c :: r)

/-! ### The boundary that COMMIT_EFFECT brings -/

include h in
theorem State.commitBoundary_frame (hb : c.boundary = 0) (hf : (s.ctx c.stream).state ≠ .free) (hs : (s.ctx c.stream).state ≠ .suspended) :
    s.commitBoundary = s.streamBoundary c.stream := by
  simp only [State.commitBoundary, h]
  rw [if_pos hb, if_neg (not_or.mpr ⟨hf, hs⟩)]

include h in
theorem State.commitBoundary_fixed (hb : c.boundary = 1) (hi : s.iterationRunning = false) (hl : s.sup.level ≤ 3) :
    s.commitBoundary = (s.passUntil (s.boundaryAt s.now)).commitAt 1 0 := by
  have runs : ¬(s.iterationRunning || decide (3 < s.sup.level)) = true := by simp [hi, hl]
  simp only [State.commitBoundary, h, hb]
  exact if_neg runs

/-! ### A boundary that fits the front commit -/

/-- No time limit of a commit has passed. -/
def State.NoneExpired (s : State) : Prop := ∀ y ∈ s.hif.commits, y.notAfter = 0 ∨ s.now ≤ y.notAfter

theorem State.NoneExpired.expireCommits (hn : s.NoneExpired) : s.expireCommits = s := by
  have none : (s.hif.commits.filter fun c => c.notAfter != 0 && decide (c.notAfter < s.now)) = [] := by
    refine List.filter_eq_nil_iff.mpr fun y hy => ?_
    rcases hn y hy with e | e <;> simp [e]
  rw [State.expireCommits, none]
  rfl

include h in
theorem State.NoneExpired.commitAt {kind stream : Nat} (hn : s.NoneExpired) (hk : c.boundary = kind) (hs : kind = 0 → c.stream = stream) (hr : s.commitReady c = true) :
    s.commitAt kind stream = s.commitEffect c := by
  have fits : c.boundary = kind ∧ (kind ≠ 0 ∨ c.stream = stream) ∧ s.commitReady c = true := ⟨hk, not_or_of_imp hs, hr⟩
  simp only [State.commitAt, hn.expireCommits, h]
  exact if_pos fits

theorem State.staleEpoch_iff : s.staleEpoch c = true ↔ bitOn (rd c.d 11 1) 1 = true ∧ rd c.d 12 2 ≠ s.hif.epoch := by
  simp [State.staleEpoch]

/-! ### The end of a drain -/

include h in
theorem State.drainDone_goesOn (hp : c.phase = 2) (hw : s.workLeft (.drain c.set) = false) (hu : c.untouched = false) :
    s.drainDone = s.markCommit c.set fun c => { c with phase := 3 } := by
  simp [State.drainDone, h, hp, hw, hu]

include h in
theorem State.drainDone_untouched (hp : c.phase = 2) (hw : s.workLeft (.drain c.set) = false) (hu : c.untouched = true) :
    s.drainDone = s.commitEnd c St.REFUSED 0 (s.commitResult c.set + 2 * 2 ^ 32) := by
  simp [State.drainDone, h, hp, hw, hu]

/-! ### The time limit (R108) -/

/-- The commit with the earliest time limit, the front one among equals. -/
theorem find?_earliest (hc : c.notAfter ≠ 0) (hl : ∀ x ∈ l, x.notAfter = 0 ∨ c.notAfter < x.notAfter) (hr : ∀ x ∈ r, x.notAfter = 0 ∨ c.notAfter ≤ x.notAfter) :
    let cs := (l ++ c :: r).filter fun c => c.notAfter != 0
    (cs.find? fun c => cs.all fun x => decide (c.notAfter ≤ x.notAfter)) = some c := by
  intro cs
  have split : cs = (l.filter fun c => c.notAfter != 0) ++ c :: r.filter fun c => c.notAfter != 0 := by simp [cs, List.filter_append, hc]
  refine List.find?_eq_some_iff_append.mpr ⟨?earliest, _, _, split, ?earlier⟩
  case earliest =>
    refine List.all_eq_true.mpr fun x hx => decide_eq_true ?_
    obtain ⟨hx, limited⟩ := List.mem_filter.mp hx
    have limited : x.notAfter ≠ 0 := by simpa using limited
    rcases List.mem_append.mp hx with inl | inr
    · have := hl x inl
      omega
    · rcases List.mem_cons.mp inr with rfl | inr
      · exact le_rfl
      · have := hr x inr
        omega
  case earlier =>
    intro x hx
    obtain ⟨inl, limited⟩ := List.mem_filter.mp hx
    have later : ¬ x.notAfter ≤ c.notAfter := Nat.not_le.mpr ((hl x inl).resolve_left (by simpa using limited))
    have mem : c ∈ cs := by simp [split]
    have : (cs.all fun y => decide (x.notAfter ≤ y.notAfter)) = false := List.all_eq_false.mpr ⟨c, mem, by simpa using later⟩
    simp [this]

theorem State.commitTimeout_earliest (h : s.hif.commits = l ++ c :: r) (hc : c.notAfter ≠ 0) (hl : ∀ x ∈ l, x.notAfter = 0 ∨ c.notAfter < x.notAfter)
    (hr : ∀ x ∈ r, x.notAfter = 0 ∨ c.notAfter ≤ x.notAfter) : let u := s.passUntil (c.notAfter + 1)
    s.commitTimeout = u.commitEnd c St.TIMEOUT 0 (u.commitResult c.set) := by
  have found := find?_earliest hc hl hr
  rw [← h] at found
  simp only [State.commitTimeout, found]

end

theorem exec_commitEffect (s : State) : exec .commitEffect s = .next s.commitBoundary.settle := rfl
theorem exec_commitTimeout (s : State) : exec .commitTimeout s = .next s.commitTimeout.settle := rfl
theorem exec_drainReprogramDone (s : State) : exec .drainReprogramDone s = .next s.drainDone.settle := rfl

/-- Settles O45: the equation of each event for the front commit. FAULT PROGRAM_VERIFY_FAILED after a drain is log 93, the refusal with reason 2 log 94. -/
theorem commitsMove : Obligations.CommitsMove := by
  unfold Obligations.CommitsMove
  intro s c l r
  refine ⟨fun h => ⟨fun hb hf hs => ?frame, fun hb hi hl => ?fixed, fun kind stream hn hk hs hr => ⟨fun check stale => ?stale, fun check => ?takes⟩,
    fun hp hw => ⟨fun hu => ?goesOn, fun hu => ?untouched⟩⟩, fun h hc hl hr => ?timeout⟩
  case frame => rw [exec_commitEffect, State.commitBoundary_frame h hb hf hs, State.streamBoundary]
  case fixed => rw [exec_commitEffect, State.commitBoundary_fixed h hb hi hl]
  case stale =>
    rw [State.NoneExpired.commitAt h hn hk hs hr]
    exact if_pos (State.staleEpoch_iff.mpr ⟨check, stale⟩)
  case takes =>
    rw [State.NoneExpired.commitAt h hn hk hs hr]
    exact if_neg fun stale => (State.staleEpoch_iff.mp stale).2 (check (State.staleEpoch_iff.mp stale).1)
  case goesOn => rw [exec_drainReprogramDone, State.drainDone_goesOn h hp hw hu]
  case untouched => rw [exec_drainReprogramDone, State.drainDone_untouched h hp hw hu]
  case timeout => rw [exec_commitTimeout, State.commitTimeout_earliest h hc hl hr]

end Sys2Proof.Machine
end

section
/-! SUPPORT. Updates that touch registers alone, and what the passing of time leaves of the cameras: for the camera links of chapter 5. -/
namespace Sys2Proof.Machine

/-- In `t` only register words may differ from `s`. -/
def State.RegsOnly (s t : State) : Prop := ∃ r, t = { s with regs := r }

theorem State.RegsOnly.refl (s : State) : s.RegsOnly s := ⟨s.regs, rfl⟩

theorem State.RegsOnly.trans {s t u : State} (h : s.RegsOnly t) (k : t.RegsOnly u) : s.RegsOnly u := by
  obtain ⟨_, rfl⟩ := h
  obtain ⟨r, rfl⟩ := k
  exact ⟨r, rfl⟩

theorem State.regsOnly_fset (s : State) (f : Fld) (v : Nat) : s.RegsOnly (s.fset f v) := ⟨_, rfl⟩

theorem State.regsOnly_setWord (s : State) (off v : Nat) : s.RegsOnly (s.setWord off v) := ⟨_, rfl⟩

theorem State.RegsOnly.eq {s t : State} (h : s.RegsOnly t) : t = { s with regs := t.regs } := by
  obtain ⟨_, rfl⟩ := h
  rfl

theorem State.RegsOnly.withCams {s t : State} (h : s.RegsOnly t) (c : Cams) : State.RegsOnly { s with cams := c } { t with cams := c } := by
  obtain ⟨r, rfl⟩ := h
  exact ⟨r, rfl⟩

theorem State.RegsOnly.cams {s t : State} (h : s.RegsOnly t) : t.cams = s.cams := by
  obtain ⟨_, rfl⟩ := h
  rfl

theorem State.fget_withCams (s : State) (c : Cams) (f : Fld) : ({ s with cams := c } : State).fget f = s.fget f := rfl

theorem State.word_withCams (s : State) (c : Cams) (off : Nat) : ({ s with cams := c } : State).word off = s.word off := rfl

theorem State.fget_setWord_other (s : State) {f : Fld} {off : Nat} (v : Nat) (h : f.off ≠ off) : (s.setWord off v).fget f = s.fget f :=
  congrArg (bits · f.hi f.lo) (State.word_setWord_other s off f.off v h)

@[simp] theorem State.cam_passUntil (s : State) (k t : Nat) : (s.passUntil t).cam k = s.cam k := rfl
@[simp] theorem State.camFld_passUntil (s : State) (k t : Nat) (f : Fld) : (s.passUntil t).camFld k f = s.camFld k f := rfl
@[simp] theorem State.ctx_passUntil (s : State) (n t : Nat) : (s.passUntil t).ctx n = s.ctx n := rfl
@[simp] theorem State.sensor_passUntil (s : State) (k t : Nat) : (s.passUntil t).sensor k = s.sensor k := rfl

end Sys2Proof.Machine
end

section
/-! SUPPORT. The A-PHY links and their sensors, as chapter 5 states them: what a packet's header leads to, the lines of a frame, links up and down, sensor writes; and the
statement that these settle. -/
namespace Sys2Proof.Machine

variable {s : State} {n : Nat}

/-! ### What the header of a packet leads to (R114, R129) -/

/-- The header of a packet has been read: a corrected error of it is raised. -/
def State.headerRead (s : State) (ecc : Nat) : State := if ecc = 1 then s.raise Cause.CSI_ECC_CORRECTED else s

section
variable {port vc ecc : Nat} (f : State → Nat → State) (up : s.fget (Fld.APY_PORTn_STATUS_LINK_UP port) ≠ 0)
include up

theorem State.csiHeader_uncorrectable : s.csiHeader port vc 2 f = s.headerError port := by
  rw [State.csiHeader, if_neg up, if_pos rfl]

theorem State.csiHeader_readable (he : ecc ≠ 2) : s.csiHeader port vc ecc f = if 4 ≤ vc then s.headerRead ecc else
    ((s.headerRead ecc).ctxOf 1 port vc).elim ((s.headerRead ecc).bump (Fld.APY_Sn_DROPPED_COUNT (4 * port + vc)))
      fun n => if ((s.headerRead ecc).ctx n).open? then f (s.headerRead ecc) n else s.headerRead ecc := by
  rw [State.csiHeader, if_neg up, if_neg he]
  extract_lets +onlyGivenNames u
  have same : u = s.headerRead ecc := rfl
  clear_value u
  subst same
  cases (s.headerRead ecc).ctxOf 1 port vc <;> rfl

theorem State.csiHeader_channel_discarded (he : ecc ≠ 2) (hv : 4 ≤ vc) : s.csiHeader port vc ecc f = s.headerRead ecc := by
  rw [State.csiHeader_readable f up he, if_pos hv]

theorem State.csiHeader_no_context (he : ecc ≠ 2) (hv : vc < 4) (hn : (s.headerRead ecc).ctxOf 1 port vc = none) :
    s.csiHeader port vc ecc f = (s.headerRead ecc).bump (Fld.APY_Sn_DROPPED_COUNT (4 * port + vc)) := by
  rw [State.csiHeader_readable f up he, if_neg (by omega), hn, Option.elim_none]

theorem State.csiHeader_open_context (he : ecc ≠ 2) (hv : vc < 4) (hn : (s.headerRead ecc).ctxOf 1 port vc = some n) (ho : ((s.headerRead ecc).ctx n).open? = true) :
    s.csiHeader port vc ecc f = f (s.headerRead ecc) n := by
  rw [State.csiHeader_readable f up he, if_neg (by omega), hn, Option.elim_some, if_pos ho]

end

/-! ### The start of a frame (R128) -/

/-- A sample that has just begun: a whole frame of this size, number and time, with no line yet. -/
def Sample.Begun (y : Sample) (t frame w h : Nat) : Prop :=
  y.width = w ∧ y.height = h ∧ y.srcFrame = frame ∧ y.tFirst = t ∧ y.rows = [] ∧ y.tracked = true ∧ y.bad = false

/-- Claiming a converter unit and a slot tells where a sample goes, and nothing else of it. -/
theorem State.claim_sample (s : State) (n : Nat) (x : Sample) :
    ∃ unit slot lost discard prog, (s.claim n x).2 = { x with unit, slot, lost, discard, prog } := by
  unfold State.claim
  extract_lets c k lost
  split
  · exact ⟨_, _, _, _, _, rfl⟩
  · extract_lets x' lost'
    split
    · exact ⟨_, _, _, _, _, rfl⟩
    split
    · split <;> exact ⟨_, _, _, _, _, rfl⟩
    split
    · exact ⟨_, _, _, _, _, rfl⟩
    split
    · exact ⟨_, _, _, _, _, rfl⟩
    split <;> exact ⟨_, _, _, _, _, rfl⟩

theorem Sample.Begun.claim {t frame w h : Nat} {x : Sample} (hx : x.Begun t frame w h) : (s.claim n x).2.Begun t frame w h := by
  obtain ⟨_, _, _, _, _, e⟩ := s.claim_sample n x
  rw [e]
  exact hx

theorem State.closing_dropFrame (s : State) (n code : Nat) : ((s.dropFrame n code).ctx n).closing = (s.ctx n).closing := by
  unfold State.dropFrame
  extract_lets c
  split
  · rfl
  · simp [State.ctx, c, State.setCtx]

/-- A frame start that finds lane room begins a frame, unless a STREAM_CLOSE waits for the context or its boundary takes it out of service. -/
theorem State.frameStart_begins {t frame w h : Nat} {dt : CsiType} {v : State} (hv : v = s.frameStart n t frame dt w h false) (hc : (s.ctx n).closing = none)
    (ho : (v.ctx n).open? = true) : ∃ y, (v.ctx n).frame = some y ∧ y.Begun t frame w h := by
  have waits : ¬ (((s.passUntil t).dropFrame n Cause.FRAME_INCOMPLETE).ctx n).closing.isSome = true := by
    rw [State.closing_dropFrame, State.ctx_passUntil, hc]
    exact Bool.false_ne_true
  unfold State.frameStart at hv
  extract_lets dropped _ _ _ _ _ _ _ _ _ _ _ _ _ _ _ _ base _ framed at hv
  rw [if_neg waits] at hv
  have begun : base.Begun t frame w h := ⟨rfl, rfl, rfl, rfl, rfl, rfl, rfl⟩
  have framed_frame : (framed.ctx n).frame = some base := congrArg Ctx.frame (State.ctx_setCtx_same _ _ _)
  split at hv
  case isTrue closed => exact absurd ho (by rw [hv, closed]; exact Bool.false_ne_true)
  case isFalse =>
    split at hv
    case isTrue => exact ⟨base, hv ▸ framed_frame, begun⟩
    case isFalse =>
      have claimed := begun.claim (s := framed) (n := n)
      split at hv
      next s' y e =>
        rw [e] at claimed
        exact ⟨y, by rw [hv, State.ctx_setCtx_same], claimed⟩

/-! ### The lines and the end of a frame (R128, R129) -/

/-- The type and length of a line are those of the frame that sensor context n takes. -/
def State.lineFits (s : State) (n : Nat) (x : Sample) (dt : CsiType) (row : List Nat) : Bool :=
  match s.csiKind (s.ctx n).profile dt with
  | some kd => kd.base == x.kind.base && row.length == x.kind.samples x.width
  | none => false

section
variable {x : Sample} {dt : CsiType} {row : List Nat} {crcOk : Bool}

theorem State.frameLine_no_frame (h : (s.ctx n).frame = none) : s.frameLine n crcOk dt row = s := by
  simp only [State.frameLine, h]

theorem State.frameLine_embedded (h : (s.ctx n).frame = some x) :
    s.frameLine n crcOk .embedded row = if crcOk = true then s else s.setCtx n { s.ctx n with frame := some { x with bad := true } } := by
  simp only [State.frameLine, h, if_true]

theorem State.frameLine_image (h : (s.ctx n).frame = some x) (hd : dt ≠ .embedded) : s.frameLine n crcOk dt row =
    s.setCtx n { s.ctx n with frame := some { x with rows := x.rows ++ [some row], bad := x.bad || !crcOk, badType := x.badType || !s.lineFits n x dt row } } := by
  simp only [State.frameLine, h, if_neg hd]
  rfl

theorem State.frameEnd_whole {t : Nat} (h : (s.ctx n).frame = some x) (hb : x.bad = false) (ht : x.badType = false) (hr : x.rows.length = x.height) :
    s.frameEnd n t = (((((s.passUntil t).setCtx n { s.ctx n with frame := none }).bump (Fld.APY_Sn_FRAMES_COUNT (s.ctx n).sensorNo)).captured n
      { x with tLast := t, sensorPending := (s.sensor (s.ctx n).sensorNo).queue.any fun q => q.left.isEmpty && !q.failed }).finishClose n) := by
  simp [State.frameEnd, h, hb, ht, hr]

end

/-! ### Sensors and links lost, links trained (R127, R130) -/

theorem exec_sensorLost {sensor : Fin 8} (h : s.ctxOf 1 (sensor.val / 4) (sensor.val % 4) = some n) (ho : (s.ctx n).open? = true) :
    let p := s.passUntil ((s.ctx n).fsAt + 10000000 * s.sensorFld sensor (Fld.APY_Sn_CFG_FS_TIMEOUT sensor))
    let u := p.setCtx n { p.ctx n with fsAt := p.now, fsGap := 0 }
    exec (.sensorLost sensor) s = .next (((u.toWaiting n).finishClose n).raiseIn Cause.SENSOR_LOST 2 n).settle := by
  show execSensorLost sensor s = _
  simp only [execSensorLost, h, ho, if_true]

section
variable {port : Nat}

/-- The port's link state and gear as registers. -/
def State.setLink (s : State) (port up gear : Nat) : State :=
  (s.fset (Fld.APY_PORTn_STATUS_LINK_UP port) up).fset (Fld.APY_PORTn_STATUS_GEAR port) gear

theorem State.regsOnly_setLink (up gear : Nat) : s.RegsOnly (s.setLink port up gear) := (s.regsOnly_fset _ _).trans (State.regsOnly_fset _ _ _)

theorem Fld.inWord_apyLinkUp : (Fld.APY_PORTn_STATUS_LINK_UP port).inWord := by simp [Fld.inWord]

theorem Fld.inWord_apyGear : (Fld.APY_PORTn_STATUS_GEAR port).inWord := by simp [Fld.inWord]

theorem State.linkUp_setLink (up gear : Nat) : (s.setLink port up gear).fget (Fld.APY_PORTn_STATUS_LINK_UP port) = up % 2 := by
  rw [State.setLink, State.fget_fset_other _ _ _ _ Fld.inWord_apyGear (by simp), State.fget_fset_same _ _ _ Fld.inWord_apyLinkUp]
  rfl

theorem State.gear_setLink (up gear : Nat) : (s.setLink port up gear).fget (Fld.APY_PORTn_STATUS_GEAR port) = gear % 16 := by
  rw [State.setLink, State.fget_fset_same _ _ _ Fld.inWord_apyGear]
  rfl

theorem State.apyDown_up (h : s.fget (Fld.APY_PORTn_STATUS_LINK_UP port) ≠ 0) : s.apyDown port = ((List.range 24).foldl (fun v n =>
    if (v.ctx n).path = 1 ∧ (v.ctx n).port = port ∧ (v.ctx n).state = .running then (v.toWaiting n).finishClose n else v) (s.setLink port 0 0)).raise Cause.APY_LINK_DOWN :=
  if_neg h

theorem State.apyUp_trains {gear : Nat} (he : s.fget (Fld.APY_PORTn_CFG_ENABLE port) ≠ 0) (hg : gear ≠ 0) (hl : s.sup.level < 4) (hf : s.frontEndsOn = true) :
    s.apyUp port gear = s.setLink port 1 (min (min gear (s.fget (Fld.APY_PORTn_CFG_MAX_GEAR port))) (if s.cams.alt = true then 2 else 4)) :=
  if_neg (by simp [he, hg, hl, hf])

end

/-! ### Sensor writes (R145, R146) -/

section
variable {k : Nat} {done rest : List SensorSet} {q : SensorSet} (hs : (s.sensor k).queue = done ++ q :: rest) (hd : ∀ y ∈ done, y.left = []) (hq : q.left ≠ [])
include hd hq

/-- The first set that still has a write to send. -/
theorem SensorSet.span_under_way : (done ++ q :: rest).span (fun q => q.left.isEmpty) = (done, q :: rest) := by
  have sent : ∀ y ∈ done, y.left.isEmpty = true := fun y hy => by rw [hd y hy]; rfl
  have waits : ¬ q.left.isEmpty = true := by rwa [List.isEmpty_iff]
  rw [List.span_eq_takeWhile_dropWhile, List.takeWhile_append_of_pos sent, List.dropWhile_append_of_pos sent,
    List.takeWhile_cons_of_neg (p := fun q : SensorSet => q.left.isEmpty) waits, List.dropWhile_cons_of_neg (p := fun q : SensorSet => q.left.isEmpty) waits,
    List.append_nil]

include hs

theorem State.sensorAck_under_way :
    let x := s.sensor k
    let last := (q.left.drop 1).isEmpty
    let late := last && decide (q.f < x.frames)
    let eff := x.frames + s.sensorFld k (Fld.APY_Sn_CFG_DELAY k)
    let u := (s.setSensor k { x with queue := done ++ { q with left := q.left.drop 1, retried := false, late, effective := if last then some eff else none } :: rest }).sensorSend k
    s.sensorAck k = if late then u.raise Cause.SENSOR_WRITE_LATE else u := by
  simp only [State.sensorAck, hs, SensorSet.span_under_way hd hq]

theorem State.sensorNak_first (hr : q.retried = false) :
    s.sensorNak k = (s.setSensor k { s.sensor k with queue := done ++ { q with retried := true } :: rest }).sensorSend k := by
  simp only [State.sensorNak, hs, SensorSet.span_under_way hd hq, hr, Bool.false_eq_true, if_false]

theorem State.sensorNak_again (hr : q.retried = true) :
    let x := s.sensor k
    let eff := x.frames + s.sensorFld k (Fld.APY_Sn_CFG_DELAY k)
    s.sensorNak k = ((s.setSensor k { x with queue := done ++ { q with left := [], failed := true, effective := some eff } :: rest }).sensorSend k).raise Cause.SENSOR_WRITE_NAK := by
  simp only [State.sensorNak, hs, SensorSet.span_under_way hd hq, hr, if_true]

end

/-! ### The commands -/

theorem exec_csi2FrameStart (port : Fin 2) (vc : BitVec 4) (t : BitVec 64) (frame : BitVec 16) (ecc : Fin 3) (dt : CsiType) (width height : BitVec 16) (overrun : Bool)
    (s : State) : exec (.csi2FrameStart port vc t frame ecc dt width height overrun) s =
      .next (s.csiHeader port vc.toNat ecc fun s n => s.frameStart n t.toNat frame.toNat dt width.toNat height.toNat overrun).settle := rfl

theorem exec_csi2LongPacket (port : Fin 2) (vc : BitVec 4) (ecc : Fin 3) (crcOk : Bool) (dt : CsiType) (samples : List (BitVec 16)) (s : State) :
    exec (.csi2LongPacket port vc ecc crcOk dt samples) s = .next (s.csiHeader port vc.toNat ecc fun s n => s.frameLine n crcOk dt (samples.map BitVec.toNat)).settle := rfl

theorem exec_csi2FrameEnd (port : Fin 2) (vc : BitVec 4) (t : BitVec 64) (ecc : Fin 3) (s : State) :
    exec (.csi2FrameEnd port vc t ecc) s = .next (s.csiHeader port vc.toNat ecc fun s n => s.frameEnd n t.toNat).settle := rfl

theorem exec_apyLinkDown (port : Fin 2) (s : State) : exec (.apyLinkDown port) s = .next (s.apyDown port).settle := rfl
theorem exec_apyLinkUp (port : Fin 2) (gear : Fin 5) (s : State) : exec (.apyLinkUp port gear) s = .next (s.apyUp port gear).settle := rfl
theorem exec_sensorWriteAck (sensor : Fin 8) (s : State) : exec (.sensorWriteAck sensor) s = .next (s.sensorAck sensor).settle := rfl
theorem exec_sensorWriteFail (sensor : Fin 8) (s : State) : exec (.sensorWriteFail sensor) s = .next (s.sensorNak sensor).settle := rfl

/-- Settles O47: each event by the lemma of its case. That the watch for a lost sensor starts anew is log 169. -/
theorem sensorFrames : Obligations.SensorFrames := by
  unfold Obligations.SensorFrames
  intro port vc t frame width height ecc dt overrun crcOk samples sensor gear s
  refine ⟨fun up => ⟨?uncorrectable, fun he => ?readable⟩, fun n h ho => exec_sensorLost h ho, fun up => ?down, fun he hg hl hf => ?trained,
    fun done rest q hs hd hq => ⟨?ack, fun hr => ?nakFirst, fun hr => ?nakAgain⟩⟩
  case uncorrectable =>
    rintro rfl
    rw [exec_csi2FrameStart, exec_csi2LongPacket, exec_csi2FrameEnd]
    simp only [Fin.val_two, State.csiHeader_uncorrectable _ up, and_self]
  case readable =>
    have he : (ecc : Nat) ≠ 2 := fun e => he (Fin.ext e)
    intro u
    have same : u = s.headerRead ecc := rfl
    clear_value u
    subst same
    refine ⟨fun hv => ?discarded, fun hv hn => ?dropped, fun n hv hn ho => ⟨⟨?start, ?begins⟩, fun hx => ?noFrame,
      fun x hx => ⟨fun hd => ?embedded, fun hd => ?image, fun hb ht hr => ?whole⟩⟩⟩
    case discarded => rw [exec_csi2LongPacket, State.csiHeader_channel_discarded _ up he hv]
    case dropped => rw [exec_csi2LongPacket, State.csiHeader_no_context _ up he hv hn]
    case start => rw [exec_csi2FrameStart, State.csiHeader_open_context _ up he hv hn ho]
    case begins =>
      rintro rfl hc ho
      exact State.frameStart_begins rfl hc ho
    case noFrame => rw [exec_csi2LongPacket, State.csiHeader_open_context _ up he hv hn ho, State.frameLine_no_frame hx]
    case embedded =>
      subst hd
      rw [exec_csi2LongPacket, State.csiHeader_open_context _ up he hv hn ho, State.frameLine_embedded hx]
    case image =>
      rw [exec_csi2LongPacket, State.csiHeader_open_context _ up he hv hn ho, State.frameLine_image hx hd]
      rfl
    case whole => rw [exec_csi2FrameEnd, State.csiHeader_open_context _ up he hv hn ho, State.frameEnd_whole hx hb ht hr]
  case down => exact ⟨State.linkUp_setLink 0 0, State.gear_setLink 0 0, by rw [exec_apyLinkDown, State.apyDown_up up]; rfl⟩
  case trained =>
    have small : min (min gear.val (s.fget (Fld.APY_PORTn_CFG_MAX_GEAR port))) (if s.cams.alt = true then 2 else 4) < 16 := by omega
    refine ⟨_, by rw [exec_apyLinkUp, State.apyUp_trains he (Fin.val_ne_of_ne hg) hl hf], (State.regsOnly_setLink _ _).eq, State.linkUp_setLink 1 _, ?_⟩
    rw [State.gear_setLink, Nat.mod_eq_of_lt small]
  case ack => rw [exec_sensorWriteAck, State.sensorAck_under_way hs hd hq]
  case nakFirst => rw [exec_sensorWriteFail, State.sensorNak_first hs hd hq hr]
  case nakAgain => rw [exec_sensorWriteFail, State.sensorNak_again hs hd hq hr]

end Sys2Proof.Machine
end

section
/-! SUPPORT. The CoaXPress cameras, as chapter 5 states them: the control mailbox, links lost and found, triggers, lines; and the statement that these settle. -/
namespace Sys2Proof.Machine

variable {s : State}

/-! ### The control mailbox (R125) -/

theorem Fld.inWord_ctlCamera : Fld.CXP_CTL_CMD_CAMERA.inWord := by simp [Fld.inWord]
theorem Fld.inWord_ctlBusy : Fld.CXP_CTL_CMD_BUSY.inWord := by simp [Fld.inWord]
theorem Fld.inWord_ctlOp : Fld.CXP_CTL_CMD_OP.inWord := by simp [Fld.inWord]
theorem Fld.inWord_ctlResult : Fld.CXP_CTL_CMD_RESULT.inWord := by simp [Fld.inWord]

/-- CXP_CTL_CMD as a transaction of camera k begins. -/
def State.ctlBegun (s : State) (k : Nat) : State := ((s.fset Fld.CXP_CTL_CMD_CAMERA k).fset Fld.CXP_CTL_CMD_BUSY 1).fset Fld.CXP_CTL_CMD_OP 0

theorem State.busy_ctlBegun (k : Nat) : (s.ctlBegun k).fget Fld.CXP_CTL_CMD_BUSY = 1 := by
  rw [State.ctlBegun, State.fget_fset_other _ _ _ _ Fld.inWord_ctlOp (by simp), State.fget_fset_same _ _ _ Fld.inWord_ctlBusy]
  rfl

theorem State.camera_ctlBegun (k : Fin 2) : (s.ctlBegun k).fget Fld.CXP_CTL_CMD_CAMERA = k := by
  rw [State.ctlBegun, State.fget_fset_other _ _ _ _ Fld.inWord_ctlOp (by simp), State.fget_fset_other _ _ _ _ Fld.inWord_ctlBusy (by simp),
    State.fget_fset_same _ _ _ Fld.inWord_ctlCamera]
  exact Nat.mod_eq_of_lt k.isLt

theorem State.op_ctlBegun (k : Nat) : (s.ctlBegun k).fget Fld.CXP_CTL_CMD_OP = 0 := by
  rw [State.ctlBegun, State.fget_fset_same _ _ _ Fld.inWord_ctlOp, Nat.zero_mod]

theorem State.regsOnly_ctlBegun (k : Nat) : s.RegsOnly (s.ctlBegun k) :=
  ((s.regsOnly_fset _ _).trans (State.regsOnly_fset _ _ _)).trans (State.regsOnly_fset _ _ _)

theorem State.ctlStart_idle (h : s.fget Fld.CXP_CTL_CMD_BUSY = 0) (write : Bool) (k : Nat) :
    s.ctlStart write k = { s.ctlBegun k with cams := { s.cams with mbox := some (write, k) } } := by
  have idle : ¬ s.fget Fld.CXP_CTL_CMD_BUSY = 1 := by rw [h]; exact Nat.zero_ne_one
  rw [State.ctlStart, if_neg idle, ← (s.regsOnly_ctlBegun k).cams]
  simp only [State.ctlBegun]

theorem State.regsOnly_ctlStart (h : s.fget Fld.CXP_CTL_CMD_BUSY = 0) (write : Bool) (k : Nat) :
    State.RegsOnly { s with cams := { s.cams with mbox := some (write, k) } } (s.ctlStart write k) := by
  rw [State.ctlStart_idle h]
  exact (s.regsOnly_ctlBegun k).withCams _

/-- A transaction begins: BUSY and CAMERA are set and OP is cleared. -/
theorem State.ctlStart_registers (h : s.fget Fld.CXP_CTL_CMD_BUSY = 0) (write : Bool) (k : Fin 2) :
    (s.ctlStart write k).fget Fld.CXP_CTL_CMD_BUSY = 1 ∧ (s.ctlStart write k).fget Fld.CXP_CTL_CMD_CAMERA = k.val ∧ (s.ctlStart write k).fget Fld.CXP_CTL_CMD_OP = 0 := by
  rw [State.ctlStart_idle h]
  refine ⟨?_, ?_, ?_⟩
  · rw [State.fget_withCams, State.busy_ctlBegun]
  · rw [State.fget_withCams, State.camera_ctlBegun]
  · rw [State.fget_withCams, State.op_ctlBegun]

/-- CXP_CTL_CMD as a transaction ends. -/
def State.ctlOver (s : State) (result : Nat) : State := (s.fset Fld.CXP_CTL_CMD_RESULT result).fset Fld.CXP_CTL_CMD_BUSY 0

theorem State.busy_ctlOver (result : Nat) : (s.ctlOver result).fget Fld.CXP_CTL_CMD_BUSY = 0 := by
  rw [State.ctlOver, State.fget_fset_same _ _ _ Fld.inWord_ctlBusy, Nat.zero_mod]

theorem State.result_ctlOver {result : Nat} (h : result < 8) : (s.ctlOver result).fget Fld.CXP_CTL_CMD_RESULT = result := by
  rw [State.ctlOver, State.fget_fset_other _ _ _ _ Fld.inWord_ctlBusy (by simp), State.fget_fset_same _ _ _ Fld.inWord_ctlResult]
  exact Nat.mod_eq_of_lt h

theorem State.data_ctlOver (result : Nat) : (s.ctlOver result).word Reg.CXP_CTL_DATA = s.word Reg.CXP_CTL_DATA := by
  rw [State.ctlOver, State.word_fset_other _ _ _ _ (by simp), State.word_fset_other _ _ _ _ (by simp)]

theorem State.regsOnly_ctlOver (result : Nat) : s.RegsOnly (s.ctlOver result) := (s.regsOnly_fset _ _).trans (State.regsOnly_fset _ _ _)

/-- A transaction ends: BUSY is cleared, RESULT tells how, and a read that succeeded brings its value. -/
theorem State.ctlEnd_running {w : Bool} {c : Nat} (h : s.cams.mbox = some (w, c)) (result data : Nat) :
    let u := s.ctlOver result
    let v : State := { u with cams := { u.cams with mbox := none } }
    s.ctlEnd result data = if !w && decide (result = 0) then v.setWord Reg.CXP_CTL_DATA data else v := by
  simp only [State.ctlEnd, h, State.ctlOver]

theorem State.regsOnly_ctlEnd {w : Bool} {c : Nat} (h : s.cams.mbox = some (w, c)) (result data : Nat) :
    State.RegsOnly { s with cams := { s.cams with mbox := none } } (s.ctlEnd result data) := by
  have ended := (s.regsOnly_ctlOver result).withCams { s.cams with mbox := none }
  rw [State.ctlEnd_running h, (s.regsOnly_ctlOver result).cams]
  split
  · exact ended.trans (State.regsOnly_setWord _ _ _)
  · exact ended

theorem State.ctlEnd_registers {w : Bool} {c result data : Nat} (h : s.cams.mbox = some (w, c)) (hr : result < 8) (hd : data < 2 ^ 32) :
    (s.ctlEnd result data).fget Fld.CXP_CTL_CMD_BUSY = 0 ∧ (s.ctlEnd result data).fget Fld.CXP_CTL_CMD_RESULT = result ∧
      (s.ctlEnd result data).word Reg.CXP_CTL_DATA = if w = false ∧ result = 0 then data else s.word Reg.CXP_CTL_DATA := by
  rw [State.ctlEnd_running h]
  split
  next read =>
    refine ⟨?_, ?_, ?_⟩
    · rw [State.fget_setWord_other _ _ (by simp), State.fget_withCams, State.busy_ctlOver]
    · rw [State.fget_setWord_other _ _ (by simp), State.fget_withCams, State.result_ctlOver hr]
    · rw [State.word_setWord_same, Nat.mod_eq_of_lt hd, if_pos (by simpa using read)]
  next other =>
    refine ⟨?_, ?_, ?_⟩
    · rw [State.fget_withCams, State.busy_ctlOver]
    · rw [State.fget_withCams, State.result_ctlOver hr]
    · rw [State.word_withCams, State.data_ctlOver, if_neg (by simpa using other)]

/-! ### Links lost and found (R117, R120) -/

/-- A connection of camera k is gone: it is taken from LINKS_UP and CXP_STATUS, the last one also from SPEED. -/
def State.connectionLost (s : State) (k conn : Nat) : State :=
  let up := s.fget (Fld.CXP_CAMn_INFO_LINKS_UP k) - 1
  let u := (s.fset (Fld.CXP_CAMn_INFO_LINKS_UP k) up).fset (cxpSpeedFld conn) 0
  if up = 0 then u.fset (Fld.CXP_CAMn_INFO_SPEED k) 0 else u

/-- A line that the loss cut short is raised. -/
def State.lineCut (s : State) (mid : Bool) : State := if mid then s.raise Cause.LINE_INCOMPLETE else s

section
variable {k conn n : Nat} {mid : Bool} (first : cxpFirst k ≤ conn) (last : conn < cxpFirst k + s.cxpLinks k) (up : s.fget (cxpSpeedFld conn) ≠ 0)
include first last up

theorem State.cxpLoss_of_up : let v := (s.connectionLost k conn).lineCut mid
    s.cxpLoss k conn mid = ((v.ctxOf 0 k 0).elim v v.toWaiting).raise Cause.LINK_DOWN := by
  have mine : ¬ (conn < cxpFirst k ∨ cxpFirst k + s.cxpLinks k ≤ conn ∨ s.fget (cxpSpeedFld conn) = 0) := by omega
  intro v
  rw [State.cxpLoss, if_neg mine]
  extract_lets +onlyGivenNames _ _ _ v'
  have same : v' = v := rfl
  clear_value v v'
  subst same
  cases v'.ctxOf 0 k 0 <;> rfl

end

theorem State.regsOnly_foldl_fset (f : Nat → Fld) (v : Nat → Nat) (l : List Nat) (s : State) : s.RegsOnly (l.foldl (fun s i => s.fset (f i) (v i)) s) := by
  induction l generalizing s with
  | nil => exact .refl s
  | cons i l ih => exact (s.regsOnly_fset _ _).trans (ih _)

theorem State.word_foldl_fset {f : Nat → Fld} {off : Nat} (h : ∀ i, off ≠ (f i).off) (v : Nat → Nat) (l : List Nat) (s : State) :
    (l.foldl (fun s i => s.fset (f i) (v i)) s).word off = s.word off := by
  induction l generalizing s with
  | nil => rfl
  | cons i l ih => rw [List.foldl_cons, ih, State.word_fset_other _ _ _ _ (h i)]

section
variable {k found speed : Nat}

/-- The speed that links come up at: the lowest of the camera's, MAX_SPEED, and that of the front ends (R120). -/
def State.linkSpeed (s : State) (k speed : Nat) : Nat := min (min speed (s.fget (Fld.CXP_CAMn_CFG_MAX_SPEED k))) (if s.cams.alt then 5 else 7)

theorem State.linkSpeed_lt (s : State) (k speed : Nat) : s.linkSpeed k speed < 16 := by
  have alt : (if s.cams.alt then 5 else 7) < 16 := by split <;> decide
  exact (min_le_right _ _).trans_lt alt

/-- CXP_CAMn_INFO after a discovery. -/
def State.setInfo (s : State) (k up speed : Nat) : State := (s.fset (Fld.CXP_CAMn_INFO_LINKS_UP k) up).fset (Fld.CXP_CAMn_INFO_SPEED k) speed

theorem State.regsOnly_setInfo (k up speed : Nat) : s.RegsOnly (s.setInfo k up speed) := (s.regsOnly_fset _ _).trans (State.regsOnly_fset _ _ _)

theorem Fld.inWord_linksUp : (Fld.CXP_CAMn_INFO_LINKS_UP k).inWord := by simp [Fld.inWord]
theorem Fld.inWord_speed : (Fld.CXP_CAMn_INFO_SPEED k).inWord := by simp [Fld.inWord]

theorem State.linksUp_setInfo {up : Nat} (h : up < 16) (speed : Nat) : (s.setInfo k up speed).fget (Fld.CXP_CAMn_INFO_LINKS_UP k) = up := by
  rw [State.setInfo, State.fget_fset_other _ _ _ _ Fld.inWord_speed (by simp), State.fget_fset_same _ _ _ Fld.inWord_linksUp]
  exact Nat.mod_eq_of_lt h

theorem State.speed_setInfo {speed : Nat} (up : Nat) (h : speed < 16) : (s.setInfo k up speed).fget (Fld.CXP_CAMn_INFO_SPEED k) = speed := by
  rw [State.setInfo, State.fget_fset_same _ _ _ Fld.inWord_speed]
  exact Nat.mod_eq_of_lt h

variable (he : s.cxpEnabled k = true) (hl : s.sup.level < 4) (hf : s.frontEndsOn = true)
include he hl hf

theorem State.discover_enabled : let up := min found (s.cxpLinks k)
    let v := s.setInfo k up (if up = 0 then 0 else s.linkSpeed k speed)
    s.discover k found speed = (List.range (v.cxpLinks k)).foldl (fun u i => u.fset (cxpSpeedFld (cxpFirst k + i)) (if i < up then s.linkSpeed k speed else 0)) v := by
  have acts : ¬ (!s.cxpEnabled k || decide (4 ≤ s.sup.level) || !s.frontEndsOn) = true := by simp [he, hl, hf]
  simp only [State.discover, if_neg acts, State.setInfo, State.linkSpeed]

theorem State.regsOnly_discover : s.RegsOnly (s.discover k found speed) := by
  rw [State.discover_enabled he hl hf]
  exact (s.regsOnly_setInfo _ _ _).trans (State.regsOnly_foldl_fset _ _ _ _)

/-- A discovery writes CXP_STATUS after CXP_CAMn_INFO, which stays as it was set. -/
theorem State.fget_discover {f : Fld} (h : f.off ≠ Reg.CXP_STATUS) : let up := min found (s.cxpLinks k)
    (s.discover k found speed).fget f = (s.setInfo k up (if up = 0 then 0 else s.linkSpeed k speed)).fget f := by
  intro up
  rw [State.discover_enabled he hl hf, State.fget, State.word_foldl_fset fun _ => h, ← State.fget]

end

/-! ### Triggers and lines (R121 to R123) -/

/-- The oldest trigger of camera k has waited for LINE_TIMEOUT: it is taken and raised. -/
def State.triggerMissed (s : State) (k : Nat) (e : Trig) (q : List Trig) : State :=
  ((s.passUntil (e.time + 10000 * s.camFld k (Fld.CXP_CAMn_CFG_LINE_TIMEOUT k))).setCam k { s.cam k with queue := q }).raise Cause.TRIGGER_MISSED

theorem State.triggerTimeout_oldest {k : Nat} {e : Trig} {q : List Trig} (h : (s.cam k).queue = e :: q) : let u := s.triggerMissed k e q
    s.triggerTimeout k = (u.ctxOf 0 k 0).elim u u.missingLine := by
  intro u
  have same : u = s.triggerMissed k e q := rfl
  clear_value u
  simp only [State.triggerTimeout, h]
  rw [← State.triggerMissed, ← same]
  cases u.ctxOf 0 k 0 <;> rfl

/-- The state in which a line of camera k arrives: with TRIG_EN its trigger is taken from the queue. -/
def State.lineArrived (s : State) (k t : Nat) : State :=
  let p := s.passUntil t
  if s.camFld k (Fld.CXP_CAMn_CFG_TRIG_EN k) == 1 then p.setCam k { s.cam k with queue := (s.cam k).queue.drop 1 } else p

section
variable {k t code count n : Nat} {complete laneFull : Bool} {row : List Nat} (up : s.cxpUp k = true)
include up

theorem State.cxpLine_up : let u := s.lineArrived k t
    s.cxpLine k t code count complete laneFull row = (u.ctxOf 0 k 0).elim (u.setCam k { u.cam k with dropped := (s.cam k).dropped + 1 }) fun n =>
      if !(u.ctx n).open? then u
      else if s.camFld k (Fld.CXP_CAMn_CFG_TRIG_EN k) == 1 then
        (s.cam k).queue.head?.elim (u.raise Cause.LINE_UNTRIGGERED) fun e => u.triggeredLine n k code count complete laneFull row e.pos e.coarse false
      else
        let g := u.genPosition (u.camFld k (Fld.CXP_CAMn_CFG_TRIG_GEN k))
        u.triggeredLine n k code count complete laneFull row g.1 g.2 true := by
  have runs : ¬ (!s.cxpUp k) = true := by simp [up]
  rw [State.cxpLine, if_neg runs]
  extract_lets +onlyGivenNames u _ _ _ head v
  have same : u = v := rfl
  have oldest : head = (s.cam k).queue.head? := rfl
  clear_value u v head
  subst same oldest
  cases u.ctxOf 0 k 0 with
  | none => rfl
  | some n => cases (s.cam k).queue <;> rfl

theorem State.cxpLine_no_context (hn : (s.lineArrived k t).ctxOf 0 k 0 = none) : let u := s.lineArrived k t
    s.cxpLine k t code count complete laneFull row = u.setCam k { u.cam k with dropped := (s.cam k).dropped + 1 } := by
  rw [State.cxpLine_up up, hn, Option.elim_none]

variable (hn : (s.lineArrived k t).ctxOf 0 k 0 = some n)
include hn

theorem State.cxpLine_closed (ho : ((s.lineArrived k t).ctx n).open? = false) : s.cxpLine k t code count complete laneFull row = s.lineArrived k t := by
  rw [State.cxpLine_up up, hn, Option.elim_some, ho]
  rfl

variable (ho : ((s.lineArrived k t).ctx n).open? = true)
include ho

theorem State.cxpLine_triggered {e : Trig} {q : List Trig} (ht : s.camFld k (Fld.CXP_CAMn_CFG_TRIG_EN k) = 1) (hq : (s.cam k).queue = e :: q) :
    s.cxpLine k t code count complete laneFull row = (s.lineArrived k t).triggeredLine n k code count complete laneFull row e.pos e.coarse false := by
  rw [State.cxpLine_up up, hn, Option.elim_some, ho, hq, ht]
  rfl

theorem State.cxpLine_untriggered (ht : s.camFld k (Fld.CXP_CAMn_CFG_TRIG_EN k) = 1) (hq : (s.cam k).queue = []) :
    s.cxpLine k t code count complete laneFull row = (s.lineArrived k t).raise Cause.LINE_UNTRIGGERED := by
  rw [State.cxpLine_up up, hn, Option.elim_some, ho, hq, ht]
  rfl

/-- Without TRIG_EN the line has the position of its arrival, from the channel of TRIG_GEN (log 54). -/
theorem State.cxpLine_free (ht : s.camFld k (Fld.CXP_CAMn_CFG_TRIG_EN k) ≠ 1) :
    let g := (s.lineArrived k t).genPosition (s.camFld k (Fld.CXP_CAMn_CFG_TRIG_GEN k))
    s.cxpLine k t code count complete laneFull row = (s.lineArrived k t).triggeredLine n k code count complete laneFull row g.1 g.2 true := by
  have free : ¬ (s.camFld k (Fld.CXP_CAMn_CFG_TRIG_EN k) == 1) = true := by simpa using ht
  have passed : s.lineArrived k t = s.passUntil t := if_neg free
  rw [State.cxpLine_up up, hn, Option.elim_some, ho, if_neg free, passed, State.camFld_passUntil]
  rfl

end

/-- A complete line in the context's format that finds lane room is counted and taken (R123). -/
theorem State.triggeredLine_taken {n k code count : Nat} {row : List Nat} {kd : PixKind} (hk : cxpKind code = some kd) (hw : cxpFormatOk code row.length = true)
    (hf : ((s.toRunning n).ctx n).format = some ⟨row.length, 0, kd⟩) (pos : Int) (co ar : Bool) : let v := s.toRunning n
    s.triggeredLine n k code count true false row pos co ar =
      ((v.setCam k { v.cam k with noticed := none }).bump64 (Reg.CXP_CAMn_LINES k)).takeLine n row pos count co ar := by
  simp [State.triggeredLine, hk, hw, hf]

/-! ### The commands -/

theorem exec_cxpControlRead (k : Fin 2) (s : State) : exec (.cxpControlRead k) s = .next (s.ctlStart false k).settle := rfl
theorem exec_cxpControlWrite (k : Fin 2) (s : State) : exec (.cxpControlWrite k) s = .next (s.ctlStart true k).settle := rfl

theorem exec_ctlResponse (result : Fin 3) (data : Word) (s : State) :
    exec (.ctlResponse result data) s = .next (s.ctlEnd (if result.val = 0 then 0 else result.val + 1) data.toNat).settle := rfl

theorem exec_ctlTimeout (h : s.cams.mbox.isSome = true) : exec .ctlTimeout s = .next ((s.ctlEnd 1 0).raise Cause.CTL_TIMEOUT).settle :=
  congrArg _ (if_pos h)

theorem exec_cxpEventPacket (k : Fin 2) (s : State) : exec (.cxpEventPacket k) s = .next (s.setCam k { s.cam k with events := (s.cam k).events + 1 }).settle := rfl
theorem exec_cxpLinkLoss (k : Fin 2) (conn : Fin 4) (mid : Bool) (s : State) : exec (.cxpLinkLoss k conn mid) s = .next (s.cxpLoss k conn mid).settle := rfl

theorem exec_cxpDiscovery (k : Fin 2) (found : Fin 5) (speed : Fin 8) (s : State) : exec (.cxpDiscovery k found speed) s = .next (s.discover k found speed).settle := rfl
theorem exec_triggerTimeout (k : Fin 2) (s : State) : exec (.triggerTimeout k) s = .next (s.triggerTimeout k).settle := rfl

theorem exec_cxpLine (k : Fin 2) (t : BitVec 64) (fmt : BitVec 8) (count : Word) (complete laneFull : Bool) (pixels : List (BitVec 16)) (s : State) :
    exec (.cxpLine k t fmt count complete laneFull pixels) s =
      .next (s.cxpLine k t.toNat fmt.toNat count.toNat complete laneFull (pixels.map BitVec.toNat)).settle := rfl

/-- Settles O46: each event by the lemma of its case. That a line without TRIG_EN takes its position from the channel of TRIG_GEN is log 54. -/
theorem cameraControl : Obligations.CameraControl := by
  unfold Obligations.CameraControl
  intro k conn found speed result data t fmt count complete laneFull midLine pixels s
  refine ⟨fun idle => ⟨⟨_, exec_cxpControlRead k s, (State.regsOnly_ctlStart idle false k).eq, State.ctlStart_registers idle false k⟩,
      ⟨_, exec_cxpControlWrite k s, (State.regsOnly_ctlStart idle true k).eq, State.ctlStart_registers idle true k⟩⟩,
    fun w c h => ⟨?response, ?timeout⟩, exec_cxpEventPacket k s, fun first last up => ?loss, fun he hl hf => ?discovery, fun e q h => ?missed, fun up => ?line⟩
  case response =>
    have small : (if result.val = 0 then 0 else result.val + 1) < 8 := by split <;> omega
    have success : (if result.val = 0 then 0 else result.val + 1) = 0 ↔ result = 0 := by rw [Fin.ext_iff]; split <;> simp_all
    obtain ⟨busy, code, value⟩ := State.ctlEnd_registers h small data.isLt
    simp only [success] at value
    refine ⟨_, exec_ctlResponse result data s, (State.regsOnly_ctlEnd h _ _).eq, busy, ?_, value⟩
    rw [code]
    simp only [Fin.ext_iff, Fin.val_zero]
  case timeout =>
    obtain ⟨busy, code, value⟩ := State.ctlEnd_registers h (result := 1) (data := 0) (by decide) (by decide)
    exact ⟨_, exec_ctlTimeout (by rw [h]; rfl), (State.regsOnly_ctlEnd h 1 0).eq, busy, code, value.trans (if_neg (by simp))⟩
  case loss =>
    rw [exec_cxpLinkLoss, State.cxpLoss_of_up first last up]
    intro up u0 u v
    have same : v = (s.connectionLost k conn).lineCut midLine := rfl
    clear_value v
    subst same
    exact ⟨fun hn => by rw [hn]; rfl, fun n hn => by rw [hn]; rfl⟩
  case discovery =>
    have links : min found.val (s.cxpLinks k) < 16 := (min_le_left _ _).trans_lt (found.isLt.trans (by decide))
    have speed_lt : (if min found.val (s.cxpLinks k) = 0 then 0 else s.linkSpeed k speed) < 16 := by
      split
      · decide
      · exact s.linkSpeed_lt k speed
    have apart : 0x8014 + k.val * 0x10 ≠ Reg.CXP_STATUS := Nat.ne_of_gt (Nat.lt_add_right _ (by decide))
    refine ⟨_, exec_cxpDiscovery k found speed s, (State.regsOnly_discover he hl hf).eq, ?_, ?_⟩
    · rw [State.fget_discover he hl hf apart, State.linksUp_setInfo links]
    · rw [State.fget_discover he hl hf apart, State.speed_setInfo _ speed_lt]
      rfl
  case missed =>
    rw [exec_triggerTimeout, State.triggerTimeout_oldest h]
    intro u
    have same : u = s.triggerMissed k e q := rfl
    clear_value u
    subst same
    exact ⟨fun hn => by rw [hn]; rfl, fun n hn => by rw [hn]; rfl⟩
  case line =>
    intro trig p u row run
    have same : u = s.lineArrived k t.toNat := rfl
    have carriedOut : run = _ := exec_cxpLine k t fmt count complete laneFull pixels s
    clear_value u run
    subst same carriedOut
    refine ⟨fun hn => ?noContext, fun n hn ho => ?closed, fun n hn ho => ⟨fun e q ht hq => ?triggered, fun ht hq => ?untriggered, fun ht => ?free,
      fun kd pos co ar hk hw hc hl hf => ?taken⟩⟩
    case noContext => rw [State.cxpLine_no_context up hn]
    case closed => rw [State.cxpLine_closed up hn ho]
    case triggered => rw [State.cxpLine_triggered up hn ho (by simpa [trig] using ht) hq]
    case untriggered => rw [State.cxpLine_untriggered up hn ho (by simpa [trig] using ht) hq]
    case free => rw [State.cxpLine_free up hn ho (by simpa [trig] using ht)]
    case taken =>
      rw [hc, hl]
      exact State.triggeredLine_taken hk hw hf pos co ar

end Sys2Proof.Machine
end

section
/-! SUPPORT. The compute-in-memory arrays, as chapter 7 states them: programming and verifying, products and their verdicts, the patrol, suspects, retirement to the spare; and
the statement that these settle. -/
namespace Sys2Proof.Machine

/-! ### Engines and arrays -/

section
variable {s t : State}

theorem State.eng_congr (h : t.engs = s.engs) (e : Nat) : t.eng e = s.eng e := by rw [State.eng, h, State.eng]

theorem State.arr_congr (h : t.engs = s.engs) (e m : Nat) : t.arr e m = s.arr e m := by rw [State.arr, State.eng_congr h, State.arr]

@[simp] theorem Engine.arr_setArr_same (x : Engine) (m : Nat) (a : LArr) : (x.setArr m a).arr m = a := Tbl.get_put_same _ _ _ _

@[simp] theorem State.arr_setEng_same (e m : Nat) (x : Engine) : (s.setEng e x).arr e m = x.arr m := by rw [State.arr, State.eng_setEng_same]

@[simp] theorem State.arr_setArr_same (e m : Nat) (a : LArr) : (s.setArr e m a).arr e m = a := by rw [State.setArr, State.arr_setEng_same, Engine.arr_setArr_same]

@[simp] theorem State.arr_raiseArr (code e m g j k : Nat) : (s.raiseArr code e m g).arr j k = s.arr j k := State.arr_congr (State.engs_raiseIn _ _ _ _ _) j k

/-- A failed array is marked for retirement; at most its state becomes UNUSABLE (R195, R197). -/
theorem State.arr_arrFailed (e m : Nat) :
    ((s.arrFailed e m).arr e m).pendRetire = true ∧ (((s.arrFailed e m).arr e m).state = (s.arr e m).state ∨ ((s.arrFailed e m).arr e m).state = .unusable) := by
  rw [State.arrFailed]
  split
  · simp
  · split <;> simp

end

/-! ### PROGRAM_ARRAYS and VERIFY_ARRAYS (R188 to R190) -/

/-- The fields of a PROGRAM_ARRAYS or VERIFY_ARRAYS are in order (R188). -/
structure ProgramFields (d : List Byte) : Prop where
  engine : rd d 8 1 ≤ 15
  named : namedArrays d ≠ []
  mode : rd d 28 1 ≤ 1
  spare : rd d 28 1 = 0 → 16 ∉ namedArrays d
  addr : hostAddr (rd d 16 8) = true
  length : rd d 24 4 = Image.weightSize * (namedArrays d).length

/-- What the descriptor asks of the engine, array by array. -/
def itemsOf (n : Nat) (d images : List Byte) : List ProgItem :=
  (namedArrays d).zipIdx.map fun p => ⟨if rd d 28 1 = 0 then .program n d else .verify n d, p.1, slice images (p.2 * Image.weightSize) Image.weightSize⟩

/-- An array that the descriptor names is in a state of `p`. -/
def State.AnyNamed (s : State) (d : List Byte) (p : ArrState → Prop) : Prop := ∃ a ∈ namedArrays d, p (s.arr (rd d 8 1) a).state

section
variable {s : State} {n : Nat} {d images : List Byte} (h : ProgramFields d)
include h

theorem ProgramFields.programArrays_checked : s.programArrays n d images =
    if 1 < s.sup.level then s.complete n d St.NOT_AVAILABLE
    else if (namedArrays d).any fun m => decide ((s.arr (rd d 8 1) m).state = .bound) || decide ((s.arr (rd d 8 1) m).state = .programming) then s.refuse n d 1
    else if (namedArrays d).any fun m => decide ((s.arr (rd d 8 1) m).state = .unusable) then s.refuse n d 2
    else s.reads n d true fun s => ({ s with progs := s.progs ++ [⟨n, d, 0, 0⟩] } : State).addItems (rd d 8 1) (itemsOf n d images) false := by
  have addr : ¬(!hostAddr (rd d 16 8)) = true := by simp [h.addr]
  simp only [State.programArrays, if_neg (Nat.not_lt.mpr h.engine), if_neg addr, if_neg (Nat.not_lt.mpr h.mode), if_neg (not_not_intro h.length)]
  exact if_neg (by simpa [h.named] using h.spare)

theorem ProgramFields.programArrays_unavailable (hl : 1 < s.sup.level) : s.programArrays n d images = s.complete n d St.NOT_AVAILABLE := by
  rw [h.programArrays_checked, if_pos hl]

variable (hl : s.sup.level ≤ 1)
include hl

theorem ProgramFields.programArrays_busy (hb : s.AnyNamed d fun a => a = .bound ∨ a = .programming) : s.programArrays n d images = s.refuse n d 1 := by
  rw [h.programArrays_checked, if_neg (Nat.not_lt.mpr hl), if_pos (by simpa [State.AnyNamed] using hb)]

variable (hb : ¬s.AnyNamed d fun a => a = .bound ∨ a = .programming)
include hb

theorem ProgramFields.programArrays_dead (hd : s.AnyNamed d (· = .unusable)) : s.programArrays n d images = s.refuse n d 2 := by
  rw [h.programArrays_checked, if_neg (Nat.not_lt.mpr hl), if_neg (by simpa [State.AnyNamed] using hb), if_pos (by simpa [State.AnyNamed] using hd)]

variable (hd : ¬s.AnyNamed d (· = .unusable))
include hd

theorem ProgramFields.programArrays_reads : s.programArrays n d images =
    s.reads n d true fun s => ({ s with progs := s.progs ++ [⟨n, d, 0, 0⟩] } : State).addItems (rd d 8 1) (itemsOf n d images) false := by
  rw [h.programArrays_checked, if_neg (Nat.not_lt.mpr hl), if_neg (by simpa [State.AnyNamed] using hb), if_neg (by simpa [State.AnyNamed] using hd)]

theorem ProgramFields.programArrays_linkDown (hk : s.hif.linkUp = false) : s.programArrays n d images = s.endDesc n d := by
  rw [h.programArrays_reads hl hb hd, State.reads, if_pos (by simp [hk])]

theorem ProgramFields.programArrays_queued (hk : s.hif.linkUp = true) :
    s.programArrays n d images = ({ s with progs := s.progs ++ [⟨n, d, 0, 0⟩] } : State).addItems (rd d 8 1) (itemsOf n d images) false := by
  rw [h.programArrays_reads hl hb hd, State.reads, if_neg (by simp [hk])]

end

/-! ### The end of the array under way (R189, R190, R195) -/

section
variable {s : State} {e : Nat} {i : ProgItem}

/-- While the level allows programming, the next array of the queue starts (R188). -/
theorem State.arrayDone_goes_on {r : List ProgItem} {ok : Bool} (hp : (s.eng e).prog = i :: r)
    (go : (s.endItem e i ok).operational = false ∨ (s.endItem e i ok).sup.level ≤ 1) :
    let u := s.endItem e i ok
    s.arrayDone e ok = ((u.setEng e { u.eng e with prog := r }).workOver i.what false).startItem e (r.length + 1) := by
  have going : (!(s.endItem e i ok).operational || decide ((s.endItem e i ok).sup.level ≤ 1)) = true := by simpa using go
  simp only [State.arrayDone, hp, going, if_true]
  rfl

variable {q : Nat} {d : List Byte} (hw : i.what = .program q d)
include hw

theorem State.arr_endItem_verified : (s.endItem e i true).arr e i.arr = { s.arr e i.arr with state := .loaded, crc := rd i.image 8 4 } := by
  simp only [State.endItem, hw, if_true]
  exact (State.arr_congr rfl _ _).trans ((State.arr_setEng_same _ _ _).trans (Engine.arr_setArr_same _ _ _))

theorem State.arr_endItem_failed : ((s.endItem e i false).arr e i.arr).pendRetire = true ∧ ((s.endItem e i false).arr e i.arr).state ≠ .loaded := by
  let u := (s.setArr e i.arr { s.arr e i.arr with state := .blank, crc := 0 }).raiseArr Cause.PROGRAM_VERIFY_FAILED e i.arr
  have ended : (s.endItem e i false).engs = (u.arrFailed e i.arr).engs := by simp only [State.endItem, hw]; rfl
  have blank : (u.arr e i.arr).state = .blank := by simp [u]
  obtain ⟨pending, state⟩ := u.arr_arrFailed e i.arr
  rw [blank] at state
  rw [State.arr_congr ended]
  refine ⟨pending, ?_⟩
  rcases state with h | h <;> simp [h]

end

/-! ### Products and their verdicts (R174, R178, R185) -/

/-- Every verdict of an MVM on an array, and on the second one of a pair, has passed. -/
def verdictsPass (r : MvmResult) (q : Option (Nat × MvmResult)) : Bool := r.failed.isNone && q.all fun p => p.2.failed.isNone

theorem verdictsPass_iff (r : MvmResult) (q : Option (Nat × MvmResult)) : verdictsPass r q = true ↔ r.failed = none ∧ ∀ p, q = some p → p.2.failed = none := by
  cases q <;> simp [verdictsPass]

/-- The product of an array, or of a pair. -/
def productOf (r : MvmResult) (q : Option (Nat × MvmResult)) : List Int :=
  match q with
  | some (_, y) => (r.acc.zip y.acc).map fun (a, b) => MvmMath.combine a b
  | none => r.acc

/-- The arrays of an MVM on engine `e` have run, and it counts. -/
def State.mvmCounted (s : State) (e m : Nat) (r : MvmResult) (q : Option (Nat × MvmResult)) : State :=
  let v := s.mvmArray e m r
  (match q with
    | some (k, y) => v.mvmArray e k y
    | none => v).bump64 (Reg.ENG_n_MVMS e)

/-- What the partition does about a product that a failed verdict withholds (R185, R293, R309). -/
def State.productWithheld (s : State) (e : Fin 16) (job : Nat) : State :=
  if s.isFixed e then s.withhold job (e / 8)
  else match s.runOn e with
    | some run => s.tearDown run.ctx (some (run.id, Cause.CHECK_MISMATCH))
    | none => s

/-- An MVM ends: `out` is released where every verdict has passed, and withheld otherwise. -/
def State.mvmEnd (s : State) (e : Fin 16) (pass : Bool) (out : List Int) (job : Nat) : State :=
  let z := s.setEng e { s.eng e with product := if pass then some out else none }
  if pass then z else z.productWithheld e job

section
variable {s : State} {e : Fin 16} {out : List Int} {job : Nat}

theorem State.mvm_without_budget {m : Nat} {lo : Option Nat} {int4 : Bool} {x : List Int} {errHi errLo : MvmMath.Errs} {slots : List (List SlotReq)} (h : s.sup.budget = 0) :
    s.mvm e m lo int4 x errHi errLo slots job = s := if_pos h

theorem State.mvm_with_budget (m : Nat) (lo : Option Nat) (int4 : Bool) (x : List Int) (errHi errLo : MvmMath.Errs) (slots : List (List SlotReq)) (h : s.sup.budget ≠ 0) :
    let u := (s.setEng e { s.eng e with gated := false }).takeSlots ⟨e, m :: lo.toList, false⟩ (max 1 (MvmMath.allPhases (s.isFixed e) int4 x).length) slots
    let r := u.mvmOn e m int4 x errHi
    let q := lo.map fun k => (k, u.mvmOn e k int4 x errLo)
    s.mvm e m lo int4 x errHi errLo slots job = (u.mvmCounted e m r q).mvmEnd e (verdictsPass r q) (productOf r q) job := by
  intro u r q
  refine (if_neg h).trans ?_
  cases lo <;> rfl

theorem State.mvmEnd_released : s.mvmEnd e true out job = s.setEng e { s.eng e with product := some out } := rfl

theorem State.mvmEnd_withheld : s.mvmEnd e false out job = (s.setEng e { s.eng e with product := none }).productWithheld e job := rfl

theorem State.productWithheld_fixed (h : s.isFixed e = true) : s.productWithheld e job = s.withhold job (e / 8) := if_pos h

theorem State.productWithheld_idle (h : s.isFixed e = false) (hr : s.runOn e = none) : s.productWithheld e job = s := by
  simp [State.productWithheld, h, hr]

theorem State.productWithheld_freewheel {y : Run} (h : s.isFixed e = false) (hr : s.runOn e = some y) :
    s.productWithheld e job = s.tearDown y.ctx (some (y.id, Cause.CHECK_MISMATCH)) := by
  simp [State.productWithheld, h, hr]

end

/-! ### The patrol (R186, R187) -/

/-- The group sums that a patrol reads on a row, the cells as last programmed differing by `diffs`. -/
def Phys.rowRead (p : Phys) (row : Nat) (diffs : List Int) : List Int :=
  (List.range 8).map fun g => ((List.range 64).map fun i => MvmMath.cell p.cells row (64 * g + i)).sum + diffs.getD g 0

/-- The row's group sums, or their sum, differ from the stored ones. -/
def Phys.rowDiffers (p : Phys) (row : Nat) (diffs : List Int) : Bool :=
  ((List.range 8).any fun g => (p.rowRead row diffs).getD g 0 != MvmMath.groupSum p.sums row g) || (p.rowRead row diffs).sum != p.rows.getD row 0

/-- Physical array `k` holds cells that a patrol can read: A16 while it has not failed, another array while it backs a logical one that is programmed. -/
def Engine.programmed (x : Engine) (k : Nat) : Bool :=
  if k = 16 then decide (x.spare ≠ .failed)
  else !((x.arr k).onSpare || decide ((x.arr k).state = .blank) || decide ((x.arr k).state = .programming))

/-- The time of a patrol read has come, and its comparison, where it is a forced one, is done. -/
def State.patrolCompared (s : State) (t : Nat) (fires : Option Bool) : State :=
  if fires = some false then (s.passUntil t).raise Cause.CHECK_LANE_FAULT else s.passUntil t

section
variable {s : State} {e k : Nat}

theorem State.engs_patrolCompared (t : Nat) (fires : Option Bool) : (s.patrolCompared t fires).engs = s.engs := by
  unfold State.patrolCompared
  split <;> simp

theorem State.cellError_array (hk : k ≠ 16) (h : (s.arr e k).onSpare = false) :
    s.cellError e k = ((s.bump (Fld.ENG_n_Am_ERRORS_PATROL e k)).raiseArr Cause.PATROL_CELL_ERROR e k).arrFailed e k := by
  have backed : ¬((s.eng e).arr k).onSpare = true := by simpa [State.arr] using h
  rw [State.cellError, if_neg hk, if_neg backed]

theorem State.cellError_spare (hk : k = 16) (h : (s.eng e).spare = .free) :
    s.cellError e k = ((s.setEng e { s.eng e with spare := .failed }).bump (Fld.ENG_n_Am_ERRORS_PATROL e 16)).raiseArr Cause.PATROL_CELL_ERROR e 16 := by
  rw [State.cellError, if_pos hk, h]

variable {t : Nat} (row : Nat) (diffs : List Int) (fires : Option Bool) (ht : s.patrolAt e = some t) (hb : s.sup.budget ≠ 0)
include ht hb

theorem State.patrolRead_programmed (hp : (s.eng e).programmed k = true) :
    s.patrolRead e k row diffs fires = if ((s.eng e).phy k).rowDiffers row diffs then (s.patrolCompared t fires).cellError e k else s.patrolCompared t fires := by
  have reads : ¬(!(s.eng e).programmed k || decide (s.sup.budget = 0)) = true := by simp [hp, hb]
  simp only [State.patrolRead, ht, decide_eq_true_eq]
  exact if_neg reads

end

/-! ### Suspect arrays (R187) -/

section
variable {s : State} {e m : Nat} {seen : PatrolSeen}

theorem State.resolved_cellError (h : ((s.eng e).phy ((s.eng e).backing m)).finding seen = 0) :
    s.resolved e m seen = (s.cellError e ((s.eng e).backing m)).endHandling 3 (256 * e + m) := by
  rw [State.resolved, if_pos h]

theorem State.resolved_sums (h : ((s.eng e).phy ((s.eng e).backing m)).finding seen = 1) :
    let p := (s.eng e).phy ((s.eng e).backing m)
    let sums := p.readSums seen
    let rows := sums.map List.sum
    let x := (s.eng e).setPhy ((s.eng e).backing m) { p with rows, sums, sumsCrc := crc32c (MvmMath.sumBytes rows sums) }
    s.resolved e m seen = ((s.setEng e (x.setArr m { x.arr m with suspect := false })).raiseArr Cause.SUMS_REPAIRED e m).endHandling 3 (256 * e + m) := by
  rw [State.resolved, if_neg (by rw [h]; decide), if_pos h]

theorem State.resolved_none (h : ((s.eng e).phy ((s.eng e).backing m)).finding seen = 2) :
    s.resolved e m seen =
      (if (s.arr e m).second = true then s.arrFailed e m else s.setArr e m { s.arr e m with suspect := false }).endHandling 3 (256 * e + m) := by
  rw [State.resolved, if_neg (by rw [h]; decide), if_neg (by rw [h]; decide)]
  rfl

end

/-! ### Retirement to the spare (R195, R196) -/

section
variable {s : State} {n : Nat} {d : List Byte} (he : rd d 8 1 ≤ 15) (hm : rd d 9 1 ≤ 15) (ho : rd d 10 1 ≤ 1)
include he hm ho

theorem State.arrayRetire_checked : s.arrayRetire n d =
    if (s.eng (rd d 8 1)).spare ≠ .free then s.complete n d St.OK 0 2
    else if rd d 10 1 = 1 ∧ (s.eng (rd d 8 1)).retiring.isSome = true then s.complete n d St.OK 0 2
    else if rd d 10 1 = 0 then (s.setArr (rd d 8 1) (rd d 9 1) { s.arr (rd d 8 1) (rd d 9 1) with pendRetire := true }).complete n d St.OK 0 1
    else (s.retireRefused (rd d 8 1) (rd d 9 1)).elim (s.retireStart (rd d 8 1) (rd d 9 1) (some (n, d))) fun r => s.refuse n d r := by
  rw [State.arrayRetire, if_neg (Nat.not_lt.mpr he), if_neg (Nat.not_lt.mpr hm), if_neg (Nat.not_lt.mpr ho)]
  cases s.retireRefused (rd d 8 1) (rd d 9 1) <;> rfl

theorem State.arrayRetire_taken (h : (s.eng (rd d 8 1)).spare ≠ .free) : s.arrayRetire n d = s.complete n d St.OK 0 2 := by
  rw [State.arrayRetire_checked he hm ho, if_pos h]

variable (hf : (s.eng (rd d 8 1)).spare = .free)
include hf

theorem State.arrayRetire_pending (h : rd d 10 1 = 0) :
    s.arrayRetire n d = (s.setArr (rd d 8 1) (rd d 9 1) { s.arr (rd d 8 1) (rd d 9 1) with pendRetire := true }).complete n d St.OK 0 1 := by
  rw [State.arrayRetire_checked he hm ho, if_neg (not_not_intro hf), if_neg (by simp [h]), if_pos h]

variable (h1 : rd d 10 1 = 1)
include h1

/-- A retirement under way takes the spare for a further MODE 1 (log 173). -/
theorem State.arrayRetire_under_way (h : (s.eng (rd d 8 1)).retiring.isSome = true) : s.arrayRetire n d = s.complete n d St.OK 0 2 := by
  rw [State.arrayRetire_checked he hm ho, if_neg (not_not_intro hf), if_pos ⟨h1, h⟩]

theorem State.arrayRetire_now (h : (s.eng (rd d 8 1)).retiring = none) :
    s.arrayRetire n d = (s.retireRefused (rd d 8 1) (rd d 9 1)).elim (s.retireStart (rd d 8 1) (rd d 9 1) (some (n, d))) fun r => s.refuse n d r := by
  rw [State.arrayRetire_checked he hm ho, if_neg (not_not_intro hf), if_neg (by simp [h]), if_neg (by simp [h1])]

end

/-- The backing moves at once where no iteration runs on a Fixed-gear engine, or no task uses the array on a Freewheel one. -/
theorem State.moveBacking_at_boundary {s : State} {e : Nat} {y : Move} (hy : (s.eng e).move = some y) (hx : s.isFixed e = true → s.iterationRunning = false)
    (hf : s.isFixed e = false → s.arrayInUse e y.arr = false) :
    let u := if s.isFixed e = true then s.passUntil (s.boundaryAt s.now) else s
    let v := (u.setEng e { u.eng e with move := none }).backingMoved e y.arr y.crc 1
    s.moveBacking e = y.desc.elim v fun q => v.complete q.1 q.2 St.OK 0 0 := by
  have free : ¬(if s.isFixed e = true then s.iterationRunning else s.arrayInUse e y.arr) = true := by
    cases hp : s.isFixed e
    · simp [hf hp]
    · simp [hx hp]
  simp only [State.moveBacking, hy]
  rw [if_neg free]
  cases y.desc <;> rfl

/-! ### The commands -/

theorem exec_programOrVerify {s0 : State} {n : Fin 64} {w d images : List Byte} {c : Instr} (hc : c = .programArrays n w images ∨ c = .verifyArrays n w images)
    (h : s0.Runs 0x04 n w d) : exec c s0 = .next ((s0.starts n d).programArrays n d images).settle := by
  rcases hc with rfl | rfl <;> exact gate_runs _ h

theorem exec_arrayProgramDone (e : Fin 16) (ok : Bool) (s : State) : exec (.arrayProgramDone e ok) s = .next (s.arrayDone e ok).settle := rfl

theorem exec_patrolRead (e : Fin 16) (k : Fin 17) (row : Fin 512) (diffs : List Int) (fires : Option Bool) (s : State) :
    exec (.patrolRead e k row diffs fires) s = .next (s.patrolRead e k row diffs fires).settle := rfl

theorem exec_patrolResolve {e m : Fin 16} {s : State} (seen : PatrolSeen) (h : (s.arr e m).suspect = true) :
    exec (.patrolResolve e m seen) s = .next (s.resolved e m seen).settle := congrArg _ (if_pos h)

theorem exec_arrayRetire {s0 : State} {n : Fin 64} {w d : List Byte} (h : s0.Runs 0x12 n w d) :
    exec (.arrayRetire n w) s0 = .next ((s0.starts n d).arrayRetire n d).settle := gate_runs _ h

theorem exec_retirementBackingMove (e : Fin 16) (s : State) : exec (.retirementBackingMove e) s = .next (s.moveBacking e).settle := rfl

theorem exec_mvm (e m : Fin 16) (lo : Option (Fin 16)) (int4 : Bool) (input : List (BitVec 8)) (errHi errLo : List (Nat × Nat × Int)) (slots : List (List SlotReq))
    (job : BitVec 16) (s : State) :
    exec (.mvm e m lo int4 input errHi errLo slots job) s = .next (s.mvm e m (lo.map Fin.val) int4
      ((input.take 512).map fun b => toSigned (if int4 then 4 else 8) (b.toNat % (if int4 then 16 else 256))) errHi errLo slots job.toNat).settle := rfl

/-- Settles O51: each command by the lemma of its case. That a retirement under way answers a further ARRAY_RETIRE with result 2 is log 173, that an MVM has no effect with
activity budget 0 is log 76. -/
theorem arrayCommands : Obligations.ArrayCommands := by
  unfold Obligations.ArrayCommands
  intro n w d images e m k row int4 input errHi errLo slots job lo diffs fires seen ok s0 s
  refine ⟨fun c hc hr h1 h2 h3 h4 h5 h6 => ?program, fun i r hp => ⟨fun go => ?next, fun q dd hw _ => ⟨fun hk => ?verified, fun hk => ?failed⟩⟩, ?product,
    fun t ht hb => ⟨fun hk ho h1 h2 => ?patrol, fun hk hs => ?patrolSpare⟩, fun hs => ⟨fun hf => ?cellError, fun hf => ?noError, fun hf => ?sums⟩,
    fun hr h1 h2 h3 => ⟨fun hs => ?taken, fun hs h0 => ?pending, fun hs ho hu => ?underWay, fun r hs ho hn hz => ?refused, fun hs ho hn hz => ?started⟩,
    fun y hy hx hf => ?moved⟩
  case program =>
    have fields : ProgramFields d := ⟨h1, h2, h3, h4, h5, h6⟩
    rw [exec_programOrVerify hc hr]
    exact ⟨fun hl => next_settle_congr (fields.programArrays_unavailable hl), fun hl hb => next_settle_congr (fields.programArrays_busy hl hb),
      fun hl hb hd => next_settle_congr (fields.programArrays_dead hl hb hd), fun hl hb hd hk => next_settle_congr (fields.programArrays_linkDown hl hb hd hk),
      fun hl hb hd hk => next_settle_congr (fields.programArrays_queued hl hb hd hk)⟩
  case next => exact next_settle_congr (State.arrayDone_goes_on hp go)
  case verified =>
    subst hk
    rw [State.arr_endItem_verified hw]
    exact ⟨rfl, rfl⟩
  case failed =>
    subst hk
    exact State.arr_endItem_failed hw
  case product =>
    intro x u r q v w good out z run
    refine ⟨fun hb => next_settle_congr (State.mvm_without_budget hb), ?_⟩
    have ended (hb : s.sup.budget ≠ 0) : run = .next (w.mvmEnd e (verdictsPass r q) out job.toNat).settle :=
      next_settle_congr (State.mvm_with_budget m (lo.map Fin.val) int4 x errHi errLo slots hb)
    have failed (hg : ¬good) : verdictsPass r q = false := Bool.eq_false_iff.mpr fun h => hg ((verdictsPass_iff r q).mp h)
    have withheld (hb : s.sup.budget ≠ 0) (hg : ¬good) : run = .next (z.productWithheld e job.toNat).settle := by
      rw [ended hb, failed hg]
      rfl
    refine ⟨fun hb hg => ?released, fun hb hg hz => ?fixed, fun hb hg hz hn => ?idle, fun y hb hg hz hy => ?freewheel⟩
    case released =>
      rw [ended hb, (verdictsPass_iff r q).mpr hg]
      rfl
    case fixed => rw [withheld hb hg, State.productWithheld_fixed hz]
    case idle => rw [withheld hb hg, State.productWithheld_idle hz hn]
    case freewheel => rw [withheld hb hg, State.productWithheld_freewheel hz hy]
  case patrol =>
    have programmed : (s.eng e).programmed k = true := by
      rw [State.arr] at ho h1 h2
      simp [Engine.programmed, hk.ne, ho, h1, h2]
    have backed : ((s.patrolCompared t fires).arr e k).onSpare = false := by rw [State.arr_congr (s.engs_patrolCompared t fires), ho]
    rw [exec_patrolRead, State.patrolRead_programmed row diffs fires ht hb programmed, State.cellError_array hk.ne backed]
    rfl
  case patrolSpare =>
    have same : (s.patrolCompared t fires).eng e = s.eng e := State.eng_congr (s.engs_patrolCompared t fires) e
    have programmed : (s.eng e).programmed k = true := by simp [Engine.programmed, hk, hs]
    have free : ((s.patrolCompared t fires).eng e).spare = .free := by rw [same, hs]
    rw [exec_patrolRead, State.patrolRead_programmed row diffs fires ht hb programmed, State.cellError_spare hk free, same]
    rfl
  case cellError => rw [exec_patrolResolve seen hs, State.resolved_cellError hf]
  case noError => rw [exec_patrolResolve seen hs, State.resolved_none hf]
  case sums => exact (exec_patrolResolve seen hs).trans (next_settle_congr (State.resolved_sums hf))
  case taken => rw [exec_arrayRetire hr, State.arrayRetire_taken h1 h2 h3 hs]
  case pending => rw [exec_arrayRetire hr, State.arrayRetire_pending h1 h2 h3 hs h0]
  case underWay => rw [exec_arrayRetire hr, State.arrayRetire_under_way h1 h2 h3 hs ho hu]
  case refused =>
    rw [exec_arrayRetire hr, State.arrayRetire_now h1 h2 h3 hs ho hn, hz, Option.elim_some]
  case started =>
    rw [exec_arrayRetire hr, State.arrayRetire_now h1 h2 h3 hs ho hn, hz, Option.elim_none]
  case moved =>
    rw [exec_retirementBackingMove, State.moveBacking_at_boundary hy hx hf]
    cases y.desc <;> rfl

end Sys2Proof.Machine
end

section
/-! SUPPORT. The check value of the CRC (R235): a run of the register over a message is a run over its pieces. -/
namespace Sys2Proof.Machine

/-- The register after two pieces of a message is that of the second, taken up where the first ended. -/
theorem crcRun_append (c : Nat) (a b : List Byte) : crcRun c (a ++ b) = crcRun (crcRun c a) b := by
  induction a generalizing c with
  | nil => rfl
  | cons x a ih => exact ih (crcBit 8 (c ^^^ x.toNat))

/-- Settles O12: the register runs over the message in three pieces, each short enough to evaluate. -/
theorem crcCheckValue : Obligations.CrcCheckValue := by
  unfold Obligations.CrcCheckValue
  have first : crcRun 0xFFFFFFFF [0x31, 0x32, 0x33] = 0xEF84D04D := by decide
  have second : crcRun 0xEF84D04D [0x34, 0x35, 0x36] = 0xBECA8E79 := by decide
  have third : crcRun 0xBECA8E79 [0x37, 0x38, 0x39] = 0x1CF96D7C := by decide
  calc crc32c ([0x31, 0x32, 0x33] ++ ([0x34, 0x35, 0x36] ++ [0x37, 0x38, 0x39]))
    _ = 0x1CF96D7C ^^^ 0xFFFFFFFF := by rw [crc32c, crcRun_append, crcRun_append, first, second, third]
    _ = 0xE3069283 := rfl

end Sys2Proof.Machine
end

section
/-! SUPPORT. Writes to module DRAM and the counters of the last-level cache, as chapter 10 states them: which bytes a write reaches, LLC_COUNT_CLEAR; and the statements that
these settle. -/
namespace Sys2Proof.Machine

/-! ### Bytes of module DRAM (R259, R269) -/

/-- A write puts its bytes where its predicate admits them, and leaves every other byte. -/
theorem Mem.byte_write (m : Mem) (p : Nat → Bool) (off : Nat) (b : List Byte) (o : Nat) :
    (m.write p off b).byte o = if off ≤ o ∧ o < off + b.length ∧ p o = true then b.getD (o - off) 0 else m.byte o := by
  induction b generalizing m off with
  | nil => exact (if_neg (by simp only [List.length_nil]; omega)).symm
  | cons x b ih =>
    have head : (if p off then { m with dram := m.dram.put dramDefault off x } else m).byte o = if o = off ∧ p off = true then x else m.byte o := by
      by_cases hp : p off = true <;> simp [hp, Mem.byte, Tbl.get_put]
    rw [Mem.write, ih, head, List.length_cons]
    rcases Nat.lt_trichotomy o off with lt | rfl | gt
    · rw [if_neg (by omega), if_neg (by omega), if_neg (by omega)]
    · simp
    · have passed : ¬(o = off ∧ p off = true) := fun h => gt.ne' h.1
      rw [if_neg passed, show o - off = o - (off + 1) + 1 by omega, List.getD_cons_succ]
      exact if_congr (and_congr (by omega) (and_congr_left' (by omega))) rfl rfl

/-- A canonical memory stays canonical under a write. -/
theorem Mem.wf_write (m : Mem) (p : Nat → Bool) (off : Nat) (b : List Byte) (h : m.wf) : (m.write p off b).wf := by
  induction b generalizing m off with
  | nil => exact h
  | cons x b ih =>
    refine ih _ _ ?_
    split
    · exact Tbl.wf_put _ _ _ _ h
    · exact h

/-- Forgetting L1 copies touches no byte. -/
theorem Mem.dram_foldl_dropLine (l : List Nat) (m : Mem) : (l.foldl Mem.dropLine m).dram = m.dram := by
  induction l generalizing m with
  | nil => rfl
  | cons k l ih => exact ih _

/-- The layout lets the writer write at an offset: a window holds it, and one that is not FIXED unless the writer is a Fixed-gear engine or the Hub (R259). -/
def State.reaches (s : State) (fixed : Bool) (o : Nat) : Bool := s.windowMode o != 0 && (fixed || s.windowMode o != 3)

theorem State.byte_dramWrite (s : State) (fixed : Bool) (off : Nat) (b : List Byte) (o : Nat) :
    (s.dramWrite fixed off b).mem.byte o =
      if off ≤ o ∧ o < off + b.length ∧ s.reaches fixed o = true then b.getD (o - off) 0 else s.mem.byte o := by
  have home : ((linesOf off b.length).foldl Mem.dropLine s.mem).byte o = s.mem.byte o := by rw [Mem.byte, Mem.dram_foldl_dropLine, Mem.byte]
  exact (Mem.byte_write _ (s.reaches fixed) off b o).trans (by rw [home])

theorem State.wf_dramWrite (s : State) (fixed : Bool) (off : Nat) (b : List Byte) (h : s.mem.wf) : (s.dramWrite fixed off b).mem.wf := by
  refine Mem.wf_write _ (s.reaches fixed) off b ?_
  rw [Mem.wf, Mem.dram_foldl_dropLine]
  exact h

/-- Settles O10: `byte_dramWrite`, outside the range, in a window that the writer may write, and elsewhere. -/
theorem dramWriteReadsBack : Obligations.DramWriteReadsBack := by
  unfold Obligations.DramWriteReadsBack
  intro s fixed off b
  refine ⟨fun o ho => ?outside, fun i hi hw hf => ?written, fun i hi hn => ?discarded, s.wf_dramWrite fixed off b, rfl⟩
  case outside => rw [s.byte_dramWrite, if_neg (by omega)]
  case written =>
    have reached : s.reaches fixed (off + i) = true := by simpa [State.reaches, hw] using hf
    rw [s.byte_dramWrite, if_pos ⟨Nat.le_add_right .., Nat.add_lt_add_left hi _, reached⟩, Nat.add_sub_cancel_left]
  case discarded =>
    have missed : s.reaches fixed (off + i) = false := by
      rcases hn with h0 | ⟨hf, h3⟩
      · simp [State.reaches, h0]
      · simp [State.reaches, hf, h3]
    rw [s.byte_dramWrite, missed]
    simp

/-! ### LLC_COUNT_CLEAR (R272) -/

/-- LLC_COUNT_CLEAR in the register map: the one field, without a lock (R272). -/
def llcCountClearReg : RegHit where
  spec := { base := Reg.LLC_COUNT_CLEAR, stride := 0, count := 1, stride2 := 0, count2 := 1, wide := false, functional := false, reset := 0, resetStep := 0,
            fields := [{ hi := 7, lo := 0, access := .rw, allowed := [] }] }
  i := 0
  j := 0
  high := false

theorem findReg_llcCountClear : findReg Reg.LLC_COUNT_CLEAR = some llcCountClearReg := rfl

/-- A write of LLC_COUNT_CLEAR is stored, whatever the locks, and clears the counters of the classes named. -/
theorem State.regWrite_llcCountClear (s : State) (mask : BitVec 8) :
    ∃ w, s.regWrite Reg.LLC_COUNT_CLEAR mask.toNat = (s.setWord Reg.LLC_COUNT_CLEAR w).llcCleared mask.toNat := by
  have field : bits (setBits (s.word Reg.LLC_COUNT_CLEAR) 7 0 (bits mask.toNat 7 0)) 7 0 = mask.toNat := by
    rw [bits_of_lt mask.isLt, bits_setBits_same _ _ _ _ (by decide), Nat.mod_eq_of_lt mask.isLt]
  have unlocked : ∀ cur, s.lockedWrite llcCountClearReg cur mask.toNat = false := fun cur => rfl
  refine ⟨setBits (s.word Reg.LLC_COUNT_CLEAR) 7 0 (bits mask.toNat 7 0), ?_⟩
  rw [State.regWrite_narrow s _ _ none findReg_llcCountClear rfl, State.writeReg_stored _ _ none (unlocked _) rfl rfl rfl (.inl rfl)]
  show State.llcCleared _ (bits (setBits (s.word Reg.LLC_COUNT_CLEAR) 7 0 (bits mask.toNat 7 0)) 7 0) = _
  rw [field]
  rfl

/-- The words of the hit and the miss counter of a class. -/
def llcCounters (k : Nat) : List Nat := [Reg.LLC_CLASSk_HITS k, Reg.LLC_CLASSk_HITS k + 4, Reg.LLC_CLASSk_MISSES k, Reg.LLC_CLASSk_MISSES k + 4]

theorem mem_llcCounters {k off : Nat} : off ∈ llcCounters k ↔ off = 0x22300 + k * 0x10 ∨ off = 0x22304 + k * 0x10 ∨ off = 0x22308 + k * 0x10 ∨ off = 0x2230C + k * 0x10 := by
  simp only [llcCounters, Reg.LLC_CLASSk_HITS, Reg.LLC_CLASSk_MISSES, List.mem_cons, List.not_mem_nil, or_false]
  omega

/-- One class of LLC_COUNT_CLEAR. -/
def State.clearClass (mask : Nat) (s : State) (k : Nat) : State :=
  if bitOn mask k then (s.setWord64 (Reg.LLC_CLASSk_HITS k) 0).setWord64 (Reg.LLC_CLASSk_MISSES k) 0 else s

theorem State.llcCleared_eq (s : State) (mask : Nat) :
    s.llcCleared mask = ((List.range 8).foldl (State.clearClass mask) s).setWord Reg.LLC_COUNT_CLEAR 0 := rfl

theorem State.word_clearClass (s : State) (mask k off : Nat) :
    (s.clearClass mask k).word off = if bitOn mask k = true ∧ off ∈ llcCounters k then 0 else s.word off := by
  unfold State.clearClass
  by_cases hb : bitOn mask k = true
  · simp only [hb, if_true, true_and, State.setWord64, State.word_setWord, llcCounters, List.mem_cons, List.not_mem_nil, or_false]
    grind
  · simp [hb]

theorem State.word_foldl_clearClass (mask : Nat) (l : List Nat) (s : State) (off : Nat) :
    (l.foldl (State.clearClass mask) s).word off = if ∃ k ∈ l, bitOn mask k = true ∧ off ∈ llcCounters k then 0 else s.word off := by
  induction l generalizing s with
  | nil => simp
  | cons k l ih =>
    rw [List.foldl_cons, ih, State.word_clearClass, ← ite_or]
    refine if_congr ?_ rfl rfl
    rw [List.exists_mem_cons_iff, or_comm]

/-- A counter of a class is cleared where the mask names the class, and is as it was where it does not. -/
theorem State.word_llcCleared (s : State) (mask : Nat) {k off : Nat} (hk : k < 8) (ho : off ∈ llcCounters k) :
    (s.llcCleared mask).word off = if bitOn mask k then 0 else s.word off := by
  have apart : ∀ j, off ∈ llcCounters j → j = k := fun j hj => by
    rw [mem_llcCounters] at ho hj
    omega
  have named : (∃ j ∈ List.range 8, bitOn mask j = true ∧ off ∈ llcCounters j) ↔ bitOn mask k = true :=
    ⟨fun ⟨j, _, hb, hj⟩ => apart j hj ▸ hb, fun hb => ⟨k, List.mem_range.mpr hk, hb, ho⟩⟩
  have other : off ≠ Reg.LLC_COUNT_CLEAR := by
    rw [mem_llcCounters] at ho
    unfold Reg.LLC_COUNT_CLEAR
    omega
  rw [s.llcCleared_eq, State.word_setWord_other _ _ _ _ other, State.word_foldl_clearClass]
  exact if_congr named rfl rfl

theorem State.regsOnly_clearClass (mask : Nat) (s : State) (k : Nat) : s.RegsOnly (s.clearClass mask k) := by
  unfold State.clearClass
  split
  · exact ⟨_, rfl⟩
  · exact .refl s

theorem State.regsOnly_llcCleared (s : State) (mask : Nat) : s.RegsOnly (s.llcCleared mask) := by
  have classes : ∀ (l : List Nat) (s : State), s.RegsOnly (l.foldl (State.clearClass mask) s) := fun l => by
    induction l with
    | nil => exact .refl
    | cons k l ih => exact fun s => (s.regsOnly_clearClass mask k).trans (ih _)
  rw [s.llcCleared_eq]
  exact (classes _ s).trans (State.regsOnly_setWord _ _ _)

/-- Both counters of a class after LLC_COUNT_CLEAR. -/
theorem State.counters_llcCleared (s : State) (mask : Nat) {k : Nat} (hk : k < 8) :
    (s.llcCleared mask).word64 (Reg.LLC_CLASSk_HITS k) = (if bitOn mask k then 0 else s.word64 (Reg.LLC_CLASSk_HITS k)) ∧
      (s.llcCleared mask).word64 (Reg.LLC_CLASSk_MISSES k) = if bitOn mask k then 0 else s.word64 (Reg.LLC_CLASSk_MISSES k) := by
  have counter : ∀ off ∈ llcCounters k, (s.llcCleared mask).word off = if bitOn mask k then 0 else s.word off := fun off => s.word_llcCleared mask hk
  simp only [llcCounters, List.forall_mem_cons] at counter
  obtain ⟨h0, h1, m0, m1, -⟩ := counter
  unfold State.word64
  rw [h0, h1, m0, m1]
  split
  · exact ⟨rfl, rfl⟩
  · exact ⟨rfl, rfl⟩

/-- Settles O22: the write is stored in the register, which no counter shares. -/
theorem countClearZeroesClasses : Obligations.CountClearZeroesClasses := by
  unfold Obligations.CountClearZeroesClasses
  intro mask s
  obtain ⟨w, stored⟩ := s.regWrite_llcCountClear mask
  have apart : ∀ k, (s.setWord Reg.LLC_COUNT_CLEAR w).word64 (Reg.LLC_CLASSk_HITS k) = s.word64 (Reg.LLC_CLASSk_HITS k) ∧
      (s.setWord Reg.LLC_COUNT_CLEAR w).word64 (Reg.LLC_CLASSk_MISSES k) = s.word64 (Reg.LLC_CLASSk_MISSES k) := fun k => by
    unfold State.word64 Reg.LLC_CLASSk_HITS Reg.LLC_CLASSk_MISSES Reg.LLC_COUNT_CLEAR
    rw [State.word_setWord_other, State.word_setWord_other, State.word_setWord_other, State.word_setWord_other]
    · exact ⟨rfl, rfl⟩
    all_goals omega
  refine ⟨_, next_settle_congr stored, ((s.regsOnly_setWord _ _).trans (State.regsOnly_llcCleared _ _)).eq, fun k hk hb => ?cleared, fun k hk hb => ?kept⟩
  case cleared =>
    have counters := (s.setWord Reg.LLC_COUNT_CLEAR w).counters_llcCleared mask.toNat hk
    rwa [if_pos hb, if_pos hb] at counters
  case kept =>
    have counters := (s.setWord Reg.LLC_COUNT_CLEAR w).counters_llcCleared mask.toNat hk
    rwa [hb, if_neg Bool.false_ne_true, if_neg Bool.false_ne_true, (apart k).1, (apart k).2] at counters

end Sys2Proof.Machine
end

section
/-! SUPPORT. What leaves the Fixed-gear partition, or its running iteration, as it is: completions, postings, writes to memory, decisions missed. -/
namespace Sys2Proof.Machine

/-- What each step of a fold leaves as it is, the fold leaves as it is. -/
theorem foldl_keeps {α β : Type} {g : State → β} {f : State → α → State} (h : ∀ s a, g (f s a) = g s) (l : List α) (s : State) : g (l.foldl f s) = g s := by
  induction l generalizing s with
  | nil => rfl
  | cons a l ih => exact (ih _).trans (h s a)

/-- What both branches have, the choice between them has. -/
theorem ite_keeps {β : Type} {g : State → β} {b : β} {c : Prop} [Decidable c] {t u : State} (ht : g t = b) (hu : g u = b) : g (if c then t else u) = b := by
  split
  · exact ht
  · exact hu

section
variable (s : State)

/-! ### Completions (R94) -/

@[simp] theorem State.fxg_hostPut (k : HostKind) (a : Nat) (b : List Byte) : (s.hostPut k a b).fxg = s.fxg := by
  unfold State.hostPut
  split <;> rfl

@[simp] theorem State.fxg_msix (v : Nat) : (s.msix v).fxg = s.fxg := by
  rw [(s.recordsOnly_msix v).1]

@[simp] theorem State.fxg_countCpl (v : Nat) : (s.countCpl v).fxg = s.fxg := by
  unfold State.countCpl
  dsimp only
  split
  · exact State.fxg_msix _ v
  · rfl

@[simp] theorem State.fxg_writeCpl (n : Nat) (c : Cpl) : (s.writeCpl n c).fxg = s.fxg := by
  unfold State.writeCpl
  dsimp only
  split <;> simp

@[simp] theorem State.fxg_postCpl (n : Nat) (c : Cpl) : (s.postCpl n c).fxg = s.fxg := by
  unfold State.postCpl
  dsimp only
  split
  · split <;> simp
  · rfl

@[simp] theorem State.fxg_complete (n : Nat) (d : List Byte) (status fault result : Nat) : (s.complete n d status fault result).fxg = s.fxg := by
  unfold State.complete State.completeE State.endHandling State.endDesc
  split
  · rfl
  · dsimp only [State.fxg_setQp]
    split <;> simp

/-! ### Postings (R234, R362) -/

@[simp] theorem State.fxg_cmpDrops (ch k : Nat) : (s.cmpDrops ch k).fxg = s.fxg := by
  unfold State.cmpDrops
  split
  · rfl
  · exact s.fxg_bump _ k

@[simp] theorem State.fxg_raiseLate (ch k : Nat) : (s.raiseLate ch k).fxg = s.fxg := by
  unfold State.raiseLate
  split <;> simp

@[simp] theorem State.fxg_postOne (ch : Nat) (b : List Byte) : (s.postOne ch b).1.fxg = s.fxg := by
  unfold State.postOne
  dsimp only
  split
  · simp
  · split
    · simp
    · rfl
    · split <;> simp

@[simp] theorem State.fxg_postEntries (ch : Nat) (es : List (List Byte)) : (s.postEntries ch es).fxg = s.fxg := by
  have posted : ∀ (l : List (List Byte)) (p : State × Nat),
      (l.foldl (fun (s, l) b => let (s', k) := s.postOne ch b; (s', l + k)) p).1.fxg = p.1.fxg := fun l => by
    induction l with
    | nil => exact fun _ => rfl
    | cons b l ih => exact fun p => (ih _).trans (p.1.fxg_postOne ch b)
  unfold State.postEntries
  split
  · rfl
  · split
    · rfl
    · split
      · simp
      · exact (State.fxg_raiseLate _ _ _).trans (posted es (s, 0))

@[simp] theorem State.fxg_postAll (ps : List Posting) : (s.postAll ps).1.fxg = s.fxg :=
  (foldl_keeps (fun _ _ => State.fxg_postEntries _ _ _) _ _).trans (foldl_keeps (fun _ _ => State.fxg_bump _ _ _) ps s)

/-! ### Writes to module DRAM (R240, R259) -/

@[simp] theorem State.fxg_flagUnits (src k : Nat) (a : List Byte) (off n : Nat) : (s.flagUnits src k a off n).fxg = s.fxg := by
  unfold State.flagUnits
  dsimp only
  split <;> rfl

@[simp] theorem State.fxg_memWriteBy (src : Nat) (fixed : Bool) (off : Nat) (b : List Byte) : (s.memWriteBy src fixed off b).fxg = s.fxg := by
  unfold State.memWriteBy
  extract_lets dup keep written parts flagged
  have put : written.fxg = s.fxg := ite_keeps rfl rfl
  have flags : flagged.fxg = s.fxg :=
    (foldl_keeps (fun s (_ : Nat × List Byte) => foldl_keeps (fun _ _ => State.fxg_flagUnits _ _ _ _ _ _) parts s) _ _).trans put
  split
  · rw [State.fxg_raise, State.fxg_bump, flags]
  · exact flags

@[simp] theorem State.fxg_writeOut (addr room : Nat) (b : List Byte) : (s.writeOut addr room b).fxg = s.fxg := by
  unfold State.writeOut State.memWrite State.hostWrite
  dsimp only
  split
  · rfl
  · split <;> simp

@[simp] theorem State.fxg_clearArrivals (free : Bool) (p : List Byte → Bool) : (s.clearArrivals free p).fxg = s.fxg := by
  refine foldl_keeps (fun t e => ?_) _ s
  exact ite_keeps rfl rfl

/-! ### Regions, decisions and the end of a test (R287, R314) -/

theorem State.iter_freeRegion (r : Nat) : (s.freeRegion r).fxg.iter = s.fxg.iter := rfl

@[simp] theorem State.fxg_decisionMissed (v : List Byte) (sample job : Nat) : (s.decisionMissed v sample job).fxg = s.fxg := by
  have missed : (((s.raise Cause.DECISION_MISSED sample).bump Fld.CAD_MISSES_DECISION).setWord64 Reg.CAD_LAST_MISS sample).fxg = s.fxg := by
    rw [State.fxg_setWord64, State.fxg_bump, State.fxg_raise]
  unfold State.decisionMissed
  dsimp only
  split
  · rw [State.fxg_fset, State.fxg_fset, State.fxg_bump, State.fxg_raise, State.fxg_setWord, missed]
  · rw [State.fxg_setWord, missed]

@[simp] theorem State.fxg_sampleMissed (v : List Byte) (sample : Nat) : (s.sampleMissed v sample).fxg = s.fxg :=
  foldl_keeps (fun _ _ => State.fxg_decisionMissed _ _ _ _) _ s

@[simp] theorem State.iter_testEnd (i : Iter) (ns : Nat) : (s.testEnd i ns).fxg.iter = s.fxg.iter := by
  unfold State.testEnd
  extract_lets ok told
  have raised : told.fxg = s.fxg := ite_keeps rfl (s.fxg_raise _ _)
  split
  · rw [raised]
  · dsimp only
    rw [State.fxg_complete, State.dropTest]
    dsimp only
    split <;> simp [raised]

end

end Sys2Proof.Machine
end

section
/-! SUPPORT. The Fixed-gear partition, as chapters 10 to 12 state it: test iterations asked for, iterations that start, pass checkpoints and end, changes of variant and clock
plan, late decisions; and the statement that these settle. -/
namespace Sys2Proof.Machine

/-! ### Test iterations asked for (R288) -/

/-- The fields of a RUN with PARTITION 1 are in order (R288). -/
structure TestRunFields (d : List Byte) : Prop where
  job : rd d 8 2 = 0
  sample : rd d 16 8 = 0
  input : rd d 32 8 = 0
  out : rd d 40 8 ≠ 0 → anyAddr (rd d 40 8) = true ∧ 128 ≤ rd d 48 4

section
variable {s : State} {n : Nat} {d : List Byte} (h : TestRunFields d)
include h

theorem TestRunFields.testRun_checked : s.testRun n d =
    if s.fget Fld.FXG_CONFIG_TEST_EN = 0 then s.refuse n d 1
    else if !s.variantRuns || s.fxg.halted then s.complete n d St.NOT_AVAILABLE
    else { s with fxg := { s.fxg with tests := s.fxg.tests ++ [(n, d)] } } := by
  have addr : ¬(rd d 40 8 ≠ 0 ∧ anyAddr (rd d 40 8) = false) := fun ⟨a, b⟩ => by simp [(h.out a).1] at b
  have room : ¬(rd d 40 8 ≠ 0 ∧ rd d 48 4 < 128) := fun ⟨a, b⟩ => Nat.not_lt.mpr (h.out a).2 b
  simp only [State.testRun]
  rw [if_neg (not_not_intro h.job), if_neg (not_not_intro h.sample), if_neg (not_not_intro h.input), if_neg addr, if_neg room]

theorem TestRunFields.testRun_refused (ht : s.fget Fld.FXG_CONFIG_TEST_EN = 0) : s.testRun n d = s.refuse n d 1 := by
  rw [h.testRun_checked, if_pos ht]

theorem TestRunFields.testRun_unavailable (ht : s.fget Fld.FXG_CONFIG_TEST_EN ≠ 0) (hv : s.variantRuns = false ∨ s.fxg.halted = true) :
    s.testRun n d = s.complete n d St.NOT_AVAILABLE := by
  rw [h.testRun_checked, if_neg ht, if_pos (by simpa using hv)]

theorem TestRunFields.testRun_waits (ht : s.fget Fld.FXG_CONFIG_TEST_EN ≠ 0) (hv : s.variantRuns = true) (hh : s.fxg.halted = false) :
    s.testRun n d = { s with fxg := { s.fxg with tests := s.fxg.tests ++ [(n, d)] } } := by
  rw [h.testRun_checked, if_neg ht, if_neg (by simp [hv, hh])]

end

theorem exec_testIterationRun {s0 : State} {n : Fin 64} {w d : List Byte} (h : s0.Runs 0x01 n w d) (hp : rd d 10 1 = 1) :
    exec (.testIterationRun n w) s0 = .next ((s0.starts n d).testRun n d).settle :=
  (gate_runs _ h).trans (next_settle_congr (if_pos hp))

/-! ### Iterations that start (R283, R286) -/

/-- No commit that waits for an iteration boundary is at the front (R286). -/
def State.NoFixedCommit (s : State) : Prop := ∀ c l, s.hif.commits = c :: l → c.boundary ≠ 1

theorem State.NoFixedCommit.frameCommit {s : State} (h : s.NoFixedCommit) : s.frameCommit = s := by
  unfold State.frameCommit
  split
  · rfl
  · next c l hc => exact if_neg fun first => h c l hc first.1

/-- A frame boundary may start an iteration, and nothing comes first (R282, R283). -/
structure State.MayStart (s : State) : Prop where
  idle : s.iterationRunning = false
  commit : s.NoFixedCommit
  change : s.fxg.changePending = false
  variant : s.variantRuns = true
  halted : s.fxg.halted = false
  resuming : s.fxg.resuming = false

section
variable {s : State}

theorem State.MayStart.iterationStart (h : s.MayStart) : s.iterationStart = s.frameBoundary := by
  rw [State.iterationStart, h.idle, if_neg Bool.false_ne_true, h.commit.frameCommit]

theorem State.MayStart.frameBoundary_test (h : s.MayStart) (ht : s.testReady = true) :
    s.frameBoundary = s.iterStart (Image.testRegion s.fxg.image) (s.boundaryAt s.now) true := by
  simp [State.frameBoundary, h.idle, h.change, h.variant, h.halted, h.resuming, ht]

/-- A region that may start at the next frame boundary is the one whose iteration starts, or whose sample has not the shape that its jobs declare (R210, R283). -/
theorem State.MayStart.frameBoundary_region {r : Nat} {v : List Byte} (h : s.MayStart) (ht : s.testReady = false) (hr : s.startable (s.boundaryAt s.now) = some r)
    (hv : s.fxg.variant = some v) : s.frameBoundary = if s.shapeOk r then s.iterStart r (s.boundaryAt s.now) false
      else (((s.passUntil (s.boundaryAt s.now)).raise Cause.INPUT_SHAPE).freeRegion r).sampleMissed v (s.region r).held.id := by
  simp [State.frameBoundary, h.idle, h.change, h.variant, h.halted, h.resuming, ht, hr, hv]

/-- The engines of the running mask are not gated (R50), which leaves the partition as it is. -/
theorem State.fxg_foldl_ungate (l : List Nat) (s : State) :
    (l.foldl (fun s e => if s.isFixed e then s.setEng e { s.eng e with gated := false } else s) s).fxg = s.fxg := by
  refine foldl_keeps (fun t e => ?_) l s
  exact ite_keeps rfl rfl

/-- The iteration that starts holds its region, the region's sample and the time of its start (R283). -/
theorem State.iter_iterStart {v : List Byte} (r t : Nat) (hv : s.fxg.variant = some v) :
    (s.iterStart r t false).fxg.iter = some { region := r, sample := (s.region r).held.id, tLast := rd (s.region r).held.hdr 16 8, hdr := (s.region r).held.hdr
                                              start := t, variant := v, paced := s.fxg.paced } := by
  simp only [State.iterStart, hv, State.fxg_foldl_ungate]
  rfl

/-- Its region is taken. -/
theorem State.started_iterStart {v : List Byte} (r t : Nat) (hv : s.fxg.variant = some v) : ((s.iterStart r t false).region r).started = true := by
  simp only [State.iterStart, hv, State.region, State.fxg_foldl_ungate]
  exact congrArg Region.started (State.region_setRegion_same _ r _)

end

/-! ### Checkpoints (R291 to R294) -/

/-- A half that has placed its chain at its cycle, and is not withheld, has done its work and no more (R291). -/
theorem State.halfAt_placed {s : State} {i : Iter} {c : List Byte} {half engine : Nat} {x : HalfSeen} (hp : i.paced = true ∨ (x.placed = true ∧ x.cycle = Image.cCycle c))
    (hw : (if x.placed then x.work.foldl (fun v y => v.iterWork i y) s else s).isWithheld (Image.cJob c) half engine = false) :
    s.halfAt i c half engine x = if x.placed then x.work.foldl (fun v y => v.iterWork i y) s else s := by
  have onTime : (!i.paced && (!x.placed || x.cycle != Image.cCycle c)) = false := by
    rcases hp with hp | ⟨h1, h2⟩
    · simp [hp]
    · simp [h1, h2]
  simp only [State.halfAt, onTime, Bool.false_eq_true, if_false, hw]

/-- The running iteration has passed a checkpoint: it moves to the next, with the signature that a decision places (R291, R292). -/
def State.checkpointPassed (s : State) (c : List Byte) : State :=
  { s with fxg := { s.fxg with iter := s.fxg.iter.map fun y => { y with
    next := y.next + 1
    sigs := if Image.cDecision c then y.sigs ++ leBytes 4 (s.word (Reg.ENG_n_SIG_k (Image.cEngine c) (Image.cSlot c))) else y.sigs } } }

theorem State.checkpointPassed_idle {s : State} (c : List Byte) (h : s.fxg.iter = none) : s.checkpointPassed c = s := by
  simp only [State.checkpointPassed, h, Option.map_none]
  simp only [← h]

/-- A checkpoint of a single schedule that passes (R291, R292, R294). -/
theorem State.checkpoint_passed {s u : State} {i : Iter} {c : List Byte} {north : HalfSeen} (south : HalfSeen) (warn : Bool) (hand : Nat) (hi : s.fxg.iter = some i)
    (hc : (Image.checkpoints s.fxg.image i.variant)[i.next]? = some c) (hs : Image.pair s.fxg.image = false)
    (hu : (s.passUntil (i.start + cyclesNs (Image.vPlan i.variant) (if i.paced then north.cycle else Image.cCycle c))).halfAt i c (Image.cEngine c / 8) (Image.cEngine c) north = u)
    (hw : u.isWithheld (Image.cJob c) (Image.cEngine c / 8) (Image.cEngine c) = false) : let w := u.checkpointPassed c
    s.checkpoint north south warn hand = if i.test || !Image.cDecision c then w
      else (w.passUntil (w.now + min 20000 hand)).handOver i.variant i.sample (Image.cJob c) warn := by
  simp only [State.checkpoint, hi, hc, hs, Bool.false_eq_true, if_false, hu, hw, Bool.not_false, if_true, Bool.and_true, Bool.true_or]
  cases hj : u.fxg.iter with
  | none => rw [State.checkpointPassed_idle c hj]
  | some j => simp only [State.checkpointPassed, hj, Option.map_some]

/-! ### The outcomes of Table 11.6 -/

section
variable {s : State} (j a b : Nat) (same : Bool)

theorem State.pairOutcome_both (hn : s.isWithheld j 0 a = true) (hs : s.isWithheld j 1 b = true) :
    s.pairOutcome j a b same = ((s.bump Fld.FXG_WITHHELD_BOTH).raiseIn Cause.BOTH_WITHHELD 6 j, false) := by
  simp only [State.pairOutcome, hn, hs, Bool.and_self, if_true]

theorem State.pairOutcome_single (h : s.isWithheld j 0 a ≠ s.isWithheld j 1 b) :
    s.pairOutcome j a b same = ((s.bump Fld.FXG_PAIR_EVENTS_SINGLE).raiseIn Cause.SINGLE_HALF 6 j, true) := by
  have differ : ∀ x y : Bool, x ≠ y → (x && y) = false ∧ (x || y) = true := by decide
  obtain ⟨notBoth, one⟩ := differ _ _ h
  simp only [State.pairOutcome, notBoth, one, Bool.false_eq_true, if_false, if_true]

variable (hn : s.isWithheld j 0 a = false) (hs : s.isWithheld j 1 b = false)
include hn hs

theorem State.pairOutcome_agree : s.pairOutcome j a b true = (s, true) := by
  simp [State.pairOutcome, hn, hs]

theorem State.pairOutcome_mismatch : s.pairOutcome j a b false =
    ((((s.bump Fld.FXG_PAIR_EVENTS_MISMATCH).raiseIn Cause.PAIR_MISMATCH 6 j).withhold j 0).withhold j 1, false) := by
  simp [State.pairOutcome, hn, hs]

end

/-! ### Iterations that end (R283) -/

/-- What the end of an iteration makes of a region: a sample that waits there from before is skipped (R285). -/
def State.skipSample (v : List Byte) (s : State) (r : Nat) : State :=
  if (s.region r).flag && !(s.region r).started && decide ((s.region r).setAt < s.now) then
    ((s.freeRegion r).bump Fld.FXG_SKIPPED_COUNT).sampleMissed v (s.region r).held.id
  else s

theorem State.iter_skipSample (v : List Byte) (s : State) (r : Nat) : (s.skipSample v r).fxg.iter = s.fxg.iter := by
  unfold State.skipSample
  split
  · rw [State.fxg_sampleMissed, State.fxg_bump, State.iter_freeRegion]
  · rfl

section
variable {s : State} {i : Iter} (hi : s.fxg.iter = some i) (he : Image.vCheckCount i.variant ≤ i.next)
include hi he

/-- After the last checkpoint the iteration ends, and what follows of its end starts none. -/
theorem State.iterationRunning_iterEnd (cycles : Nat) (work : List GroupWork) : (s.iterEnd cycles work).iterationRunning = false := by
  unfold State.iterEnd
  simp -zeta only [hi, if_neg (Nat.not_lt.mpr he)]
  extract_lets n ns begun worked j f ended counted cleared freed posted tested
  have countedIdle : counted.fxg.iter = none := rfl
  have clearedIdle : cleared.fxg.iter = none := by rw [State.fxg_clearArrivals, countedIdle]
  have freedIdle : freed.fxg.iter = none := ite_keeps (g := fun t => t.fxg.iter) clearedIdle (by rw [State.iter_freeRegion, clearedIdle])
  have postedIdle : posted.fxg.iter = none := ite_keeps (g := fun t => t.fxg.iter) (by rw [State.fxg_postAll, freedIdle]) freedIdle
  have testedIdle : tested.fxg.iter = none := ite_keeps (g := fun t => t.fxg.iter) (by rw [State.iter_testEnd, postedIdle]) postedIdle
  have skipped := foldl_keeps (g := fun t => t.fxg.iter) (f := State.skipSample i.variant) (State.iter_skipSample _) (List.range 16) tested
  show (List.foldl (State.skipSample i.variant) tested (List.range 16)).iterationRunning = false
  rw [State.iterationRunning, skipped, testedIdle, Option.isSome_none]

theorem State.iterationEnd_ended (cycles : Nat) (work : List GroupWork) : let v := ((s.iterEnd cycles work).commitAt 1 0).nextFixed
    s.iterationEnd cycles work = if v.fxg.changePending = true then v.changeNow else v := by
  have running : s.iterationRunning = true := by rw [State.iterationRunning, hi, Option.isSome_some]
  simp [State.iterationEnd, running, State.iterationRunning_iterEnd hi he]

end

/-! ### Changes of variant and clock plan (R249, R282) -/

/-- The plan, the budget and the variant of the level are taken (R35, R279, R282); what else a change does is on the Chainring or a notice. -/
def State.levelTaken (s : State) : State :=
  let pick := pickVariant s.fxg.image s.sup.level
  { s with
    sup := { s.sup with plan := levelPlan s.sup.level, budget := s.levelBudget s.sup.level, planPending := false, budgetAt := none }
    fxg := { s.fxg with
      variant := pick.map (·.1), paced := pick.any (·.2), changePending := false, lastLevel := s.sup.level, resuming := decide (levelPlan s.sup.level ≠ s.mem.plan) } }

/-- Whatever neither a change of the Chainring's tables nor a notice touches is as `levelTaken` has it. -/
theorem State.changeNow_eq_levelTaken {β : Type} (g : State → β) (hm : ∀ (t : State) (m : Mem), g { t with mem := m } = g t) (hr : ∀ (t : State) (c : Nat), g (t.raise c) = g t)
    (s : State) : g s.changeNow = g s.levelTaken := by
  unfold State.changeNow
  extract_lets k plan pick paced f supply taken chainring stopped tabled told
  have stoppedKeeps : g stopped = g taken := ite_keeps rfl (hm _ _)
  have tabledKeeps : g tabled = g taken := ite_keeps ((hm _ _).trans stoppedKeeps) stoppedKeeps
  have toldKeeps : g told = g taken := ite_keeps ((hr _ _).trans tabledKeeps) tabledKeeps
  exact ite_keeps ((hr _ _).trans toldKeeps) toldKeeps

theorem State.sup_changeNow (s : State) : s.changeNow.sup = s.levelTaken.sup :=
  s.changeNow_eq_levelTaken State.sup (fun _ _ => rfl) fun t c => t.sup_raise c 0

theorem State.fxg_changeNow (s : State) : s.changeNow.fxg = s.levelTaken.fxg :=
  s.changeNow_eq_levelTaken State.fxg (fun _ _ => rfl) fun t c => t.fxg_raise c 0

/-- A change that waits, while no iteration runs and no commit comes first, is taken at the next frame boundary (R282). -/
theorem exec_variantChange {s : State} (hi : s.iterationRunning = false) (hn : s.NoFixedCommit) (hp : s.fxg.changePending = true) :
    exec .variantChange s = .next (s.passUntil (s.boundaryAt s.now)).changeNow.settle := by
  have noCommit : (s.passUntil (s.boundaryAt s.now)).NoFixedCommit := hn
  have pending : (s.passUntil (s.boundaryAt s.now)).fxg.changePending = true := hp
  show execVariantChange s = _
  simp only [execVariantChange, hi, hp, Bool.not_false, Bool.and_self, if_true, noCommit.frameCommit, pending]

/-- With no message aboard, carriages resume under a plan that lets the Chainring run (R249). -/
theorem exec_planChangeResume {s : State} (hr : s.fxg.resuming = true) (ha : s.mem.aboard = []) (hp : s.sup.plan ≤ 2) :
    let v := (s.passUntil (s.boundaryAt s.now)).setTables s.sup.plan
    exec .planChangeResume s = .next ({ v with fxg := { v.fxg with resuming := false } } : State).settle := by
  show execPlanChangeResume s = _
  simp only [execPlanChangeResume, hr, ha, hp, List.isEmpty_nil, decide_true, Bool.and_self, if_true]

/-! ### Decisions that come too late (R314) -/

theorem CadSample.any_opened {c : CadSample} {job o t : Nat} (hf : c.opened.find? (fun y => y.1 == job) = some (o, t)) :
    (c.opened.any fun y => y.1 == job) = true :=
  List.any_eq_true.mpr ⟨(o, t), List.mem_of_find?_eq_some hf, List.find?_some (p := fun y : Nat × Nat => y.1 == job) hf⟩

section
variable {s : State} {c : CadSample} {l r : List CadSample} (job : Nat) (hl : s.fxg.cadence = l ++ c :: r)
  (hx : ∀ x ∈ l, x.sample ≠ c.sample ∧ ∀ y ∈ x.opened, y.1 ≠ job)
include hl hx

/-- The oldest sample that still waits for a job is the first that lists it. -/
theorem State.find_open {o t : Nat} (hf : c.opened.find? (fun y => y.1 == job) = some (o, t)) :
    s.fxg.cadence.find? (fun c => c.opened.any fun o => o.1 == job) = some c := by
  have before : ∀ x ∈ l, (!x.opened.any fun o => o.1 == job) = true := fun x m => by
    rw [Bool.not_eq_true', List.any_eq_false]
    exact fun y my => by simpa using (hx x m).2 y my
  exact List.find?_eq_some_iff_append.mpr ⟨CadSample.any_opened hf, l, r, hl, before⟩

/-- The deadline of a job passes on the oldest sample that waits for it: the job is open there no more, and has missed. -/
theorem State.decisionDeadline_open {o t : Nat} (hf : c.opened.find? (fun y => y.1 == job) = some (o, t)) :
    let v := (s.fxg.iter.map (·.variant)).getD (s.fxg.variant.getD [])
    s.decisionDeadline job = ((s.passUntil (t + 1)).setCadence { c with
      opened := c.opened.filter (fun y => y.1 != job), missed := c.missed ++ [job] }).decisionMissed v c.sample job := by
  have older : ∀ x ∈ l, (!(x.sample == c.sample)) = true := fun x m => by simpa using (hx x m).1
  have held : (s.passUntil (t + 1)).cadence c.sample = some c := List.find?_eq_some_iff_append.mpr ⟨beq_self_eq_true _, l, r, hl, older⟩
  simp only [State.decisionDeadline, State.find_open job hl hx hf, hf, Option.map_some, Option.getD_some, State.jobMisses, held, CadSample.any_opened hf, if_true]

end

/-- A miss of a job that is no backstop counts, and is kept as the last miss (R314). -/
theorem State.decisionMissed_other {s : State} {v : List Byte} (sample : Nat) {job : Nat} (h : job ∉ backstops s.fxg.image v) :
    s.decisionMissed v sample job = (((s.raise Cause.DECISION_MISSED sample).bump Fld.CAD_MISSES_DECISION).setWord64 Reg.CAD_LAST_MISS sample).setWord Reg.CAD_LAST_JOB
      (65536 * job + 1) := by
  have image : ((((s.raise Cause.DECISION_MISSED sample).bump Fld.CAD_MISSES_DECISION).setWord64 Reg.CAD_LAST_MISS sample).setWord Reg.CAD_LAST_JOB
      (65536 * job + 1)).fxg.image = s.fxg.image := by
    rw [State.fxg_setWord, State.fxg_setWord64, State.fxg_bump, State.fxg_raise]
  simp only [State.decisionMissed]
  rw [image, if_neg (by simpa using h)]

/-- Settles O53: each event by the lemma of its case. -/
theorem fixedGearEvents : Obligations.FixedGearEvents := by
  unfold Obligations.FixedGearEvents
  intro n wd d cN cS hand cycles placedN placedS warn workN workS work job s0 s
  refine ⟨fun hr => ?tests, fun v r hi hc hp hv hh hr hvar => ?starts, fun i c hi hc hs hp => ?checkpoint, fun j a b same => ?pair,
    fun i hi he => ?ends, fun hi hc hp => ?change, fun hr ha hp => ?resume, fun l c r o t hl hx hf => ?late⟩
  case tests =>
    intro begun hp hj hs hin ho
    have fields : TestRunFields d := ⟨hj, hs, hin, ho⟩
    have run := exec_testIterationRun hr hp
    exact ⟨fun ht => run.trans (next_settle_congr (fields.testRun_refused ht)), fun ht hv => run.trans (next_settle_congr (fields.testRun_unavailable ht hv)),
      fun ht hv hh => run.trans (next_settle_congr (fields.testRun_waits ht hv hh))⟩
  case starts =>
    have may : s.MayStart := ⟨hi, hc, hp, hv, hh, hr⟩
    have start : exec .iterationStart s = .next s.frameBoundary.settle := next_settle_congr may.iterationStart
    refine ⟨fun ht => start.trans (next_settle_congr (may.frameBoundary_test ht)), fun ht hs ok => ⟨?_, State.iter_iterStart _ _ hvar, State.started_iterStart _ _ hvar⟩,
      fun ht hs bad => ?_⟩
    · rw [start, may.frameBoundary_region ht hs hvar, if_pos ok]
    · rw [start, may.frameBoundary_region ht hs hvar, if_neg (by simp [bad])]
  case checkpoint =>
    intro p u run _ hw w
    have half := State.halfAt_placed (x := ⟨workN, cN.toNat, placedN⟩) hp hw
    have passed := State.checkpoint_passed ⟨workS, cS.toNat, placedS⟩ warn hand.toNat hi hc hs half hw
    refine ⟨fun h => next_settle_congr (passed.trans (if_pos ?_)), fun ht hd => next_settle_congr (passed.trans (if_neg ?_))⟩
    · simpa using h
    · simp [ht, hd]
  case pair =>
    exact ⟨State.pairOutcome_both j a b same, State.pairOutcome_single j a b same, fun hn hs e => e ▸ State.pairOutcome_agree j a b hn hs,
      fun hn hs e => e ▸ State.pairOutcome_mismatch j a b hn hs⟩
  case ends =>
    exact ⟨State.iterationRunning_iterEnd hi he _ _, next_settle_congr (State.iterationEnd_ended hi he _ _)⟩
  case change =>
    refine ⟨exec_variantChange hi hc hp, ?_⟩
    rw [State.sup_changeNow, State.fxg_changeNow]
    exact ⟨rfl, rfl, rfl, rfl, rfl⟩
  case resume => exact exec_planChangeResume hr ha hp
  case late =>
    intro v u w
    exact ⟨next_settle_congr (State.decisionDeadline_open job.toNat hl hx hf), fun other => State.decisionMissed_other (s := w) c.sample other⟩

end Sys2Proof.Machine
end

section
/-! SUPPORT. Freewheel, as chapter 12 states it: a RUN turned away or admitted, tasks that end, are pre-empted, saved and restored, teardowns and CONTEXT_KILL, deadlines that
pass; and the statement that these settle. -/
namespace Sys2Proof.Machine

/-! ### What a Freewheel RUN asks for (R298, R312) -/

/-- A run just admitted with a deadline that has passed is missed and ends (R312, R313). -/
def State.lateAdmitted (s : State) (limit : Nat) : State :=
  if limit < s.now then s.fwh.runs.getLast?.elim s fun r => (s.jobMissed r.sample r.job).endRun r St.DEADLINE_MISSED else s

/-- A Freewheel RUN is in order, its job is not bound, and its context is `c` (R298). -/
structure State.RunAims (s : State) (d : List Byte) (c : Nat) : Prop where
  on : s.fwhOn = true
  fields : runField s.fwh.image d = none
  unbound : Image.jBind ((Image.job? s.fwh.image (rd d 8 2)).getD []) = 0xFF
  context : s.runContext (rd d 12 1) = some c

section
variable {s : State} {n : Nat} {d : List Byte}

theorem State.lateAdmitted_within {limit : Nat} (h : s.now ≤ limit) : s.lateAdmitted limit = s := if_neg (Nat.not_lt.mpr h)

theorem State.lateAdmitted_late {limit : Nat} {r : Run} (h : limit < s.now) (hr : s.fwh.runs.getLast? = some r) :
    s.lateAdmitted limit = (s.jobMissed r.sample r.job).endRun r St.DEADLINE_MISSED := by
  rw [State.lateAdmitted, if_pos h, hr, Option.elim_some]

theorem State.freeRun_off (h : s.fwhOn = false) : s.freeRun n d = s.complete n d St.NOT_AVAILABLE := by
  simp only [State.freeRun, h, Bool.not_false, if_true]

theorem State.freeRun_malformed {off : Nat} (h : s.fwhOn = true) (hf : runField s.fwh.image d = some off) : s.freeRun n d = s.malformed n d off := by
  simp only [State.freeRun, h, hf, Bool.not_true, Bool.false_eq_true, if_false]

section
variable (h : s.fwhOn = true) (hf : runField s.fwh.image d = none)
include h hf

/-- A bound job is admitted by its samples alone (R298). -/
theorem State.freeRun_bound (hb : Image.jBind ((Image.job? s.fwh.image (rd d 8 2)).getD []) ≠ 0xFF) : s.freeRun n d = s.refuse n d 1 := by
  simp only [State.freeRun, h, hf, Bool.not_true, Bool.false_eq_true, if_false]
  exact if_pos hb

theorem State.freeRun_noContext (hb : Image.jBind ((Image.job? s.fwh.image (rd d 8 2)).getD []) = 0xFF) (hc : s.runContext (rd d 12 1) = none) :
    s.freeRun n d = s.refuse n d 2 := by
  simp only [State.freeRun, h, hf, hb, hc, Bool.not_true, Bool.false_eq_true, if_false, ne_eq, not_true_eq_false]

end

section
variable {c : Nat} (h : s.RunAims d c)
include h

/-- A RUN that reaches its context: a full context, then one torn down or out of service, turns it away (R298, Table 18.4, log entry 105). -/
theorem State.RunAims.freeRun : s.freeRun n d =
    if 16 ≤ (s.ctxRuns c).length then s.refuse n d 3
    else if (s.tearing c).isSome || s.ctxOut c then s.refuse n d 4
    else
      let limit := s.runLimit d ((Image.job? s.fwh.image (rd d 8 2)).getD [])
      (s.admitRun (rd d 8 2) c (rd d 11 1) (rd d 16 8) (some (n, d)) limit).lateAdmitted limit := by
  obtain ⟨on, fields, unbound, context⟩ := h
  simp only [State.freeRun, on, fields, unbound, context, Bool.not_true, Bool.false_eq_true, if_false, ne_eq, not_true_eq_false, State.lateAdmitted]
  cases (s.admitRun (rd d 8 2) c (rd d 11 1) (rd d 16 8) (some (n, d)) (s.runLimit d ((Image.job? s.fwh.image (rd d 8 2)).getD []))).fwh.runs.getLast? <;> rfl

theorem State.RunAims.freeRun_full (hl : 16 ≤ (s.ctxRuns c).length) : s.freeRun n d = s.refuse n d 3 := by
  rw [h.freeRun, if_pos hl]

theorem State.RunAims.freeRun_contextOut (hl : (s.ctxRuns c).length < 16) (ho : (s.tearing c).isSome = true ∨ s.ctxOut c = true) :
    s.freeRun n d = s.refuse n d 4 := by
  rw [h.freeRun, if_neg (Nat.not_le.mpr hl), if_pos (by simpa using ho)]

theorem State.RunAims.freeRun_admitted (hl : (s.ctxRuns c).length < 16) (ht : s.tearing c = none) (ho : s.ctxOut c = false) :
    let limit := s.runLimit d ((Image.job? s.fwh.image (rd d 8 2)).getD [])
    s.freeRun n d = (s.admitRun (rd d 8 2) c (rd d 11 1) (rd d 16 8) (some (n, d)) limit).lateAdmitted limit := by
  rw [h.freeRun, if_neg (Nat.not_le.mpr hl), if_neg (by simp [ht, ho])]

end

end

theorem exec_run_free {s0 : State} {n : Fin 64} {w d : List Byte} (h : s0.Runs 0x01 n w d) (hp : rd d 10 1 ≠ 1) :
    exec (.run n w) s0 = .next ((s0.starts n d).freeRun n d).settle :=
  (gate_runs _ h).trans (next_settle_congr (if_neg hp))

/-! ### Tasks that end (R300, R304) -/

section
variable {s u : State} {r q : Run} {i since : Nat} {e : Fin 16} {work : List GroupWork} (report : Bool)
  (hr : s.runningOn e = some (r, i, since)) (hd : s.now ≤ r.deadline) (hw : s.taskWaits r i e = false)
include hr hd hw

/-- An access of the task has failed: its run faults (R309). -/
theorem State.taskEnd_fails {c : Nat} (hu : s.taskWorks r.id i (work.map fun y => { y with engine := e }) = (u, some c)) (hq : u.run? r.id = some q) :
    s.taskEnd e work report = u.runFault q c := by
  simp only [State.taskEnd, hr, Nat.not_lt.mpr hd, false_and, if_false, hw, Bool.false_eq_true, hu, hq]

/-- The task ends: the flags of the regions that its group read are cleared (R240), and its run ends with its last task. -/
theorem State.taskEnd_ends (hu : s.taskWorks r.id i (work.map fun y => { y with engine := e }) = (u, none)) (hq : u.run? r.id = some q) :
    let z : Run := { q.setTask i .ended with report := q.report || report }
    let rg := chainRegions z.image z.job (Image.tGroup (z.recs.getD i []))
    let v := (u.putRun z).clearArrivals true fun a => rg.contains (Image.aRegion a) && Image.aEngine a == e
    let w : State := { v with fwh := { v.fwh with taskEnded := true } }
    s.taskEnd e work report = if (z.tasks.all fun t => t == .ended) = true then w.finishRun z else w := by
  simp only [State.taskEnd, hr, Nat.not_lt.mpr hd, false_and, if_false, hw, Bool.false_eq_true, hu, hq]

end

/-! ### Pre-emption, saves and restores (R302, R305 to R307) -/

/-- The content of a frame is sound: its header names the engine and the context, no line is poisoned and the CRC holds (R307, Table 12.5). -/
def State.frameSound (s : State) (x : Xfer) (r : Run) (e : Nat) : Prop :=
  let base := s.frameBase x.frame
  let h := s.dramRead base 64
  rd h 0 4 = 0x53465743 ∧ rd h 4 1 = r.ctx ∧ rd h 5 1 = e ∧ s.poisoned base (64 + frameContent) = false ∧
    rd h 12 4 = crc32c (h.drop 16 ++ s.dramRead (base + 64) frameContent)

section
variable {s : State} {e : Nat}

/-- With a free frame, a task that has run its least time begins to be saved into the lowest (R302). -/
theorem State.preempt_saves {r : Run} {i since f : Nat} {x : Ready} (hr : s.runningOn e = some (r, i, since)) (hx : s.preemptor e = some x)
    (hp : s.fget Fld.FWH_CONFIG_PREEMPT_EN ≠ 0) (hn : s.fget Fld.FWH_SAVE_FRAMES_FRAMES ≠ 0)
    (hf : ((List.range (s.fget Fld.FWH_SAVE_FRAMES_FRAMES)).find? fun f => !s.fwh.frames.contains f) = some f) :
    let u := s.passUntil (since + 1000 * s.fget Fld.FWH_CONFIG_MIN_RUN_US)
    let v := (u.bump64 Reg.FWH_PREEMPTIONS).putRun (r.setTask i (.saving e f))
    s.preempt e = { v with fwh := { v.fwh with frames := v.fwh.frames ++ [f], xfers := v.fwh.xfers ++ [⟨false, e, f, r.id, i, u.now⟩] } } := by
  intro u v
  have free : ((List.range (u.fget Fld.FWH_SAVE_FRAMES_FRAMES)).find? fun f => !u.fwh.frames.contains f) = some f := hf
  simp only [State.preempt, hr, hx, hp, hn, or_self, if_false]
  rw [free]
  rfl

section
variable {x : Xfer} {r : Run} (took : Nat) (hr : s.run? x.run = some r)
include hr

/-- A save ends its least time after its decision or later (R305, log entry 188): the frame holds the task. -/
theorem State.saveDone_saved (content : List Byte) (hx : s.xferOn e false = some x) :
    let u := (s.passUntil (x.since + max xferMin took)).xferTook (max xferMin took)
    let b := slice content 0 frameContent
    let v := u.memWrite false (u.frameBase x.frame) (frameHeader r e (Image.tIndex (r.recs.getD x.task [])) u.now b ++ b)
    s.saveDone e took content = ({ v with fwh := { v.fwh with xfers := v.fwh.xfers.filter fun y => y != x } } : State).putRun (r.setTask x.task (.saved e x.frame)) := by
  simp only [State.saveDone, hx, hr]

variable (hx : s.xferOn e true = some x)
include hx

/-- A sound frame is restored: the frame is free again and the task runs on. -/
theorem State.restoreDone_sound :
    let u := (s.passUntil (x.since + max xferMin took)).xferTook (max xferMin took)
    u.frameSound x r e → let v : State := { u with fwh := { u.fwh with xfers := u.fwh.xfers.filter (fun y => y != x), frames := u.fwh.frames.filter fun f => f != x.frame } }
      s.restoreDone e took = (v.showTask r x.task e).putRun (r.setTask x.task (.running e u.now)) := by
  intro u sound v
  simp only [State.restoreDone, hx, hr]
  exact if_pos (by simpa [State.frameSound, and_assoc] using sound)

/-- Any other frame is not restored: its run faults with SAVE_CORRUPT. -/
theorem State.restoreDone_corrupt :
    let u := (s.passUntil (x.since + max xferMin took)).xferTook (max xferMin took)
    ¬ u.frameSound x r e → s.restoreDone e took = u.runFault r Cause.SAVE_CORRUPT := by
  intro u unsound
  simp only [State.restoreDone, hx, hr]
  exact if_neg (by simpa [State.frameSound, and_assoc] using unsound)

end

end

/-! ### Faults, teardowns and CONTEXT_KILL (R309, R310) -/

theorem State.runOn_raiseIn (s : State) (c k r e : Nat) : (s.raiseIn c k r).runOn e = s.runOn e := by
  rw [State.runOn, State.fwh_raiseIn, State.runOn]

/-- A sequencer's fault of a task is a fault of its run. -/
theorem State.sequencerFault_run {s : State} {e : Fin 16} {r : Run} (code : Nat) (h : s.runOn e = some r) : s.sequencerFault e code = s.runFault r code := by
  have context : s.ctxOn e = some r.ctx := by rw [State.ctxOn, h]
  have region : s.consumerRegion (.freewheel e) = some (7, r.ctx) := congrArg (Option.map fun c => (7, c)) context
  have raised : s.raiseFor code (.freewheel e) = s.raiseIn code 7 r.ctx := by simp only [State.raiseFor, region]
  simp only [State.sequencerFault, context, Fin.ofNat_val_eq_self, State.consumerFails, raised, State.consumerActs, State.runOn_raiseIn, h, State.runFault]

theorem State.teardownDone_of_tearing {s : State} {c : Nat} {t : Teardown} (h : s.tearing c = some t) :
    s.teardownDone c = t.kills.foldl (fun v k => v.complete k.1 k.2 St.OK 0 t.stopped) ((s.setTear c none).endHandling 7 c) := by
  simp only [State.teardownDone, h]

/-- The state in which CONTEXT_KILL of context `c` acts: the numbering of the jobs that the context holds, or that the image binds to it, restarts (R325). -/
def State.killRenumbered (s : State) (c : Nat) : State :=
  let jobs := (s.ctxRuns c).map (·.job)
  s.renumber fun j => jobs.contains j || (Image.job? s.fwh.image j).any fun x => Image.jContext x == c && Image.jBind x != 0xFF

@[simp] theorem State.tearing_renumber (s : State) (p : Nat → Bool) (c : Nat) : (s.renumber p).tearing c = s.tearing c := rfl

@[simp] theorem State.ctxRuns_renumber (s : State) (p : Nat → Bool) (c : Nat) : (s.renumber p).ctxRuns c = s.ctxRuns c := rfl

section
variable {s : State} (n : Nat) {d : List Byte} (h : rd d 8 1 ≤ 31)
include h

/-- A kill of a context that is torn down completes with that teardown. -/
theorem State.contextKill_joins {t : Teardown} (ht : s.tearing (rd d 8 1) = some t) :
    s.contextKill n d = (s.killRenumbered (rd d 8 1)).setTear (rd d 8 1) (some { t with kills := t.kills ++ [(n, d)] }) := by
  simp only [State.contextKill, Nat.not_lt.mpr h, if_false, State.tearing_renumber, ht, State.killRenumbered]

variable (ht : s.tearing (rd d 8 1) = none)
include ht

/-- A context without runs has nothing to kill: the kill completes, and no CONTEXT_KILLED is raised (log entry 108). -/
theorem State.contextKill_empty (hc : s.ctxRuns (rd d 8 1) = []) : s.contextKill n d = (s.killRenumbered (rd d 8 1)).complete n d St.OK := by
  simp only [State.contextKill, Nat.not_lt.mpr h, if_false, State.tearing_renumber, ht, State.ctxRuns_renumber, hc, List.isEmpty_nil, if_true, State.killRenumbered]

/-- A kill of a context with runs tears it down, and completes with that teardown. -/
theorem State.contextKill_kills (hc : s.ctxRuns (rd d 8 1) ≠ []) :
    let v := ((s.killRenumbered (rd d 8 1)).raise Cause.CONTEXT_KILLED).tearDown (rd d 8 1) none
    s.contextKill n d = v.setTear (rd d 8 1) ((v.tearing (rd d 8 1)).map fun t => { t with kills := t.kills ++ [(n, d)] }) := by
  have runs : (s.ctxRuns (rd d 8 1)).isEmpty = false := List.isEmpty_eq_false_iff.mpr hc
  simp only [State.contextKill, Nat.not_lt.mpr h, if_false, State.tearing_renumber, ht, State.ctxRuns_renumber, runs, Bool.false_eq_true, State.killRenumbered]

end

theorem exec_contextKill {s0 : State} {n : Fin 64} {w d : List Byte} (h : s0.Runs 0x0D n w d) :
    exec (.contextKill n w) s0 = .next ((s0.starts n d).contextKill n d).settle := gate_runs _ h

/-! ### Deadlines of runs (R313) -/

section
variable {s : State} {r : Run}

theorem State.runMisses_continues (hm : r.missed = false) (hc : r.continues = true) :
    s.runMisses r = (s.jobMissed r.sample r.job).putRun { r with missed := true } := by
  simp only [State.runMisses, hm, hc, Bool.false_eq_true, if_false, if_true]

theorem State.runMisses_ends (hm : r.missed = false) (hc : r.continues = false) :
    s.runMisses r = (s.jobMissed r.sample r.job).endRun { r with written := 0 } St.DEADLINE_MISSED := by
  simp only [State.runMisses, hm, hc, Bool.false_eq_true, if_false]

theorem State.runDeadline_passes {c k : Nat} (hr : (s.ctxRuns c)[k]? = some r) (hd : r.deadline ≠ noDeadline) :
    s.runDeadline c k = (s.passUntil (r.deadline + 1)).runMisses r := by
  simp only [State.runDeadline, hr, hd, if_false]

end

/-- Settles O54: each event by the lemma of its case. -/
theorem freewheelEvents : Obligations.FreewheelEvents := by
  unfold Obligations.FreewheelEvents
  intro n wd d e work report ns content what ctx idx s0 s
  refine ⟨fun hr => ?run, fun r i since hr => ⟨fun hd hw u q => ?taskEnds, fun hd hw u c q => ?taskFails, fun x f hx hp hn => ?preempted⟩,
    fun x r hx hr => ?saved, fun x r hx hr => ?restored, fun r hr => ?faults, fun t ht => ?tornDown, fun hr hc => ?killed, fun r hr hd hm => ?late⟩
  case run =>
    intro begun hp img j answer
    have run : answer = .next (begun.freeRun n d).settle := exec_run_free hr hp
    refine ⟨fun off => run.trans (next_settle_congr (State.freeRun_off off)), fun on =>
      ⟨fun _ hf => run.trans (next_settle_congr (State.freeRun_malformed on hf)), fun hf => ⟨fun hb => ?_, fun hb hc => ?_, fun c hb hc => ?_⟩⟩⟩
    · exact run.trans (next_settle_congr (State.freeRun_bound on hf hb))
    · exact run.trans (next_settle_congr (State.freeRun_noContext on hf hb hc))
    · have aims : begun.RunAims d c := ⟨on, hf, hb, hc⟩
      refine ⟨fun full => run.trans (next_settle_congr (aims.freeRun_full full)),
        fun room out => run.trans (next_settle_congr (aims.freeRun_contextOut room out)), fun room ht ho => ?_⟩
      have admitted := run.trans (next_settle_congr (aims.freeRun_admitted room ht ho))
      exact ⟨fun inTime => admitted.trans (next_settle_congr (State.lateAdmitted_within inTime)),
        fun r late newest => admitted.trans (next_settle_congr (State.lateAdmitted_late late newest))⟩
  case taskEnds => exact fun hu hq => next_settle_congr (State.taskEnd_ends report hr hd hw hu hq)
  case taskFails => exact fun hu hq => next_settle_congr (State.taskEnd_fails report hr hd hw hu hq)
  case preempted => exact fun hf => next_settle_congr (State.preempt_saves hr hx hp hn hf)
  case saved => exact next_settle_congr (State.saveDone_saved ns.toNat hr content hx)
  case restored =>
    exact ⟨fun ok => next_settle_congr (State.restoreDone_sound ns.toNat hr hx ok), fun bad => next_settle_congr (State.restoreDone_corrupt ns.toNat hr hx bad)⟩
  case faults => exact next_settle_congr (State.sequencerFault_run _ hr)
  case tornDown => exact next_settle_congr (State.teardownDone_of_tearing ht)
  case killed =>
    intro begun c jobs u
    have kill := exec_contextKill hr
    exact ⟨fun t ht => kill.trans (next_settle_congr (State.contextKill_joins n hc ht)), fun ht hn => kill.trans (next_settle_congr (State.contextKill_empty n hc ht hn)),
      fun ht hs => kill.trans (next_settle_congr (State.contextKill_kills n hc ht hs))⟩
  case late =>
    have passes := State.runDeadline_passes hr hd
    exact ⟨fun hc => next_settle_congr (passes.trans (State.runMisses_continues hm hc)), fun hc => next_settle_congr (passes.trans (State.runMisses_ends hm hc))⟩

end Sys2Proof.Machine
end

section
/-! SUPPORT. What a module sends over Ihlex, as chapters 12 and 17 state it: IHLEX_PUSH with its checks, tiles, doorbells and joins to host barriers, the pieces of a phase,
barriers that are not released; and the statement that these settle. -/
namespace Sys2Proof.Machine

/-! ### The checks of IHLEX_PUSH (R410, R418) -/

section
variable {s : State} {n : Nat} {d data : List Byte}

theorem State.ihlexPush_off (h : s.ihxOn = false) : s.ihlexPush n d data = s.complete n d St.NOT_AVAILABLE := by
  simp only [State.ihlexPush, h, Bool.not_false, if_true]

theorem State.ihlexPush_malformed {off : Nat} (h : s.ihxOn = true) (hf : pushFault d = some off) : s.ihlexPush n d data = s.malformed n d off := by
  simp only [State.ihlexPush, h, hf, Bool.not_true, Bool.false_eq_true, if_false]

theorem State.ihlexPush_noRoute (h : s.ihxOn = true) (hf : pushFault d = none) (hd : rd d 8 2 ≠ s.moduleId) (hr : s.route (rd d 8 2) = 0) :
    s.ihlexPush n d data = (s.raise Cause.IHX_NO_ROUTE).complete n d St.FAULTED Cause.IHX_NO_ROUTE := by
  simp only [State.ihlexPush, h, hf, Bool.not_true, Bool.false_eq_true, if_false]
  exact if_pos ⟨hd, hr⟩

/-- An IHLEX_PUSH passes its checks, and its destination is this module or has a route. -/
structure State.PushPasses (s : State) (d : List Byte) : Prop where
  on : s.ihxOn = true
  fields : pushFault d = none
  reachable : rd d 8 2 = s.moduleId ∨ s.route (rd d 8 2) ≠ 0

section
variable (h : s.PushPasses d)
include h

theorem State.PushPasses.ihlexPush : s.ihlexPush n d data =
    if rd d 10 1 = 2 then s.hostJoin n d else s.reads n d (rd d 10 1 == 0 && !bitOn (rd d 16 8) 63) fun s => s.pushSend n d data := by
  have routed : ¬(rd d 8 2 ≠ s.moduleId ∧ s.route (rd d 8 2) = 0) := fun ⟨far, unrouted⟩ => h.reachable.elim far fun r => r unrouted
  simp only [State.ihlexPush, h.on, h.fields, routed, Bool.not_true, Bool.false_eq_true, if_false]

theorem State.PushPasses.ihlexPush_join (hk : rd d 10 1 = 2) : s.ihlexPush n d data = s.hostJoin n d := by
  rw [h.ihlexPush, if_pos hk]

/-- A doorbell reads no operand data. -/
theorem State.PushPasses.ihlexPush_doorbell (hk : rd d 10 1 = 1) : s.ihlexPush n d data = s.pushSend n d data := by
  rw [h.ihlexPush, hk]
  rfl

/-- Without the link a source in host memory is not read, and the descriptor ends without a completion (R83). -/
theorem State.PushPasses.ihlexPush_linkDown (hk : rd d 10 1 = 0) (hs : bitOn (rd d 16 8) 63 = false) (hl : s.hif.linkUp = false) :
    s.ihlexPush n d data = s.endDesc n d := by
  rw [h.ihlexPush, hk, hs, State.reads, hl]
  rfl

/-- The source lies in module DRAM, or the link to the host is up. -/
theorem State.PushPasses.ihlexPush_tiles (hk : rd d 10 1 = 0) (hl : bitOn (rd d 16 8) 63 = false → s.hif.linkUp = true) :
    s.ihlexPush n d data = s.pushSend n d data := by
  rw [h.ihlexPush, hk, if_neg (by decide), State.reads]
  cases hs : bitOn (rd d 16 8) 63
  · rw [hl hs]
    rfl
  · rfl

end

/-! ### Transfers to the module itself (R410, R415, log entry 139) -/

section
variable {b : List Byte}

section
variable (hw : s.ihxMayWrite (rd d 24 8) b.length = true)
include hw

/-- The result of a transfer to the module itself is the bytes of its tiles, and 0 for a doorbell. -/
theorem State.pushSelf_written :
    s.pushSelf n d b = (s.memWriteBy 0 false (bits (rd d 24 8) 40 0) b).complete n d St.OK 0 (if rd d 10 1 = 0 then b.length else 0) := by
  simp only [State.pushSelf, State.ihxWrite, hw, if_true, Bool.false_eq_true, if_false]

theorem State.pushSelf_tiles (hk : rd d 10 1 = 0) :
    s.pushSelf n d b = (s.memWriteBy 0 false (bits (rd d 24 8) 40 0) b).complete n d St.OK 0 b.length := by
  rw [State.pushSelf_written hw, if_pos hk]

theorem State.pushSelf_doorbell (hk : rd d 10 1 = 1) : s.pushSelf n d b = (s.memWriteBy 0 false (bits (rd d 24 8) 40 0) b).complete n d St.OK := by
  rw [State.pushSelf_written hw, if_neg (by simp [hk])]

end

/-- The record of the write that may not be is raised before the completion, that of the refusal after it. -/
theorem State.pushSelf_rejected (hw : s.ihxMayWrite (rd d 24 8) b.length = false) :
    s.pushSelf n d b = ((s.raise Cause.IHX_BAD_ADDR).complete n d St.FAULTED Cause.IHX_REMOTE_REJECT).raise Cause.IHX_REMOTE_REJECT := by
  simp only [State.pushSelf, State.ihxWrite, hw, if_true, Bool.false_eq_true, if_false]

end

/-! ### Tiles and doorbells (R419) -/

/-- The bytes that a push of `d` sends: from module DRAM when SRC names it, from the host otherwise. -/
def State.pushBytes (s : State) (d data : List Byte) : List Byte :=
  if bitOn (rd d 16 8) 63 = true then s.dramRead (bits (rd d 16 8) 40 0) (rd d 12 4) else slice data 0 (rd d 12 4)

/-- The push waits for the acknowledgement of its frames, queued in order to their destination. -/
def State.pushFrames (s : State) (n : Nat) (d : List Byte) (fs : List TxFrame) : State :=
  ({ s with ihx := { s.ihx with pushes := s.ihx.pushes ++ [⟨n, d, rd d 8 2, fs.length, 0, 0⟩] } } : State).ihxQueue (rd d 8 2) fs

theorem State.pushSource_sound (h : bitOn (rd d 16 8) 63 = true →
      s.accessFault false false (bits (rd d 16 8) 40 0) (rd d 12 4) = none ∧ s.poisoned (bits (rd d 16 8) 40 0) (rd d 12 4) = false) :
    s.pushSource d data = (s.pushBytes d data, none) := by
  cases hs : bitOn (rd d 16 8) 63
  · simp [State.pushSource, State.pushBytes, hs]
  · obtain ⟨access, clean⟩ := h hs
    simp [State.pushSource, State.pushBytes, hs, access, clean]

theorem State.pushSource_fault {c : Nat} (hs : bitOn (rd d 16 8) 63 = true) (hc : s.accessFault false false (bits (rd d 16 8) 40 0) (rd d 12 4) = some c) :
    (s.pushSource d data).2 = some c := by
  simp [State.pushSource, hs, hc]

section
variable (hk : rd d 10 1 = 0)
include hk

theorem State.pushSend_failed {c : Nat} (hc : (s.pushSource d data).2 = some c) : s.pushSend n d data = (s.raise c).complete n d St.FAULTED c := by
  cases hp : s.pushSource d data with
  | mk b o =>
    obtain rfl : o = some c := by simpa [hp] using hc
    simp only [State.pushSend, hk, hp, Nat.zero_ne_one, if_false]

theorem State.pushSend_tiles {b : List Byte} (hb : s.pushSource d data = (b, none)) :
    s.pushSend n d data = if rd d 8 2 = s.moduleId then s.pushSelf n d b else s.pushFrames n d (tilesOf n d (rd d 24 8) (b.length + 1) b) := by
  simp only [State.pushSend, hk, hb, Nat.zero_ne_one, if_false, State.pushFrames]

end

theorem State.pushSend_doorbell (hk : rd d 10 1 = 1) : s.pushSend n d data =
    if rd d 8 2 = s.moduleId then s.pushSelf n d (leBytes 4 (rd d 32 4))
    else s.pushFrames n d [{ type := 3, src := .push n d, addr := rd d 24 8, value := rd d 32 4 }] := if_pos hk

end

/-! ### Joins to host barriers (R330) -/

/-- The module takes the next generation of the barrier and waits for its release. -/
theorem State.hostJoin_waits (s : State) (n : Nat) (d : List Byte) :
    let id := rd d 36 2
    let g := s.fwh.hostGens.get (fun _ => 0) id + 1
    s.hostJoin n d = ({ s with fwh := { s.fwh with
      hostGens := s.fwh.hostGens.put (fun _ => 0) id g
      hostWaits := s.fwh.hostWaits ++ [⟨n, d, id, g, rd d 8 2, s.now⟩] } } : State).joinAt (rd d 8 2) id g (rd d 38 2) 0xFFFF := rfl

/-! ### The rows -/

section
variable {s0 : State} {n : Fin 64} {w d : List Byte} (h : s0.Runs 0x10 n w d)
include h

theorem exec_ihlexTilePush (data : List Byte) : exec (.ihlexTilePush n w data) s0 = .next ((s0.starts n d).ihlexPush n d data).settle := gate_runs _ h

theorem exec_remoteDoorbellPush : exec (.remoteDoorbellPush n w) s0 = .next ((s0.starts n d).ihlexPush n d []).settle := gate_runs _ h

theorem exec_hostBarrierJoin : exec (.hostBarrierJoin n w) s0 = .next ((s0.starts n d).ihlexPush n d []).settle := gate_runs _ h

/-- The three rows differ in the bytes that the host holds at SRC. -/
theorem exec_ihlexPush {data : List Byte} {c : Instr} (hc : c = .ihlexTilePush n w data ∨ c = .remoteDoorbellPush n w ∨ c = .hostBarrierJoin n w) :
    ∃ held, exec c s0 = .next ((s0.starts n d).ihlexPush n d held).settle := by
  obtain rfl | rfl | rfl := hc
  · exact ⟨data, exec_ihlexTilePush h data⟩
  · exact ⟨[], exec_remoteDoorbellPush h⟩
  · exact ⟨[], exec_hostBarrierJoin h⟩

end

/-! ### The pieces of a phase (R327) -/

theorem State.pieceSend_due {s : State} {c : Nat} {r : Run} {l : List Run} {p g : List Byte} (place : BitVec 64) (hr : s.ctxRuns c = r :: l)
    (hp : State.phaseDue r = some p) (hg : r.region? p = some g) :
    let u := s.putRun { r with sent := r.sent ++ [Image.phNum p] }
    let a := if r.members.isEmpty then 0 else r.members.idxOf s.moduleId
    s.pieceSend c place = (List.range (max 1 r.members.length)).foldl (fun v k => v.sendPiece r p g a k (u.heldShards p a place)) u := by
  simp only [State.pieceSend, hr, List.head?_cons, hp, hg]
  rfl

/-! ### Barriers that are not released (R326, R330) -/

theorem State.barrierTimeout_run {s : State} {c t : Nat} {r : Run} {l : List Run} (hr : s.ctxRuns c = r :: l) (hj : r.joinedAt = some t)
    (hn : r.released = false) (ha : r.state = .active) :
    s.barrierTimeout (some c) = ((s.passUntil (t + s.barrierNs)).barrierLate).endRun r St.FAULTED Cause.BARRIER_TIMEOUT := by
  simp only [State.barrierTimeout, hr, List.head?_cons, hj, hn, ha, ne_eq, not_true_eq_false, decide_false, Bool.or_self, Bool.false_eq_true, if_false]

theorem State.barrierTimeout_host {s : State} {h : HostBarrier} {l : List HostBarrier} (hw : s.fwh.hostWaits = h :: l) :
    let u := (s.passUntil (h.joinedAt + s.barrierNs)).barrierLate
    s.barrierTimeout none = ({ u with fwh := { u.fwh with hostWaits := l } } : State).complete h.qp h.d St.FAULTED Cause.BARRIER_TIMEOUT := by
  simp only [State.barrierTimeout, hw]

/-- Settles O55: each row by the lemma of its case. That a refused transfer to the module itself completes as one refused by a peer does, and that IHX_NO_ROUTE is raised as
well as completing the push, is log 139. -/
theorem ihlexSending : Obligations.IhlexSending := by
  unfold Obligations.IhlexSending
  intro n wd d data ctx place s0 s
  refine ⟨fun hr => ?push, fun r l p g hr hp hg => ?pieces, fun r l t hr hj hn ha => ?runLate, fun h l hw => ?hostLate⟩
  case push =>
    intro begun dest addr
    refine ⟨fun c hc => ?checks, fun on hf reach => ?sends⟩
    case checks =>
      obtain ⟨held, run⟩ := exec_ihlexPush hr hc
      exact ⟨fun off => run.trans (next_settle_congr (State.ihlexPush_off off)), fun _ on hf => run.trans (next_settle_congr (State.ihlexPush_malformed on hf)),
        fun on hf far unrouted => run.trans (next_settle_congr (State.ihlexPush_noRoute on hf far unrouted))⟩
    case sends =>
      have passes : begun.PushPasses d := ⟨on, hf, reach⟩
      have doorbell := fun hk => (exec_remoteDoorbellPush hr).trans (next_settle_congr ((passes.ihlexPush_doorbell hk).trans (State.pushSend_doorbell hk)))
      refine ⟨fun hk => ?tiles, fun hk far => (doorbell hk).trans (next_settle_congr (if_neg far)),
        fun hk own may => (doorbell hk).trans (next_settle_congr ((if_pos own).trans (State.pushSelf_doorbell may hk))),
        fun hk => (exec_hostBarrierJoin hr).trans (next_settle_congr ((passes.ihlexPush_join hk).trans (State.hostJoin_waits begun n d)))⟩
      intro src off b
      have push := exec_ihlexTilePush hr data
      refine ⟨fun host down => push.trans (next_settle_congr (passes.ihlexPush_linkDown hk host down)), fun up sound => ?_, fun c inDram fault => ?_⟩
      · have sent := push.trans (next_settle_congr ((passes.ihlexPush_tiles hk up).trans (State.pushSend_tiles hk (State.pushSource_sound sound))))
        exact ⟨fun far => sent.trans (next_settle_congr (if_neg far)),
          fun own may => sent.trans (next_settle_congr ((if_pos own).trans (State.pushSelf_tiles may hk))),
          fun own mayNot => sent.trans (next_settle_congr ((if_pos own).trans (State.pushSelf_rejected mayNot)))⟩
      · have link : bitOn src 63 = false → begun.hif.linkUp = true := fun host => Bool.noConfusion (inDram.symm.trans host)
        exact push.trans (next_settle_congr ((passes.ihlexPush_tiles hk link).trans (State.pushSend_failed hk (State.pushSource_fault inDram fault))))
  case pieces => exact next_settle_congr (State.pieceSend_due place hr hp hg)
  case runLate => exact next_settle_congr (State.barrierTimeout_run hr hj hn ha)
  case hostLate => exact next_settle_congr (State.barrierTimeout_host hw)

end Sys2Proof.Machine
end

section
/-! SUPPORT. The Truing engine, as chapter 14 states it: a SOLVE turned away, queued or started, the ends of the running solve, the write of the Truing store; and the statement
that these settle. -/
namespace Sys2Proof.Machine

/-! ### Operand reads (R83) -/

section
variable {s : State} {n : Nat} {d : List Byte} {host : Bool} (f : State → State)

theorem State.reads_linkDown (hh : host = true) (hl : s.hif.linkUp = false) : s.reads n d host f = s.endDesc n d := by
  simp only [State.reads, hh, hl, Bool.not_false, Bool.and_self, if_true]

/-- There is nothing to read in host memory, or the link to it is up. -/
theorem State.reads_done (h : host = false ∨ s.hif.linkUp = true) : s.reads n d host f = f s := by
  refine if_neg ?_
  rcases h with h | h <;> simp only [h, Bool.false_and, Bool.not_true, Bool.and_false, Bool.false_eq_true, not_false_iff]

end

/-! ### The checks of SOLVE (R343) -/

/-- The solve that a SOLVE asks for, with its problem's record in the directory in effect. -/
def State.askedSolve (s : State) (n : Nat) (d obs : List Byte) : Solve :=
  { qp := n, d, obs, problem := (s.problem? (rd d 8 2)).getD [] }

/-- A solve with every field in order is refused with the reason of R343, or joins the queue, where it starts if it is alone. -/
def State.takeSolve (s : State) (x : Solve) : State :=
  match s.solveRefused x with
  | some r => s.refuse x.qp x.d r
  | none => (s.setSolves (s.tru.queue ++ [x])).startSolve (s.tru.queue.length + 1)

theorem State.takeSolve_refused {s : State} {x : Solve} {r : Nat} (h : s.solveRefused x = some r) : s.takeSolve x = s.refuse x.qp x.d r := by
  simp only [State.takeSolve, h]

theorem State.takeSolve_joins {s : State} {x : Solve} (h : s.solveRefused x = none) :
    s.takeSolve x = (s.setSolves (s.tru.queue ++ [x])).startSolve (s.tru.queue.length + 1) := by
  simp only [State.takeSolve, h]

/-- No solve is taken at PL2 and above, and none of a directory problem without an image. -/
def State.truOut (s : State) (d : List Byte) : Prop := 2 ≤ s.sup.level ∨ (rd d 8 2 < 0x8000 ∧ s.fwh.image = [])

section
variable {s : State} {n : Nat} {d obs : List Byte}

theorem State.solve_out (h : s.truOut d) : s.solve n d obs = s.complete n d St.NOT_AVAILABLE := if_pos h

theorem State.solve_malformed {off : Nat} (h : ¬s.truOut d) (hf : s.solveFault (s.askedSolve n d obs) = some off) :
    s.solve n d obs = s.malformed n d off := by
  refine (if_neg h).trans ?_
  simp only [State.askedSolve] at hf
  simp only [hf]

/-- The module takes solves and every field of this one is in order. -/
structure State.SolveFits (s : State) (n : Nat) (d obs : List Byte) : Prop where
  on : ¬s.truOut d
  fields : s.solveFault (s.askedSolve n d obs) = none

section
variable (h : s.SolveFits n d obs)
include h

theorem State.SolveFits.solve : s.solve n d obs = s.reads n d (rd d 24 4 != 0) fun u => u.takeSolve (s.askedSolve n d obs) := by
  obtain ⟨on, fields⟩ := h
  refine (if_neg on).trans ?_
  simp only [State.askedSolve] at fields
  simp only [fields]
  rfl

/-- With observations to read and the link down the descriptor ends without a completion (R83). -/
theorem State.SolveFits.solve_linkDown (ho : rd d 24 4 ≠ 0) (hl : s.hif.linkUp = false) : s.solve n d obs = s.endDesc n d :=
  h.solve.trans (State.reads_linkDown _ (bne_iff_ne.mpr ho) hl)

/-- Without observations to read, or with the link up, the solve is taken or refused at once. -/
theorem State.SolveFits.solve_read (hr : rd d 24 4 = 0 ∨ s.hif.linkUp = true) : s.solve n d obs = s.takeSolve (s.askedSolve n d obs) :=
  h.solve.trans (State.reads_done _ (hr.imp_left bne_eq_false_iff_eq.mpr))

end

end

/-- The solve as it starts now: the directory in effect, the parameters of R341, and its array's backing and program count. -/
def State.begunSolve (s : State) (x : Solve) : Solve :=
  let x := { x with problem := (s.problem? x.number).getD [] }
  let e := s.eng x.engine
  { x with start := some s.now, x0 := s.startParams x, backing := e.backing x.array, cycles := (e.phy (e.backing x.array)).cycles }

theorem State.startSolve_front {s : State} {x : Solve} {l : List Solve} (k : Nat) (hq : s.tru.queue = x :: l) (hs : x.start = none)
    (hp : s.problemOk x.number = true) : s.startSolve (k + 1) = s.setSolves (s.begunSolve x :: l) := by
  simp only [State.startSolve, hq, hs, hp, Option.isSome_none, Bool.not_true, Bool.false_eq_true, if_false]
  rfl

/-! ### The end of the running solve (R338, R339, R342, R344) -/

/-- The running solve `x` ends at `a` for `reason` by what trace `t` computes, and `l` wait behind it. -/
structure State.SolveEnds (s : State) (t : SolveTrace) (x : Solve) (l : List Solve) (a : SolveAt) (reason : Nat) : Prop where
  queue : s.tru.queue = x :: l
  columns : s.columnsRead x t = true
  times : s.timesOk x t = true
  outcome : s.solveOutcome x t = some (a, reason)

/-- The solve's time has passed and its solution stands at OUT_ADDR (Table 14.6). -/
def State.solveWritten (s : State) (t : SolveTrace) (x : Solve) (a : SolveAt) (reason : Nat) : State :=
  let start := x.start.getD s.now
  let u := s.passUntil (start + a.ns)
  u.hostWrite (rd x.d 32 8) (solution x a (u.startCost x t) reason start u.now)

/-- RESULT of a solve: iterations, reason and cost. -/
def SolveAt.result (a : SolveAt) (reason : Nat) : Nat := a.iters % 65536 + 65536 * reason + 2 ^ 32 * costF32 a.cost

/-- The solves that waited are the queue, and the first of them starts. -/
def State.solvesMoveUp (s : State) (l : List Solve) : State := (s.setSolves l).startSolve (l.length + 1)

section
variable {s : State} {t : SolveTrace} {x : Solve} {l : List Solve} {a : SolveAt}

/-- A solve that has converged stages its sections when its STAGE asks for it (R344). -/
theorem State.SolveEnds.solveEnd_staged (h : s.SolveEnds t x l a 1) (hs : rd x.d 44 1 = 1) :
    let p := ((s.solveWritten t x a 1).bump Fld.TRU_SOLVES_CONVERGED).stageSolve x a
    s.solveEnd t = (p.1.complete x.qp x.d p.2 0 (if p.2 = St.OK then a.result 1 else 0)).solvesMoveUp l := by
  obtain ⟨queue, columns, times, outcome⟩ := h
  simp only [State.solveEnd, queue, columns, times, outcome, hs, Bool.and_self, true_or, and_self, if_true]
  rfl

theorem State.SolveEnds.solveEnd_unstaged (h : s.SolveEnds t x l a 1) (hs : rd x.d 44 1 ≠ 1) :
    s.solveEnd t = (((s.solveWritten t x a 1).bump Fld.TRU_SOLVES_CONVERGED).complete x.qp x.d St.OK 0 (a.result 1)).solvesMoveUp l := by
  obtain ⟨queue, columns, times, outcome⟩ := h
  simp only [State.solveEnd, queue, columns, times, outcome, hs, Bool.and_self, true_or, and_false, if_true, if_false]
  rfl

theorem State.SolveEnds.solveEnd_iterationLimit (h : s.SolveEnds t x l a 2) :
    s.solveEnd t = ((s.solveWritten t x a 2).complete x.qp x.d St.OK 0 (a.result 2)).solvesMoveUp l := by
  obtain ⟨queue, columns, times, outcome⟩ := h
  simp only [State.solveEnd, queue, columns, times, outcome, Bool.and_self, or_true, if_true]
  rfl

theorem State.SolveEnds.solveEnd_failed {reason : Nat} (h : s.SolveEnds t x l a reason) (h1 : reason ≠ 1) (h2 : reason ≠ 2) :
    s.solveEnd t = ((((s.solveWritten t x a reason).bump Fld.TRU_SOLVES_FAILED).raise Cause.SOLVE_FAILED).complete x.qp x.d St.FAULTED Cause.SOLVE_FAILED
      (a.result reason)).solvesMoveUp l := by
  obtain ⟨queue, columns, times, outcome⟩ := h
  simp only [State.solveEnd, queue, columns, times, outcome, h1, h2, Bool.and_self, or_self, if_true, if_false]
  rfl

end

/-! ### The Truing store (R349) -/

/-- The copy that a write of the store leaves: the values in effect, with the counts per metre of every channel (log entry 117), under a generation above both copies'. -/
def State.copyInEffect (s : State) : TruCopy :=
  { valid := true, generation := max s.tru.copyA.generation s.tru.copyB.generation + 1, trims := s.allTrims, poses := s.tru.poses, wheels := s.allWheels }

section
variable {s : State} (h : s.tru.dirty = true)
include h

theorem State.storeWrite_failed : s.storeWrite false = ({ s with tru := { s.tru with dirty := false } } : State).raise Cause.STORE_WRITE_FAILED := by
  simp only [State.storeWrite, h, Bool.not_true, Bool.not_false, Bool.false_eq_true, if_false, if_true]

theorem State.storeWrite_copyB (hg : s.tru.copyB.generation < s.tru.copyA.generation) :
    s.storeWrite true = { s with tru := { s.tru with dirty := false, generation := s.copyInEffect.generation, copyB := s.copyInEffect } } := by
  simp only [State.storeWrite, h, hg, Bool.not_true, Bool.false_eq_true, decide_true, if_false, if_true]
  rfl

/-- Of two copies with the same generation, copy A is written. -/
theorem State.storeWrite_copyA (hg : s.tru.copyA.generation ≤ s.tru.copyB.generation) :
    s.storeWrite true = { s with tru := { s.tru with dirty := false, generation := s.copyInEffect.generation, copyA := s.copyInEffect } } := by
  simp only [State.storeWrite, h, hg.not_gt, Bool.not_true, Bool.false_eq_true, decide_false, if_false]
  rfl

end

/-! ### The rows -/

theorem exec_solve {s0 : State} {n : Fin 64} {w d : List Byte} (h : s0.Runs 0x08 n w d) (obs : List Byte) :
    exec (.solve n w obs) s0 = .next ((s0.starts n d).solve n d obs).settle := gate_runs _ h

theorem exec_solveEnd (t : SolveTrace) (s : State) : exec (.solveEnd t) s = .next (s.solveEnd t).settle := rfl

theorem exec_truingStoreWrite (ok : Bool) (s : State) : exec (.truingStoreWrite ok) s = .next (s.storeWrite ok).settle := rfl

/-- Settles O52: each row by the lemma of its case. The counts per metre of every channel in the store are log entry 117. -/
theorem truingCommands : Obligations.TruingCommands := by
  unfold Obligations.TruingCommands
  intro n w d obs t ok s0 s
  refine ⟨fun hr => ?asked, fun x rest a reason hq hc ht ho => ?ends, fun hd => ?stored⟩
  case asked =>
    intro begun k x out
    have run := exec_solve hr obs
    refine ⟨fun off => run.trans (next_settle_congr (State.solve_out off)), fun _ on hf => run.trans (next_settle_congr (State.solve_malformed on hf)),
      fun on hf ho hl => ?linkDown, fun r on hf hread hx => ?refused, fun on hf hread hx => ⟨?joins, fun _ hp => ?starts⟩⟩
    case linkDown => exact run.trans (next_settle_congr (State.SolveFits.solve_linkDown ⟨on, hf⟩ ho hl))
    case refused => exact run.trans (next_settle_congr ((State.SolveFits.solve_read ⟨on, hf⟩ hread).trans (State.takeSolve_refused hx)))
    case joins => exact run.trans (next_settle_congr ((State.SolveFits.solve_read ⟨on, hf⟩ hread).trans (State.takeSolve_joins hx)))
    case starts => exact State.startSolve_front (s := begun.setSolves [x]) 0 rfl rfl hp
  case ends =>
    have ends : s.SolveEnds t x rest a reason := ⟨hq, hc, ht, ho⟩
    intro start u v result next
    refine ⟨?_, ?_, ?_, fun h1 h2 => next_settle_congr (ends.solveEnd_failed h1 h2)⟩
    · rintro rfl hs
      exact next_settle_congr (ends.solveEnd_staged hs)
    · rintro rfl hs
      exact next_settle_congr (ends.solveEnd_unstaged hs)
    · rintro rfl
      exact next_settle_congr ends.solveEnd_iterationLimit
  case stored =>
    intro g c
    refine ⟨?_, ?_, ?_⟩
    · rintro rfl
      exact next_settle_congr (State.storeWrite_failed hd)
    · rintro rfl hg
      exact next_settle_congr (State.storeWrite_copyB hd hg)
    · rintro rfl hg
      exact next_settle_congr (State.storeWrite_copyA hd hg)

end Sys2Proof.Machine
end

section
/-! SUPPORT. The queue of commands, and the plainest facts of the state: terms that are no descriptor of their opcode, steps, reset, canonical tables; and the statements that
these settle. -/
namespace Sys2Proof.Machine

/-! ### One step of the block (R110, R377) -/

theorem gate_refuses {op : Nat} {d : List Byte} (h : isDescr op d = false) (n : Fin 64) (s : State) (f : State → List Byte → State) :
    gate op n d s f = .refused (.illFormed "not a descriptor of this opcode") := if_neg (by rw [h]; decide)

theorem exec_badOpcode_refuses {d : List Byte} (h : isBadOpcode d = false) (n : Fin 64) (s : State) :
    exec (.badOpcode n d) s = .refused (.illFormed "the opcode is one of Table 4.8") := if_neg (by rw [h]; decide)

/-- Settles O2: the gate of the descriptor commands refuses every other term (log entry 6). -/
theorem illFormedRefused : Obligations.IllFormedRefused := fun n _ s =>
  ⟨fun h => gate_refuses h n s _, fun h => gate_refuses h n s _, fun h => gate_refuses h n s _, fun h => exec_badOpcode_refuses h n s⟩

/-- Settles O3: `step` is `exec` on the command in front. -/
theorem stepRunsTheFront : Obligations.StepRunsTheFront := fun _ _ _ => rfl

theorem step_of_empty {s : State} (h : s.pending = []) : step s = .next s.idle := by rw [step, h]

/-- Settles O4: an idle step in Off, and one of a powered module (log entry 4). -/
theorem emptyQueueIdles : Obligations.EmptyQueueIdles := fun _ h =>
  ⟨fun off => (step_of_empty h).trans (congrArg _ (if_pos off)), fun on => (step_of_empty h).trans (congrArg _ (if_neg on))⟩

/-! ### Reset (R450, R456) -/

theorem State.not_stopped_reset : ¬State.reset.stopped := by unfold State.stopped; decide

/-- Settles O5: no variant runs at reset, so WARN_AVAIL is down as its conditions ask, and the module is not stopped. -/
theorem linesSafeAtReset : Obligations.LinesSafeAtReset :=
  ⟨State.availAgrees_of_no_variant rfl rfl, fun h => absurd h State.not_stopped_reset⟩

/-! ### Canonical tables -/

section
variable {α : Type} [DecidableEq α] {d : Nat → α}

theorem Tbl.wfFrom_cons {t : Tbl α} {lo j : Nat} {v : α} (w : Tbl.wfFrom d lo ((j, v) :: t) = true) :
    lo ≤ j ∧ v ≠ d j ∧ Tbl.wfFrom d (j + 1) t = true := by
  simpa only [Tbl.wfFrom, Bool.and_eq_true, decide_eq_true_eq, and_assoc] using w

/-- A canonical table reads as the default below its keys. -/
theorem Tbl.get_of_lt_wfFrom {t : Tbl α} {lo k : Nat} (w : Tbl.wfFrom d lo t = true) (h : k < lo) : t.get d k = d k := by
  induction t generalizing lo with
  | nil => rfl
  | cons e t ih =>
    obtain ⟨j, v⟩ := e
    obtain ⟨hj, -, ht⟩ := Tbl.wfFrom_cons w
    rw [Tbl.get, if_neg (by omega), ih ht (by omega)]

omit [DecidableEq α] in
theorem Tbl.get_cons_same (t : Tbl α) (j : Nat) (v : α) : Tbl.get d ((j, v) :: t) j = v := if_pos rfl

/-- Two canonical tables that read alike are equal: their first keys are equal, since the table with the later one reads as the default at the earlier, and so their tails read
alike too. -/
theorem Tbl.eq_of_get_eq {a b : Tbl α} {lo : Nat} (wa : Tbl.wfFrom d lo a = true) (wb : Tbl.wfFrom d lo b = true) (h : ∀ k, a.get d k = b.get d k) : a = b := by
  induction a generalizing b lo with
  | nil =>
    cases b with
    | nil => rfl
    | cons e b =>
      obtain ⟨-, hv, -⟩ := Tbl.wfFrom_cons wb
      exact absurd ((Tbl.get_cons_same b _ _).symm.trans (h _).symm) hv
  | cons e a ih =>
    obtain ⟨j, v⟩ := e
    obtain ⟨-, hv, ta⟩ := Tbl.wfFrom_cons wa
    cases b with
    | nil => exact absurd ((Tbl.get_cons_same a _ _).symm.trans (h _)) hv
    | cons e b =>
      obtain ⟨k, u⟩ := e
      obtain ⟨-, hu, tb⟩ := Tbl.wfFrom_cons wb
      have first : j = k := by
        rcases Nat.lt_trichotomy j k with l | e | l
        · have read := h j
          rw [Tbl.get_cons_same, Tbl.get, if_neg l.ne, Tbl.get_of_lt_wfFrom tb (by omega)] at read
          exact absurd read hv
        · exact e
        · have read := h k
          rw [Tbl.get_cons_same, Tbl.get, if_neg l.ne, Tbl.get_of_lt_wfFrom ta (by omega)] at read
          exact absurd read.symm hu
      subst first
      have value : v = u := by simpa only [Tbl.get_cons_same] using h j
      have tails : a = b := ih ta tb fun i => by
        by_cases l : i ≤ j
        · rw [Tbl.get_of_lt_wfFrom ta (by omega), Tbl.get_of_lt_wfFrom tb (by omega)]
        · simpa only [Tbl.get, if_neg (show i ≠ j by omega)] using h i
      rw [value, tails]

end

/-- Settles O9: module DRAM is a canonical table. -/
theorem dramIsCanonical : Obligations.DramIsCanonical := fun _ _ wa wb h => Tbl.eq_of_get_eq wa wb h

end Sys2Proof.Machine
end

section
/-! SUPPORT. The safety lines, safe state and the notices of chapters 18 and 19 (R446, R449 to R457, R472 to R478): the rows of the lines and the thermal rows case by case, what
an entry to safe state leaves of the lines; and the statements that these settle. -/
namespace Sys2Proof.Machine

/-! ### Baseplate, input power and SAFE_SUP (R472, R475, R478) -/

section
variable {s : State} {t10 : BitVec 16}

@[simp] theorem State.sup_baseplate (s : State) (t10 : BitVec 16) : (s.baseplate t10).sup = s.sup := by
  rw [State.baseplate, State.sup_fset, State.sup_fset]

theorem exec_baseplateHot_notice (h : 850 < t10.toInt) (hr : s.sup.hotRaised = false) : exec (.baseplateHot t10) s =
    .next (({ s.baseplate t10 with sup := { s.sup with hotRaised := true } } : State).raise Cause.BASEPLATE_HOT).settle := by
  show execBaseplateHot t10 s = _
  simp only [execBaseplateHot, h, State.sup_baseplate, hr, Bool.false_eq_true, if_true, if_false]

theorem exec_baseplateHot_noticed (h : 850 < t10.toInt) (hr : s.sup.hotRaised = true) : exec (.baseplateHot t10) s = .next (s.baseplate t10).settle := by
  show execBaseplateHot t10 s = _
  simp only [execBaseplateHot, h, State.sup_baseplate, hr, if_true]

theorem exec_baseplateHot_cool (h : t10.toInt ≤ 850) :
    exec (.baseplateHot t10) s = .next ({ s.baseplate t10 with sup := { s.sup with hotRaised := false } } : State).settle := by
  show execBaseplateHot t10 s = _
  simp only [execBaseplateHot, Int.not_lt.mpr h, State.sup_baseplate, if_false]

variable {pin : BitVec 16}

/-- The readings that POWER_DERATE reports. -/
def State.powerRead (s : State) (t10 pin : BitVec 16) : State := (s.baseplate t10).fset Fld.PWR_POWER_PIN pin.toNat

@[simp] theorem State.sup_powerRead (s : State) (t10 pin : BitVec 16) : (s.powerRead t10 pin).sup = s.sup := by
  rw [State.powerRead, State.sup_fset, State.sup_baseplate]

theorem exec_powerDerate (t10 pin : BitVec 16) (s : State) : exec (.powerDerate t10 pin) s =
    let u := s.powerRead t10 pin
    .next (if pMax t10.toInt < pin.toNat then if u.sup.derateRaised then u.settle else (({ u with sup := { u.sup with derateRaised := true } } : State).raise Cause.POWER_DERATE).settle
      else ({ u with sup := { u.sup with derateRaised := false } } : State).settle) := rfl

theorem exec_powerDerate_notice (h : pMax t10.toInt < pin.toNat) (hr : s.sup.derateRaised = false) : exec (.powerDerate t10 pin) s =
    .next (({ s.powerRead t10 pin with sup := { s.sup with derateRaised := true } } : State).raise Cause.POWER_DERATE).settle := by
  simp only [exec_powerDerate, h, State.sup_powerRead, hr, Bool.false_eq_true, if_true, if_false]

theorem exec_powerDerate_noticed (h : pMax t10.toInt < pin.toNat) (hr : s.sup.derateRaised = true) : exec (.powerDerate t10 pin) s = .next (s.powerRead t10 pin).settle := by
  simp only [exec_powerDerate, h, State.sup_powerRead, hr, if_true]

theorem exec_powerDerate_within (h : pin.toNat ≤ pMax t10.toInt) :
    exec (.powerDerate t10 pin) s = .next ({ s.powerRead t10 pin with sup := { s.sup with derateRaised := false } } : State).settle := by
  simp only [exec_powerDerate, Nat.not_lt.mpr h, State.sup_powerRead, if_false]

theorem State.fget_congr {s t : State} (h : t.regs = s.regs) (f : Fld) : t.fget f = s.fget f := by
  rw [State.fget, State.word, h, State.fget, State.word]

/-- The state after SAFE_SUP has read `v` (10 mV), which finds it present or not. -/
def State.safeSupRead (s : State) (v : Nat) (present : Bool) : State :=
  { s with regs := (s.fset Fld.PWR_FIELD_SAFE_SUP v).regs, brk := { s.brk with safeSup := present } }

theorem State.fset_withBrk (s : State) (f : Fld) (v : Nat) (b : Brake) : ({ s.fset f v with brk := b } : State) = { s with regs := (s.fset f v).regs, brk := b } := rfl

theorem exec_safeSupChange (v : BitVec 16) (s : State) : exec (.safeSupChange v) s =
    .next (s.safeSupRead v.toNat (if v.toNat < 1500 then false else if 1600 < v.toNat then true else s.brk.safeSup)).settle := by
  show execSafeSupChange v s = _
  simp only [execSafeSupChange, State.fset_withBrk, State.brk_fset, State.safeSupRead]

theorem State.reading_safeSupRead (s : State) (v : BitVec 16) (present : Bool) : (s.safeSupRead v.toNat present).fget Fld.PWR_FIELD_SAFE_SUP = v.toNat := by
  rw [State.fget_congr (s := s.fset Fld.PWR_FIELD_SAFE_SUP v.toNat) (t := s.safeSupRead v.toNat present) rfl, State.fget_fset_same _ _ _ ⟨by decide, by decide⟩]
  exact Nat.mod_eq_of_lt v.isLt

end

/-- Settles O42: the readings are kept, one notice is raised per excursion, and SAFE_SUP keeps its state between its thresholds. -/
theorem thermalNotices : Obligations.ThermalNotices := by
  unfold Obligations.ThermalNotices
  intro t10 pin v s
  refine ⟨rfl, fun h hr => ⟨_, exec_baseplateHot_notice h hr, rfl⟩, exec_baseplateHot_noticed, exec_baseplateHot_cool,
    ⟨exec_powerDerate_notice, exec_powerDerate_noticed, exec_powerDerate_within⟩, _, exec_safeSupChange v s, s.reading_safeSupRead v _, ?absent, ?present, ?between, rfl⟩
  case absent => exact fun h => if_pos h
  case present => exact fun h => (if_neg (by omega)).trans (if_pos h)
  case between => exact fun h k => (if_neg (by omega)).trans (if_neg (by omega))

/-! ### The safety lines (R449 to R457) -/

section
variable {s : State}

theorem exec_warnHold (ho : s.operational = true) (hd : s.brk.firstDecision = true) : exec .warnHold s =
    .next ({ s with now := max s.now (s.brk.shownAt + 1000000 * s.fget Fld.BRK_CONFIG_WARN_HOLD_MS), brk := { s.brk with warnA := false, warnB := false } } : State).settle :=
  congrArg _ (if_pos ⟨ho, hd⟩)

theorem exec_obstacleInputLost {c : Fin 24} (ho : s.operational = true) (hw : s.watched c = true) (hl : s.brk.lost.contains c.val = false) : exec (.obstacleInputLost c) s =
    .next (({ s.passUntil (s.watchDue c) with brk := { s.brk with lost := c.val :: s.brk.lost } } : State).raiseIn Cause.OBSTACLE_INPUT_LOST 13 c).settle :=
  congrArg _ (if_pos ⟨ho, hw, hl⟩)

theorem exec_safeOkReadback (ch : Fin 2) (s : State) : exec (.safeOkReadback ch) s = .next (({ s with
    brk := { s.brk with safeOkA := s.brk.safeOkA && decide (ch ≠ 0), safeOkB := s.brk.safeOkB && decide (ch ≠ 1) } } : State).raise Cause.SAFE_OK_READBACK).settle := by
  refine congrArg (fun t : State => Host.Outcome.next (t.raise Cause.SAFE_OK_READBACK).settle) ?_
  match ch with
  | 0 => simp
  | 1 => simp

/-- No two lines are pulsed at once (log entry 141: the pulse lasts 20 µs). -/
theorem exec_warnTestPulse {l : Fin 3} (ho : s.operational = true) (he : s.fget Fld.BRK_CONFIG_SELFTEST_EN = 1) (hl : s.brk.lineOn l = true)
    (hp : ∀ p, s.brk.testPulse = some p → p.2 ≤ s.now) : let q := s.testTurn (16 + l.val)
    exec (.warnTestPulse l) s = .next ({ q with brk := { q.brk with testPulse := some (l.val, q.now + 20000) } } : State).settle :=
  congrArg _ (if_pos ⟨ho, he, hl, by cases h : s.brk.testPulse with | none => rfl | some p => exact decide_eq_true (hp p h)⟩)

/-- Does an edge of WDOG_IN to `level` arm its supervision? -/
def State.wdogArms (s : State) (level : Bool) : Prop :=
  s.operational = true ∧ ((s.fget Fld.BRK_WDOG_MODE = 1 ∧ level = true) ∨ (s.fget Fld.BRK_WDOG_MODE = 2 ∧ level = false))

/-- The state after an edge of WDOG_IN `after` ns from now, that leaves supervision `on` since `since`. -/
def State.wdogSeen (s : State) (level : Bool) (after : Nat) (on : Bool) (since : Nat) : State :=
  { s with now := s.now + after, brk := { s.brk with wdogLevel := level, wdogOn := on, wdogSince := since } }

theorem State.passUntil_later (s : State) (k : Nat) : s.passUntil (s.now + k) = { s with now := s.now + k } := by
  rw [State.passUntil, Nat.max_eq_right (Nat.le_add_right _ _)]

theorem exec_wdogEdge_arms {level : Bool} (after : Word) (h : s.wdogArms level) :
    exec (.wdogEdge level after) s = .next (s.wdogSeen level after.toNat true (s.now + after.toNat)).settle := by
  show Host.Outcome.next _ = _
  rw [s.passUntil_later]
  exact congrArg _ (if_pos h)

theorem exec_wdogEdge_unarmed {level : Bool} (after : Word) (h : ¬s.wdogArms level) :
    exec (.wdogEdge level after) s = .next (s.wdogSeen level after.toNat s.brk.wdogOn s.brk.wdogSince).settle := by
  show Host.Outcome.next _ = _
  rw [s.passUntil_later]
  exact congrArg _ (if_neg h)

theorem exec_extWatchdog {due : Nat} (ho : s.operational = true) (hd : s.watchdogDue = some due) :
    exec .extWatchdog s = .next ((s.passUntil due).raise Cause.EXT_WATCHDOG).settle := by
  show execExtWatchdog s = _
  rw [execExtWatchdog, ho, hd]

theorem exec_autoRestart (hp : s.start.phase = .safe) (hr : s.brk.restartPending = true) : exec .autoRestart s =
    .next (((s.passUntil (s.word64 Reg.BRK_LAST_SAFE + 2000000000)).fastDomainOff).beginAttempt 2).settle :=
  congrArg _ (if_pos ⟨hp, hr⟩)

end

/-- Settles O41: each row of the safety lines by its equation; the length of a test pulse is log entry 141. -/
theorem safetyLineEvents : Obligations.SafetyLineEvents := by
  unfold Obligations.SafetyLineEvents
  intro c l ch level after s
  refine ⟨exec_warnHold, exec_obstacleInputLost, rfl, exec_safeOkReadback ch s, exec_warnTestPulse, ?edge, fun _ => exec_extWatchdog, exec_autoRestart⟩
  case edge =>
    by_cases h : s.wdogArms level
    · exact ⟨_, exec_wdogEdge_arms after h, rfl, fun _ _ => ⟨rfl, rfl⟩⟩
    · exact ⟨_, exec_wdogEdge_unarmed after h, rfl, fun ho hm => absurd ⟨ho, hm⟩ h⟩

/-! ### What leaves the safety lines as they are: the ends of work in progress (R446, R455) -/

/-- The commands of the safety lines: WARN_A, WARN_B, WARN_AVAIL and both channels of SAFE_OK. -/
def State.lines (s : State) : Bool × Bool × Bool × Bool × Bool := (s.brk.warnA, s.brk.warnB, s.brk.warnAvail, s.brk.safeOkA, s.brk.safeOkB)

theorem State.lines_congr {s t : State} (h : t.brk = s.brk) : t.lines = s.lines := by rw [State.lines, h, State.lines]

theorem State.RecordsOnly.lines {s t : State} (h : s.RecordsOnly t) : t.lines = s.lines := by rw [h.1]; rfl

section
variable (s : State)

@[simp] theorem State.lines_raise (c d : Nat) : (s.raise c d).lines = s.lines := (s.recordsOnly_raise c d).lines

@[simp] theorem State.lines_msix (v : Nat) : (s.msix v).lines = s.lines := (s.recordsOnly_msix v).lines

@[simp] theorem State.lines_bump (f : Fld) (k : Nat) : (s.bump f k).lines = s.lines := rfl

@[simp] theorem State.lines_endHandling (kind region : Nat) : (s.endHandling kind region).lines = s.lines := rfl

@[simp] theorem State.lines_hostPut (k : HostKind) (a : Nat) (b : List Byte) : (s.hostPut k a b).lines = s.lines := by
  unfold State.hostPut
  exact ite_keeps rfl rfl

@[simp] theorem State.lines_countCpl (v : Nat) : (s.countCpl v).lines = s.lines := by
  unfold State.countCpl
  exact ite_keeps (State.lines_msix _ v) rfl

@[simp] theorem State.lines_writeCpl (n : Nat) (c : Cpl) : (s.writeCpl n c).lines = s.lines := by
  unfold State.writeCpl
  extract_lets q t e put
  have written : put.lines = s.lines := s.lines_hostPut _ _ _
  exact ite_keeps written ((State.lines_countCpl _ _).trans written)

@[simp] theorem State.lines_postCpl (n : Nat) (c : Cpl) : (s.postCpl n c).lines = s.lines := by
  unfold State.postCpl
  exact ite_keeps (ite_keeps rfl (s.lines_writeCpl n c)) rfl

@[simp] theorem State.lines_completeE (n : Nat) (d : List Byte) (e status fault result : Nat) : (s.completeE n d e status fault result).lines = s.lines := by
  unfold State.completeE
  extract_lets q head c dead
  have posted : (if dead then s else s.postCpl n c).lines = s.lines := ite_keeps rfl (s.lines_postCpl n c)
  exact ite_keeps rfl posted

@[simp] theorem State.lines_complete (n : Nat) (d : List Byte) (status fault result : Nat) : (s.complete n d status fault result).lines = s.lines :=
  s.lines_completeE n d _ _ _ _

/-! #### A new schedule image after an abandoned iteration (R282) -/

@[simp] theorem State.lines_clearArrivals (free : Bool) (p : List Byte → Bool) : (s.clearArrivals free p).lines = s.lines :=
by
  unfold State.clearArrivals
  refine foldl_keeps (g := State.lines) (fun _ _ => ?_) _ s
  exact ite_keeps rfl rfl

@[simp] theorem State.lines_rebind : s.rebind.lines = s.lines := by
  unfold State.rebind
  refine foldl_keeps (g := State.lines) (fun _ _ => ?_) _ s
  exact ite_keeps rfl (ite_keeps rfl rfl)

@[simp] theorem State.lines_changeNow : s.changeNow.lines = s.lines :=
  State.changeNow_eq_levelTaken State.lines (fun _ _ => rfl) (fun t c => t.lines_raise c 0) s

@[simp] theorem State.lines_decIdle (c : Ctx) : (s.decIdle c).lines = s.lines := by
  unfold State.decIdle
  exact ite_keeps rfl rfl

@[simp] theorem State.lines_levelRule (level n : Nat) : (s.levelRule level n).lines = s.lines := by
  unfold State.levelRule
  exact ite_keeps rfl (ite_keeps (ite_keeps rfl rfl) (ite_keeps rfl (State.lines_decIdle _ _)))

@[simp] theorem State.lines_applyShift (n : Nat) : (s.applyShift n).lines = s.lines := by
  unfold State.applyShift
  dsimp only
  split
  · exact ite_keeps (State.lines_raise _ _ _) rfl
  · rfl

@[simp] theorem State.lines_recheck (n : Nat) : (s.recheck n).lines = s.lines := by
  unfold State.recheck
  dsimp only
  split
  · exact ite_keeps ((State.lines_raise _ _ _).trans (s.lines_applyShift n)) (s.lines_applyShift n)
  · exact s.lines_applyShift n

@[simp] theorem State.lines_programEffect (n : Nat) : (s.programEffect n).lines = s.lines := by
  unfold State.programEffect
  dsimp only
  split
  · rfl
  · rw [State.lines_levelRule, State.lines_recheck, State.lines_complete]
    exact ite_keeps rfl rfl

@[simp] theorem State.lines_levelCtxs (level : Nat) : (s.levelCtxs level).lines = s.lines :=
  foldl_keeps (fun t n => (ite_keeps rfl (State.lines_programEffect _ n)).trans (t.lines_levelRule level n)) _ s

@[simp] theorem State.lines_installFixed (image : List Byte) : (s.installFixed image).lines = s.lines := by
  unfold State.installFixed
  extract_lets old moved mem fxg taken cleared
  have regions : cleared.lines = s.lines := by
    refine foldl_keeps (g := State.lines) (fun _ _ => ?_) _ taken
    exact ite_keeps rfl rfl
  rw [State.lines_changeNow]
  exact ite_keeps ((State.lines_levelCtxs _ _).trans regions) regions

@[simp] theorem State.lines_nextFixed : s.nextFixed.lines = s.lines := by
  unfold State.nextFixed
  split
  · exact ite_keeps rfl ((State.lines_rebind _).trans (s.lines_installFixed _))
  · rfl

/-- The iteration under way and the tests that wait leave the lines alone as they end. -/
@[simp] theorem State.lines_fxgAbandon (status fault : Nat) : (s.fxgAbandon status fault).lines = s.lines := by
  unfold State.fxgAbandon
  extract_lets fxg dropped tests left untested
  have iter : dropped.lines = s.lines := by
    show State.lines (match s.fxg.iter with | none => _ | some _ => _) = _
    split
    · rfl
    · have handled : ∀ t : State, t.endIterHandling.lines = t.lines := fun _ => rfl
      rw [handled]
      refine ite_keeps (g := State.lines) ?_ ?_ <;> exact State.lines_clearArrivals _ _ _
  rw [State.lines_nextFixed, foldl_keeps fun t (x : Nat × List Byte) => t.lines_complete x.1 x.2 status fault 0]
  exact iter

/-! #### Work that ends with a status (R54, R311, R345, R420, R455) -/

@[simp] theorem State.lines_boundCpl (r : Run) (e status fault result : Nat) : (s.boundCpl r e status fault result).lines = s.lines := by
  unfold State.boundCpl
  exact ite_keeps rfl (ite_keeps (ite_keeps rfl rfl) (s.lines_writeCpl _ _))

@[simp] theorem State.lines_endRun (r : Run) (status fault : Nat) : (s.endRun r status fault).lines = s.lines := by
  unfold State.endRun
  extract_lets frames begun active e fwh ended bumped ihx waits cleared result bound
  have kept : bound.lines = s.lines := ite_keeps (g := State.lines) (State.lines_clearArrivals _ _ _) ((State.lines_rebind _).trans (State.lines_clearArrivals _ _ _))
  split
  · exact (State.lines_completeE _ _ _ _ _ _ _).trans kept
  · exact ite_keeps kept ((State.lines_boundCpl _ _ _ _ _ _).trans kept)

@[simp] theorem State.lines_fwhStopAll (status fault : Nat) : (s.fwhStopAll status fault).lines = s.lines := by
  unfold State.fwhStopAll
  extract_lets ended tears fwh dropped left
  have runs : ended.lines = s.lines := foldl_keeps (g := State.lines) (fun t r => t.lines_endRun r status fault) _ s
  have handled : left.lines = dropped.lines := foldl_keeps (g := State.lines) (fun t c => t.lines_endHandling 7 c) _ dropped
  refine (foldl_keeps (g := State.lines) (fun t x => ?_) tears left).trans (handled.trans runs)
  refine foldl_keeps (g := State.lines) (fun u k => ?_) (x.2.elim [] (·.kills)) t
  exact ite_keeps (State.lines_complete _ _ _ _ _ _) (State.lines_complete _ _ _ _ _ _)

@[simp] theorem State.lines_truStopAll (status fault : Nat) : (s.truStopAll status fault).lines = s.lines := by
  unfold State.truStopAll State.truEnd
  exact foldl_keeps (g := State.lines) (fun _ _ => State.lines_complete _ _ _ _ _ _) _ _

@[simp] theorem State.lines_endPush (p : Push) (status fault : Nat) : (s.endPush p status fault).lines = s.lines := by
  unfold State.endPush
  exact State.lines_complete _ _ _ _ _ _

@[simp] theorem State.lines_ihxStopAll (status fault : Nat) : (s.ihxStopAll status fault).lines = s.lines := by
  unfold State.ihxStopAll State.pushesEnd
  extract_lets ended waits fwh
  have pushes : ended.lines = s.lines := foldl_keeps (g := State.lines) (fun t p => t.lines_endPush p status fault) _ s
  exact (foldl_keeps (g := State.lines) (fun _ _ => State.lines_complete _ _ _ _ _ _) waits _).trans pushes

@[simp] theorem State.lines_launchStopAll (status fault : Nat) : (s.launchStopAll status fault).lines = s.lines := by
  unfold State.launchStopAll State.launchesEnd
  refine foldl_keeps (g := State.lines) (fun t p => ?_) _ s
  exact foldl_keeps (g := State.lines) (fun _ _ => State.lines_complete _ _ _ _ _ _) _ _

@[simp] theorem State.lines_cmpClear (ch : Nat) : (s.cmpClear ch).lines = s.lines := by
  have dropped : ∀ k, (s.cmpDrops ch k).lines = s.lines := fun k => ite_keeps rfl (s.lines_bump _ k)
  exact dropped _

@[simp] theorem State.lines_cmpClearAll : s.cmpClearAll.lines = s.lines := foldl_keeps (g := State.lines) (fun t ch => t.lines_cmpClear ch) _ s

@[simp] theorem State.lines_setPhase (p : Phase) : (s.setPhase p).lines = s.lines := by
  unfold State.setPhase
  exact ite_keeps rfl (State.lines_msix _ _)

theorem State.phase_setPhase (p : Phase) : (s.setPhase p).start.phase = p := by
  unfold State.setPhase
  split
  · assumption
  · rw [(State.recordsOnly_msix _ _).1]

/-! ### Entry to safe state (R446, R455) -/

theorem State.lines_enterSafe (code : Nat) : (s.enterSafe code).lines = (false, false, false, false, false) := by
  unfold State.enterSafe
  extract_lets noted auto brk down
  rw [State.lines_setPhase, State.lines_cmpClearAll, State.lines_launchStopAll, State.lines_ihxStopAll, State.lines_truStopAll, State.lines_fwhStopAll, State.lines_fxgAbandon]
  exact State.lines_congr down.outsOff_brk

theorem State.phase_enterSafe (code : Nat) : (s.enterSafe code).start.phase = .safe := by
  unfold State.enterSafe
  extract_lets
  exact State.phase_setPhase _ _

section
variable {s : State} {code : Nat} (hf : s.sup.flushing = false)
include hf

theorem State.moduleAction_operational (ho : s.operational = true) : s.moduleAction code = s.enterSafe code := by
  simp only [State.moduleAction, hf, ho, Bool.false_eq_true, if_false, if_true]

theorem State.moduleAction_starting (ho : s.operational = false) (hp : s.start.phase = .starting ∨ s.start.phase = .awaitGo) (hs : s.start.stepOpen = true) :
    s.moduleAction code = s.failStep 1 code s.stepUs 0 := by
  have started : (decide (s.start.phase = .starting) || decide (s.start.phase = .awaitGo)) = true := by simpa using hp
  simp only [State.moduleAction, hf, ho, started, hs, Bool.and_self, Bool.false_eq_true, if_false, if_true]

theorem State.moduleAction_stopped (ho : s.operational = false) (hp : s.start.phase = .safe ∨ s.start.phase = .maintenance) : s.moduleAction code = s := by
  have idle : (decide (s.start.phase = .starting) || decide (s.start.phase = .awaitGo)) = false := by rcases hp with e | e <;> rw [e] <;> rfl
  simp only [State.moduleAction, hf, ho, idle, Bool.false_and, Bool.false_eq_true, if_false]

end

theorem State.moduleAction_flushing {s : State} (hf : s.sup.flushing = true) (code : Nat) : s.moduleAction code = s := if_pos hf

end

/-- Settles O43: the entry drops the lines, and no work that it ends raises them again. -/
theorem safeStateEntry : Obligations.SafeStateEntry := by
  unfold Obligations.SafeStateEntry
  intro s code
  refine ⟨fun hf ho => ?entry, fun hf => State.moduleAction_starting hf, ?inactive⟩
  case entry =>
    have lines := s.lines_enterSafe code
    simp only [State.lines, Prod.mk.injEq] at lines
    rw [State.moduleAction_operational hf ho]
    exact ⟨s.phase_enterSafe code, lines⟩
  case inactive =>
    rintro (hf | ⟨ho, hp⟩)
    · exact State.moduleAction_flushing hf code
    · cases hf : s.sup.flushing with
      | true => exact State.moduleAction_flushing hf code
      | false => exact State.moduleAction_stopped hf ho hp

end Sys2Proof.Machine
end

section
/-! SUPPORT. Fault records (R437, R443): fields laid out one behind the other read back at their places, so the 32 bytes of a record are those of Table 18.3; and the statement
that this settles. -/
namespace Sys2Proof.Machine

/-! ### Fields one behind the other (R2) -/

/-- Fields of a size and a value, laid out in order. -/
def laidOut (l : List (Nat × Nat)) : List Byte := l.flatMap fun f => leBytes f.1 f.2

/-- Where field `i` begins. -/
def fieldAt (l : List (Nat × Nat)) (i : Nat) : Nat := ((l.take i).map (·.1)).sum

theorem length_laidOut (l : List (Nat × Nat)) : (laidOut l).length = (l.map (·.1)).sum := by
  simp only [laidOut, List.length_flatMap, length_leBytes]

theorem rd_append_right {a : List Byte} {off : Nat} (b : List Byte) (n : Nat) : rd (a ++ b) (a.length + off) n = rd b off n := by
  rw [rd, List.drop_length_add_append, rd]

theorem rd_leBytes_append {n v : Nat} (b : List Byte) (h : v < 256 ^ n) : rd (leBytes n v ++ b) 0 n = v := by
  rw [rd, List.drop_zero, List.take_left' (length_leBytes n v), leVal_leBytes, Nat.mod_eq_of_lt h]

/-- A field that fits reads back at its place. -/
theorem rd_laidOut {l : List (Nat × Nat)} {i n v : Nat} (hi : l[i]? = some (n, v)) (hv : v < 256 ^ n) : rd (laidOut l) (fieldAt l i) n = v := by
  induction l generalizing i with
  | nil => simp at hi
  | cons f l ih =>
    cases i with
    | zero =>
      obtain rfl : f = (n, v) := by simpa using hi
      exact rd_leBytes_append (laidOut l) hv
    | succ i =>
      have skip : fieldAt (f :: l) (i + 1) = (leBytes f.1 f.2).length + fieldAt l i := by rw [length_leBytes]; rfl
      rw [skip]
      exact (rd_append_right _ _).trans (ih hi)

theorem slice_length (b : List Byte) : slice b 0 b.length = b := by simp [slice]

/-! ### The record of Table 18.3 -/

/-- The byte of the flags: TIME_QUALITY, ESCALATED, JOURNALLED and SAFE_CAUSE. -/
def FaultRec.flags (r : FaultRec) : Nat := r.quality + (if r.escalated then 4 else 0) + (if r.journalled then 8 else 0) + (if r.safeCause then 16 else 0)

def FaultRec.fields (r : FaultRec) : List (Nat × Nat) :=
  [(8, r.time), (2, r.cls * 4096 + r.block * 64 + r.cause), (1, r.flags), (1, r.origCls), (2, r.epoch), (1, r.timeEpoch), (1, r.level), (2, r.region), (1, r.kind), (1, r.count),
    (4, r.seq), (8, r.detail)]

theorem FaultRec.bytes_eq_laidOut (r : FaultRec) : r.bytes = laidOut r.fields := by
  simp only [FaultRec.bytes, FaultRec.fields, FaultRec.flags, laidOut, List.flatMap_cons, List.flatMap_nil, List.append_nil, List.append_assoc]

theorem FaultRec.length_bytes (r : FaultRec) : r.bytes.length = 32 := by
  rw [r.bytes_eq_laidOut, length_laidOut]
  rfl

theorem FaultRec.rd_bytes (r : FaultRec) {i n v : Nat} (hi : r.fields[i]? = some (n, v)) (hv : v < 256 ^ n) : rd r.bytes (fieldAt r.fields i) n = v := by
  rw [r.bytes_eq_laidOut, rd_laidOut hi hv]

/-- Each flag stands at its bit. -/
theorem FaultRec.flags_bits (r : FaultRec) (h : r.quality < 4) : r.flags < 256 ^ 1 ∧ bits r.flags 1 0 = r.quality ∧
    bitOn r.flags 2 = r.escalated ∧ bitOn r.flags 3 = r.journalled ∧ bitOn r.flags 4 = r.safeCause := by
  unfold FaultRec.flags bits bitOn
  cases r.escalated <;> cases r.journalled <;> cases r.safeCause <;> simp <;> omega

/-- A record that the journal takes is its newest, with the fault record as payload (R443). -/
theorem State.jrnFault_newest {s : State} {r : FaultRec} (hj : r.journalled = true) (hf : s.jrn.failed = false) :
    ∃ x, (s.jrnFault r).jrn.ring.getLast? = some x ∧ x.type = 5 ∧ x.payload = r.bytes := by
  have payload : slice r.bytes 0 32 = r.bytes := by rw [← r.length_bytes, slice_length]
  simp only [State.jrnFault, hj, State.jrnWrite, hf, Bool.false_eq_true, if_false, if_true]
  exact ⟨_, List.getLast?_concat, rfl, payload⟩

/-- Settles O30: the twelve fields of the record, each at its place. -/
theorem faultRecordLayout : Obligations.FaultRecordLayout := by
  unfold Obligations.FaultRecordLayout
  intro r s time cls block cause quality orig epoch timeEpoch level region kind count seq detail
  obtain ⟨flags, q, e, j, c⟩ := r.flags_bits quality
  have byte : rd r.bytes 10 1 = r.flags := r.rd_bytes (i := 2) rfl flags
  rw [byte]
  exact ⟨r.length_bytes, r.rd_bytes (i := 0) rfl time, r.rd_bytes (i := 1) rfl (by omega), q, e, j, c, r.rd_bytes (i := 3) rfl (by omega), r.rd_bytes (i := 4) rfl epoch,
    r.rd_bytes (i := 5) rfl timeEpoch, r.rd_bytes (i := 6) rfl level, r.rd_bytes (i := 7) rfl region, r.rd_bytes (i := 8) rfl kind, r.rd_bytes (i := 9) rfl count,
    r.rd_bytes (i := 10) rfl seq, r.rd_bytes (i := 11) rfl detail, State.jrnFault_newest⟩

end Sys2Proof.Machine
end

section
/-! SUPPORT. Timed frames, as chapter 16 states them (R394 to R396): TIMED_SEND in the order of its checks, an entry launched, dropped or failed, the order of a port's entries;
and the statement that these settle. -/
namespace Sys2Proof.Machine

/-! ### The entries of a port (R395) -/

theorem addLaunch_eq (e : LaunchEntry) (l : List LaunchEntry) :
    addLaunch e l = (l.takeWhile fun x => decide (x.launch ≤ e.launch)) ++ e :: l.dropWhile fun x => decide (x.launch ≤ e.launch) := by
  induction l with
  | nil => rfl
  | cons x l ih =>
    by_cases h : x.launch ≤ e.launch
    · simp only [addLaunch, h, if_true, ih, List.takeWhile_cons, List.dropWhile_cons, decide_true, List.cons_append]
    · simp only [addLaunch, h, if_false, List.takeWhile_cons, List.dropWhile_cons, decide_false, Bool.false_eq_true, List.nil_append]

theorem mem_addLaunch {e x : LaunchEntry} {l : List LaunchEntry} : x ∈ addLaunch e l ↔ x = e ∨ x ∈ l := by
  rw [addLaunch_eq, List.mem_append, List.mem_cons, or_left_comm, ← List.mem_append, List.takeWhile_append_dropWhile]

theorem pairwise_addLaunch (e : LaunchEntry) {l : List LaunchEntry} (h : l.Pairwise fun x y => x.launch ≤ y.launch) :
    (addLaunch e l).Pairwise fun x y => x.launch ≤ y.launch := by
  induction l with
  | nil => exact List.pairwise_singleton _ e
  | cons x l ih =>
    obtain ⟨first, rest⟩ := List.pairwise_cons.mp h
    rw [addLaunch]
    split
    case isTrue le =>
      refine List.pairwise_cons.mpr ⟨fun y hy => ?_, ih rest⟩
      rcases mem_addLaunch.mp hy with rfl | hy
      · exact le
      · exact first y hy
    case isFalse gt =>
      refine List.pairwise_cons.mpr ⟨fun y hy => ?_, h⟩
      rcases List.mem_cons.mp hy with rfl | hy
      · omega
      · have := first y hy
        omega

/-! ### TIMED_SEND (R394) -/

/-- The fields of a TIMED_SEND are in order. -/
structure State.SendFields (s : State) (d : List Byte) : Prop where
  port : rd d 8 1 ≤ 5
  cls : rd d 9 1 ≤ 7
  short : 60 ≤ rd d 10 2
  long : rd d 10 2 ≤ 9216
  frame : rd d 10 2 ≤ s.fget (Fld.SW_Pp_CFG_MAX_FRAME (rd d 8 1))
  addr : hostAddr (rd d 24 8) = true

section
variable {s : State} {n : Nat} {d frame : List Byte}

/-- The frame of a TIMED_SEND is read: its entry joins its port's, or it is dropped at once. -/
def State.sendTaken (s : State) (n : Nat) (d frame : List Byte) : State :=
  let e : LaunchEntry := ⟨n, d, slice frame 0 (rd d 10 2), rd d 16 8⟩
  if e.limit < s.now then (s.launchDrop e).raiseLaunchLate 1 (rd d 8 1)
  else s.setSwPort (rd d 8 1) { s.swPort (rd d 8 1) with launches := addLaunch e (s.swPort (rd d 8 1)).launches }

/-- What a TIMED_SEND without a bad field comes to: the checks of R394 in their order, then its frame is read. -/
def State.sendChecked (s : State) (n : Nat) (d frame : List Byte) : State :=
  if 64 ≤ (s.swPort (rd d 8 1)).launches.length then s.complete n d St.FULL
  else if s.now + 100000000000 < rd d 16 8 then s.refuse n d 1
  else if s.fget Fld.TB_CONFIG_SEND_VALID_ONLY = 1 ∧ s.tb.quality = 2 then s.refuse n d 2
  else s.reads n d true fun s => s.sendTaken n d frame

theorem State.SendFields.timedSend (h : s.SendFields d) : s.timedSend n d frame = s.sendChecked n d frame := by
  obtain ⟨port, cls, short, long, frame, addr⟩ := h
  have length : ¬(rd d 10 2 < 60 ∨ 9216 < rd d 10 2 ∨ s.fget (Fld.SW_Pp_CFG_MAX_FRAME (rd d 8 1)) < rd d 10 2) := by omega
  simp only [State.timedSend, Nat.not_lt.mpr port, Nat.not_lt.mpr cls, length, addr, Bool.not_true, Bool.false_eq_true, if_false]
  rfl

theorem State.sendChecked_full (h : 64 ≤ (s.swPort (rd d 8 1)).launches.length) : s.sendChecked n d frame = s.complete n d St.FULL := if_pos h

section
variable (hf : ¬64 ≤ (s.swPort (rd d 8 1)).launches.length)
include hf

theorem State.sendChecked_far (h : s.now + 100000000000 < rd d 16 8) : s.sendChecked n d frame = s.refuse n d 1 := (if_neg hf).trans (if_pos h)

variable (hn : ¬s.now + 100000000000 < rd d 16 8)
include hn

theorem State.sendChecked_invalid (h : s.fget Fld.TB_CONFIG_SEND_VALID_ONLY = 1 ∧ s.tb.quality = 2) : s.sendChecked n d frame = s.refuse n d 2 :=
  (if_neg hf).trans ((if_neg hn).trans (if_pos h))

variable (hv : ¬(s.fget Fld.TB_CONFIG_SEND_VALID_ONLY = 1 ∧ s.tb.quality = 2))
include hv

theorem State.sendChecked_linkDown (h : s.hif.linkUp = false) : s.sendChecked n d frame = s.endDesc n d :=
  (if_neg hf).trans ((if_neg hn).trans ((if_neg hv).trans (State.reads_linkDown _ rfl h)))

variable (hl : s.hif.linkUp = true)
include hl

theorem State.sendChecked_read : s.sendChecked n d frame = s.sendTaken n d frame :=
  (if_neg hf).trans ((if_neg hn).trans ((if_neg hv).trans (State.reads_done _ (Or.inr hl))))

theorem State.sendChecked_late (h : rd d 16 8 + rd d 12 4 < s.now) : s.sendChecked n d frame =
    ((s.bump Fld.TB_LAUNCH_LATE_COUNT).complete n d St.LATE 0 s.now).raise Cause.LAUNCH_LATE (1 + 2 ^ 32 * rd d 8 1) :=
  (State.sendChecked_read hf hn hv hl).trans (if_pos h)

theorem State.sendChecked_joins (h : s.now ≤ rd d 16 8 + rd d 12 4) : s.sendChecked n d frame =
    s.setSwPort (rd d 8 1) { s.swPort (rd d 8 1) with launches := addLaunch ⟨n, d, slice frame 0 (rd d 10 2), rd d 16 8⟩ (s.swPort (rd d 8 1)).launches } :=
  (State.sendChecked_read hf hn hv hl).trans (if_neg (Nat.not_lt.mpr h))

end

end

theorem exec_timedSend {s0 : State} {n : Fin 64} {w d : List Byte} (h : s0.Runs 0x0A n w d) (hd : (s0.starts n d).SendFields d) (frame : List Byte) :
    exec (.timedSend n w frame) s0 = .next ((s0.starts n d).sendChecked n d frame).settle :=
  (gate_runs _ h).trans (next_settle_congr hd.timedSend)

/-! ### The front entry of a port (R395, R396) -/

/-- The moment at which the front entry can leave: its port is free, at or after LAUNCH. -/
def State.launchAt (s : State) (p : Nat) (e : LaunchEntry) : Nat := max (max e.launch (s.swPort p).freeAt) s.now

/-- The port without its front entry, at `t`. -/
def State.launchTaken (s : State) (p t : Nat) (r : List LaunchEntry) : State := (s.passUntil t).setSwPort p { s.swPort p with launches := r }

section
variable {s : State} {p : Nat} {e : LaunchEntry} {r : List LaunchEntry} (hq : (s.swPort p).launches = e :: r)
include hq

theorem State.launch_sent (hu : s.swUp p = true) (ho : s.swOn = true) (ht : s.launchAt p e ≤ e.limit) : s.launch p =
    (((s.launchTaken p (s.launchAt p e) r).sentFrame p (s.launchAt p e) e.frame).bump Fld.TB_LAUNCH_SENT_COUNT).complete e.qp e.d St.OK 0 (s.launchAt p e) := by
  unfold State.launch
  rw [hq]
  refine if_neg ?_
  have inTime : decide (e.limit < max (max e.launch (s.swPort p).freeAt) s.now) = false := decide_eq_false (Nat.not_lt.mpr ht)
  rw [hu, ho, inTime]
  decide

theorem State.launchDeadline_linkDown (hu : s.swUp p = false) : s.launchDeadline p =
    ((s.launchTaken p e.launch r).complete e.qp e.d St.FAULTED Cause.LAUNCH_LINK_DOWN).raise Cause.LAUNCH_LINK_DOWN := by
  unfold State.launchDeadline
  rw [hq]
  exact if_pos (by rw [hu]; rfl)

theorem State.launchDeadline_late (hu : s.swUp p = true) (hl : e.limit < max (s.swPort p).freeAt s.now) : s.launchDeadline p =
    (((s.launchTaken p e.limit r).bump Fld.TB_LAUNCH_LATE_COUNT).complete e.qp e.d St.LATE 0 (s.launchTaken p e.limit r).now).raise Cause.LAUNCH_LATE (1 + 2 ^ 32 * p) := by
  unfold State.launchDeadline
  rw [hq]
  exact (if_neg (by rw [hu]; decide)).trans (if_pos hl)

end

/-- Settles O50: the checks of TIMED_SEND in their order, the three ends of a front entry, and the order in which entries join. -/
theorem timedFrames : Obligations.TimedFrames := by
  unfold Obligations.TimedFrames
  intro n w d frame p s0 s
  refine ⟨fun run => ?asked, fun e r hq => ?front, fun e l h => ⟨pairwise_addLaunch e h, addLaunch_eq e l⟩⟩
  case asked =>
    intro s q len port cls short long max addr full far bad e
    have exec := exec_timedSend run ⟨port, cls, short, long, max, addr⟩ frame
    exact ⟨fun hf => exec.trans (next_settle_congr (State.sendChecked_full hf)),
      fun hf hn => exec.trans (next_settle_congr (State.sendChecked_far hf hn)),
      fun hf hn hv => exec.trans (next_settle_congr (State.sendChecked_invalid hf hn hv)),
      fun hf hn hv hl => exec.trans (next_settle_congr (State.sendChecked_linkDown hf hn hv hl)),
      fun hf hn hv hl ht => exec.trans (next_settle_congr (State.sendChecked_late hf hn hv hl ht)),
      fun hf hn hv hl ht => exec.trans (next_settle_congr (State.sendChecked_joins hf hn hv hl ht))⟩
  case front =>
    exact ⟨fun hu ho ht => next_settle_congr (State.launch_sent hq hu ho ht), fun hu => next_settle_congr (State.launchDeadline_linkDown hq hu),
      fun hu hl => next_settle_congr (State.launchDeadline_late hq hu hl)⟩

end Sys2Proof.Machine
end

section
/-! SUPPORT. What a module receives over Ihlex, as chapter 17 states it (R409 to R417): a frame looked at, what each type does, the window of a sender, the timers of a peer; and
the statement that these settle. -/
namespace Sys2Proof.Machine

/-! ### A frame looked at (R408, R409, R412, R417) -/

/-- The sender of a valid frame has been heard; one that was lost is back. -/
def State.heard (s : State) (src : Nat) : State :=
  let u := s.setPeer src { s.peer src with lastRx := s.now }
  if s.isLost src = true then ((u.setLost src false).raise Cause.IHX_PEER_BACK).msix 67 else u

section
variable {s : State} {b : List Byte}

/-- The engine is on, and the frame is whole, from another module, to this one. -/
structure State.TakesFrame (s : State) (b : List Byte) : Prop where
  on : s.ihxOn = true
  whole : ihxWhole b = true
  other : bits (rd b 2 2) 9 0 ≠ s.moduleId
  own : bits (rd b 4 2) 9 0 = s.moduleId

theorem State.TakesFrame.ihxReceive (h : s.TakesFrame b) : s.ihxReceive b = (s.heard (bits (rd b 2 2) 9 0), some (bits (rd b 2 2) 9 0)) := by
  obtain ⟨on, whole, other, own⟩ := h
  simp only [State.ihxReceive, on, whole, other, own, Bool.not_true, Bool.false_eq_true, ne_eq, not_true, if_false]
  exact (apply_ite (fun t : State => (t, some (bits (rd b 2 2) 9 0))) _ _ _).symm

/-- The row of the frame's own type acts on it. -/
theorem State.TakesFrame.ihxRow (h : s.TakesFrame b) {type : Nat} (ht : rd b 1 1 = type) :
    s.ihxRow type b = ((s.heard (bits (rd b 2 2) 9 0)).ihxTyped (bits (rd b 2 2) 9 0) b).settle := by
  rw [State.ihxRow, ht, bne_self_eq_false, Bool.and_false, if_neg Bool.false_ne_true, State.ihxArrives, h.ihxReceive]

/-- A frame that is not whole is counted; its notice is raised at most once in a second. -/
theorem State.ihxRow_notWhole (on : s.ihxOn = true) (hw : ihxWhole b = false) (hd : dueAgain s.now s.ihx.badAt 1000000000 = false) (type : Nat) :
    s.ihxRow type b = (s.bump Fld.IHX_RX_BAD_COUNT).settle := by
  have counted : s.ihxReceive b = (s.bump Fld.IHX_RX_BAD_COUNT, none) := by
    simp only [State.ihxReceive, on, hw, State.now_bump, State.ihx_bump, hd, Bool.not_true, Bool.not_false, Bool.false_eq_true, if_true, if_false]
  rw [State.ihxRow, hw, Bool.false_and, if_neg Bool.false_ne_true, State.ihxArrives, counted]

end

/-! ### What the types do (R330, R415, R416) -/

section
variable {s : State} (src : Nat) {b : List Byte}

theorem State.ihxTyped_tile (h : rd b 1 1 = 1) : s.ihxTyped src b = s.tileArrives src b := by simp only [State.ihxTyped, h]
theorem State.ihxTyped_ack (h : rd b 1 1 = 2) : s.ihxTyped src b = s.ackArrives src b := by simp only [State.ihxTyped, h]
theorem State.ihxTyped_doorbell (h : rd b 1 1 = 3) : s.ihxTyped src b = s.doorbellArrives src b := by simp only [State.ihxTyped, h]
theorem State.ihxTyped_join (h : rd b 1 1 = 4) : s.ihxTyped src b = s.coordJoin src (rd b 36 2) (rd b 28 4) (rd b 38 2) := by simp only [State.ihxTyped, h]
theorem State.ihxTyped_release (h : rd b 1 1 = 5) : s.ihxTyped src b = s.released src (rd b 36 2) (rd b 28 4) := by simp only [State.ihxTyped, h]
theorem State.ihxTyped_hello (h : rd b 1 1 = 6) : s.ihxTyped src b = s := by simp only [State.ihxTyped, h]

variable {addr : Nat} {pay : List Byte}

theorem State.ihxWrite_allowed (h : s.ihxMayWrite addr pay.length = true) : s.ihxWrite src addr pay = (s.memWriteBy src false (bits addr 40 0) pay, false) := if_pos h

theorem State.ihxWrite_rejected (h : s.ihxMayWrite addr pay.length = false) : s.ihxWrite src addr pay = (s.raise Cause.IHX_BAD_ADDR, true) := if_neg (by rw [h]; decide)

/-- A tile that is of no exchange is written where it says. -/
theorem State.tileArrives_plain (hj : rd b 24 2 = 0xFFFF) : s.tileArrives src b =
    ((s.ihxWrite 1 (rd b 16 8) (b.drop 48)).1).rxSeq src (rd b 8 4) (s.ihxWrite 1 (rd b 16 8) (b.drop 48)).2 := if_pos hj

theorem State.doorbellArrives_eq : s.doorbellArrives src b =
    ((s.ihxWrite 1 (rd b 16 8) (slice b 40 4)).1).rxSeq src (rd b 8 4) (s.ihxWrite 1 (rd b 16 8) (slice b 40 4)).2 := rfl

end

/-! ### The window of a sender (R414) -/

/-- The next frame of a sender that owes nothing moves its window on by one, and its acknowledgement falls due. -/
theorem State.rxSeq_next {s : State} {src seq : Nat} (hk : seqAfter seq (s.peer src).rxNext = 0) (ha : (s.peer src).rxAbove = []) (hr : (s.peer src).rejects = [])
    (hc : (s.peer src).rxCount < 7) : s.rxSeq src seq false =
      s.setPeer src { s.peer src with rxNext := seqNext (s.peer src).rxNext, rxCount := (s.peer src).rxCount + 1, ackDue := true, rxAt := s.now } := by
  have few : ¬8 ≤ (s.peer src).rxCount + 1 := by omega
  simp [State.rxSeq, hk, ha, hr, advanceRx, few]

/-! ### The timers of a peer (R413, R414, R416, R417) -/

section
variable {s : State} {id : Nat}

theorem State.ackTimer_due (hd : (s.peer id).ackDue = true) (on : s.ihxOn = true) :
    s.ackTimer id = (s.passUntil ((s.peer id).rxAt + 20000)).sendAck id (s.peer id).rxNext false := by
  rw [State.ackTimer, hd, on]
  rfl

section
variable {f : TxFrame} (hf : oldestSent (s.peer id).unacked = some f) (on : s.ihxOn = true)
include hf on

theorem State.rtoTimer_oldest : s.rtoTimer id = (s.passUntil (f.sentAt + 1000 * s.fget Fld.IHX_CONFIG_RTO_US)).resendOr id f := by
  simp only [State.rtoTimer, hf, on, if_true]

theorem State.rtoTimer_resends (ht : f.tries ≤ s.fget Fld.IHX_CONFIG_RETRIES) :
    s.rtoTimer id = (s.passUntil (f.sentAt + 1000 * s.fget Fld.IHX_CONFIG_RTO_US)).resend id f :=
  (State.rtoTimer_oldest hf on).trans (if_pos (decide_eq_true ht))

theorem State.rtoTimer_gives_up (ht : s.fget Fld.IHX_CONFIG_RETRIES < f.tries) :
    s.rtoTimer id = (s.passUntil (f.sentAt + 1000 * s.fget Fld.IHX_CONFIG_RTO_US)).peerLost id := by
  have out : (s.passUntil (f.sentAt + 1000 * s.fget Fld.IHX_CONFIG_RTO_US)).mayResend f = false := decide_eq_false (Nat.not_le.mpr ht)
  rw [State.rtoTimer_oldest hf on, State.resendOr, out]
  rfl

end

/-- The slot of a peer is free 1 ms after its last acknowledgement. -/
def State.slotFreed (s : State) (id : Nat) : State := (s.passUntil ((s.peer id).idleSince + 1000000)).setPeer id { s.peer id with slot := false }

/-- A free slot goes to the peer that has waited longest. -/
def State.slotTurn (s : State) : State :=
  match s.ihx.slotWait with
  | x :: l => ({ s with ihx := { s.ihx with slotWait := l } } : State).pumpAll x
  | [] => s

theorem State.slotRelease_idle (hs : (s.peer id).slot = true) (hu : (s.peer id).unacked = []) (hw : (s.peer id).wait = []) : s.slotRelease id = (s.slotFreed id).slotTurn := by
  have idle : ((s.peer id).slot && (s.peer id).unacked.isEmpty && (s.peer id).wait.isEmpty) = true := by rw [hs, hu, hw]; rfl
  exact (if_pos idle).trans rfl

theorem State.slotTurn_unwanted (h : s.ihx.slotWait = []) : s.slotTurn = s := by simp only [State.slotTurn, h]

theorem State.slotTurn_taken {x : Nat} {l : List Nat} (h : s.ihx.slotWait = x :: l) : s.slotTurn = ({ s with ihx := { s.ihx with slotWait := l } } : State).pumpAll x := by
  simp only [State.slotTurn, h]

end

/-- Settles O56: each type by what it does, and each timer by the case in which it acts. -/
theorem ihlexReceiving : Obligations.IhlexReceiving := by
  unfold Obligations.IhlexReceiving
  intro b peer s
  refine ⟨fun on => ⟨fun whole other own => ?frame, fun hw hd => congrArg _ (State.ihxRow_notWhole on hw hd 6)⟩, fun seq => State.rxSeq_next,
    fun hd on => next_settle_congr (State.ackTimer_due hd on), fun f hf on => ?retransmit, fun hm => ?monitored, fun hs hu hw => ?slot⟩
  case frame =>
    have takes : s.TakesFrame b := ⟨on, whole, other, own⟩
    intro u
    have row : ∀ {type : Nat} {v : State}, rd b 1 1 = type → u.ihxTyped (bits (rd b 2 2) 9 0) b = v → (Host.Outcome.next (s.ihxRow type b) : Host.Outcome State Fault Refusal) = .next v.settle :=
      fun ht hv => by rw [takes.ihxRow ht, ← hv]; rfl
    refine ⟨takes.ihxReceive, fun ht hj => ⟨fun hw => row ht ?tile, fun hw => row ht ?tileRejected⟩, fun ht => ⟨fun hw => row ht ?doorbell, fun hw => row ht ?doorbellRejected⟩,
      fun ht => row ht (State.ihxTyped_ack _ ht), fun ht => row ht (State.ihxTyped_join _ ht), fun ht => row ht (State.ihxTyped_release _ ht), fun ht => row ht (State.ihxTyped_hello _ ht)⟩
    case tile => rw [State.ihxTyped_tile _ ht, State.tileArrives_plain _ hj, State.ihxWrite_allowed _ hw]
    case tileRejected => rw [State.ihxTyped_tile _ ht, State.tileArrives_plain _ hj, State.ihxWrite_rejected _ hw]
    case doorbell => rw [State.ihxTyped_doorbell _ ht, State.doorbellArrives_eq, State.ihxWrite_allowed _ hw]
    case doorbellRejected => rw [State.ihxTyped_doorbell _ ht, State.doorbellArrives_eq, State.ihxWrite_rejected _ hw]
  case retransmit => exact ⟨fun ht => next_settle_congr (State.rtoTimer_resends hf on ht), fun ht => next_settle_congr (State.rtoTimer_gives_up hf on ht)⟩
  case monitored => exact ⟨next_settle_congr (if_pos hm), next_settle_congr (if_pos hm)⟩
  case slot =>
    have freed := State.slotRelease_idle hs hu hw
    exact ⟨fun h => next_settle_congr (freed.trans (State.slotTurn_unwanted h)), fun x l h => next_settle_congr (freed.trans (State.slotTurn_taken h))⟩

end Sys2Proof.Machine
end

section
/-! SUPPORT. The outputs of the Spoke unit, as chapter 15 states them (R365 to R373): entries that fire or expire, pulses that end, generator points, the supervision of outputs;
and the statement that these settle. -/
namespace Sys2Proof.Machine

/-! ### Entries that fire and expire (R365, R366, R368) -/

section
variable {s : State} {ch i : Nat} {e : CmpEntry} {q : Option Nat}

section
variable (on : s.spokeOn = true) (hf : (s.chan ch).fault = false) (hn : s.nextFire ch (decide (16 ≤ (s.chan ch).fires)) (s.chan ch).entries 0 = some (i, e, q))
include on hf hn

theorem State.compareFire_next (direct : Nat) : s.compareFire ch direct =
    if 16 ≤ (s.chan ch).fires then
      (s.setChan ch { s.chan ch with entries := setAt (s.chan ch).entries i { e with imprecise := true } }).bump (Fld.SPK_ENCn_CMP_DROPS_IMPRECISE ch)
    else s.fireEntry ch i e (4 * (s.chan ch).at' + q.getD direct) := by
  simp only [State.compareFire, on, hf, Bool.not_true, Bool.or_false, Bool.false_eq_true, if_false, hn]

theorem State.compareFire_fires (direct : Nat) (h : (s.chan ch).fires < 16) : s.compareFire ch direct = s.fireEntry ch i e (4 * (s.chan ch).at' + q.getD direct) :=
  (State.compareFire_next on hf hn direct).trans (if_neg (Nat.not_le.mpr h))

/-- A seventeenth entry at one sample is deferred, imprecise. -/
theorem State.compareFire_deferred (direct : Nat) (h : 16 ≤ (s.chan ch).fires) : s.compareFire ch direct =
    (s.setChan ch { s.chan ch with entries := setAt (s.chan ch).entries i { e with imprecise := true } }).bump (Fld.SPK_ENCn_CMP_DROPS_IMPRECISE ch) :=
  (State.compareFire_next on hf hn direct).trans (if_pos h)

end

end

/-! ### Pulses that end (R369) -/

/-- The time at which a pulse of a time width ends. -/
def Pulse.endsAt : Pulse → Option Nat
  | .time u => some u
  | _ => none

section
variable {s : State} {o direct : Nat}

/-- The first running pulse of a time width ends at its time. -/
theorem State.pulseEnd_time {u : Nat} (h : (s.out o).pulses.findSome? Pulse.endsAt = some u) :
    s.pulseEnd o false direct = (s.passUntil ((u + 3) / 4)).putOut o { s.out o with pulses := dropFirst (· == .time u) (s.out o).pulses } u := by
  simp only [State.pulseEnd, Bool.false_eq_true, if_false]
  split
  case h_1 none => exact absurd (h.symm.trans none) nofun
  case h_2 v first =>
    obtain rfl : u = v := Option.some.inj (h.symm.trans first)
    rfl

theorem State.pulseEnd_count {p : Pulse} {q : Nat} (h : ((s.out o).pulses.find? fun x => (s.countEnds o direct x).isSome) = some p) (hq : s.countEnds o direct p = some q) :
    s.pulseEnd o true direct = s.putOut o { s.out o with pulses := dropFirst (· == p) (s.out o).pulses } q := by
  simp only [State.pulseEnd, if_true, h, hq, Option.getD_some]

end

/-! ### Generator points (R371) -/

theorem State.generatorPoint_fires {s : State} {g : Nat} {p : Int} {rising : Bool} {q : Option Nat} (h : s.genFires g = some (p, rising, q)) (direct : Nat) :
    s.generatorPoint g direct = ((s.setGen g { s.gen g with ref2 := 2 * p + sigma rising, last := some p }).genPulse g (4 * (s.chan (s.genChan g)).at' + q.getD direct)).sendTriggers
      g p (s.chan (s.genChan g)).coarse := by
  simp only [State.generatorPoint, h]

/-! ### Outputs that are switched off (R369) -/

section
variable (s : State) (o : Nat)

theorem State.pulses_putOut_same (x : Out) (q : Nat) : ((s.putOut o x q).out o).pulses = x.pulses := by
  have set : ∀ y : Out, y.pulses = x.pulses → ((s.setOut o y).out o).pulses = x.pulses := fun y h => (congrArg Out.pulses (s.out_setOut_same o y)).trans h
  unfold State.putOut
  exact ite_keeps (g := fun t : State => (t.out o).pulses) (set x rfl) (set _ rfl)

theorem State.out_putOut_other (x : Out) (q : Nat) {p : Nat} (h : p ≠ o) : (s.putOut o x q).out p = s.out p := by
  have other : ∀ y, (s.setOut o y).out p = s.out p := fun y => (s.out_setOut o p y).trans (if_neg h)
  unfold State.putOut
  exact ite_keeps (g := fun t : State => t.out p) (other x) (other _)

theorem State.out_outOff : ((s.outOff o).out o).on = false ∧ ((s.outOff o).out o).pulses = [] ∧ ∀ p, p ≠ o → (s.outOff o).out p = s.out p := by
  refine ⟨?_, s.pulses_putOut_same o _ _, fun p h => s.out_putOut_other o _ _ h⟩
  rw [State.on_outOff, decide_eq_false (not_not_intro rfl), Bool.false_and]

end

/-! ### The supervision of outputs (R372, R373) -/

section
variable {s : State} {o : Nat}

section
variable (on : s.spokeOn = true)
include on

theorem State.actReadback_faulty {toOn : Bool} (h : s.spk.actLost = false ∨ toOn = false) : s.actReadback o toOn = (s.outOff o).raiseIn Cause.ACT_READBACK_FAULT 9 o := by
  have told : (s.spk.actLost && toOn) = false := by rcases h with h | h <;> rw [h] <;> simp only [Bool.false_and, Bool.and_false]
  simp only [State.actReadback, on, told, Bool.not_true, Bool.or_self, Bool.false_eq_true, if_false]

theorem State.readbackFault_faulty (h : s.spk.actLost = false ∨ (s.out o).on = false) :
    s.readbackFault o = ((s.passUntil (s.changedAt o + 150000)).outOff o).raiseIn Cause.ACT_READBACK_FAULT 9 o := by
  have told : (s.spk.actLost && (s.out o).on) = false := by rcases h with h | h <;> rw [h] <;> simp only [Bool.false_and, Bool.and_false]
  have later : (s.passUntil (s.changedAt o + 150000)).spokeOn = true := on
  simp only [State.readbackFault, on, told, Bool.not_true, Bool.or_self, Bool.false_eq_true, if_false]
  exact State.actReadback_faulty later h

/-- The test pulse that falls due: unless an edge is near, it is noted, and its readback judged. -/
theorem State.actTest_due (ht : s.fget (Fld.SPK_ACTn_CFG_TEST_EN o) ≠ 0) (ha : (s.out o).on = true ∨ s.outAllowed o = true) (ok : Bool) :
    let u := s.passUntil ((s.out o).tested + 1000000 * s.fget Fld.SPK_ACT_TEST_PERIOD_MS)
    let v := u.setOut o { s.out o with testing := some u.now, tested := u.now }
    s.actTest o ok = if u.edgeNear o then u.setOut o { s.out o with tested := u.now } else if ok then v else v.actReadback o (!(s.out o).on) := by
  have may : (!(s.out o).on && !s.outAllowed o) = false := by rcases ha with h | h <;> rw [h] <;> simp only [Bool.not_true, Bool.false_and, Bool.and_false]
  simp only [State.actTest, on, ht, may, Bool.not_true, decide_false, Bool.or_self, Bool.false_eq_true, if_false]

theorem State.actOverload_trips (h : (s.out o).on = true) : let u := (s.passUntil (((s.out o).onSince + 3) / 4 + 100000)).outOff o
    let trips := u.now :: (u.out o).trips.filter fun t => decide (u.now < t + 60000000000)
    s.actOverload o =
      (u.setOut o { u.out o with hold := true, trips, latched := (u.out o).latched || decide (3 ≤ trips.length) }).raiseIn Cause.ACT_OVERLOAD 9 o := by
  simp only [State.actOverload, on, h, Bool.not_true, Bool.or_self, Bool.false_eq_true, if_false]

theorem exec_actSupplyLost (h : s.spk.actLost = false) :
    exec .actSupplyLost s = .next (({ s with spk := { s.spk with actLost := true } } : State).raiseIn Cause.ACT_SUPPLY_LOST 10 0).settle :=
  congrArg _ (if_pos (by rw [on, h]; rfl))

theorem exec_trgReadbackFault (g : Fin 4) : exec (.trgReadbackFault g) s = .next (s.raiseIn Cause.TRG_READBACK_FAULT 9 (8 + g.val)).settle := congrArg _ (if_pos on)

end

theorem State.overloadEnd_held (h : (s.out o).hold = true) :
    s.overloadEnd o = ((s.passUntil ((s.out o).trips.headD 0 + 1000000000)).setOut o { s.out o with hold := false }).endHandling 9 o := if_neg (by rw [h]; decide)

theorem exec_actSupplyRestored (h : s.spk.actLost = true) :
    exec .actSupplyRestored s = .next (({ s with spk := { s.spk with actLost := false } } : State).endHandling 10 0).settle := congrArg _ (if_pos h)

theorem State.actMaxOn_passed (hm : s.fget (Fld.SPK_ACTn_CFG_MAX_ON o) ≠ 0) (h : (s.out o).on = true) : s.actMaxOn o =
    ((s.passUntil (((s.out o).onSince + 3) / 4 + 10000000 * s.fget (Fld.SPK_ACTn_CFG_MAX_ON o))).outOff o).raise Cause.ACT_MAX_ON :=
  if_neg fun off => off.elim hm (by rw [h]; decide)

end

/-- Settles O59: entries, pulses and generators by the case in which they act, and each supervision by its equation. -/
theorem outputEvents : Obligations.OutputEvents := by
  unfold Obligations.OutputEvents
  intro ch g direct o a ok s
  refine ⟨fun on hf i e q hn => ?fires, fun _ _ _ => rfl, fun h => next_settle_congr (if_pos h), fun u h => next_settle_congr (State.pulseEnd_time h),
    fun p q h hq => next_settle_congr (State.pulseEnd_count h hq), fun p rising q h => next_settle_congr (State.generatorPoint_fires h _), fun x _ => s.out_outOff x,
    fun on => ?supervised, fun h => next_settle_congr (State.overloadEnd_held h), exec_actSupplyRestored, fun hm h => next_settle_congr (State.actMaxOn_passed hm h)⟩
  case fires => exact ⟨fun h => next_settle_congr (State.compareFire_fires on hf hn _ h), fun h => next_settle_congr (State.compareFire_deferred on hf hn _ h)⟩
  case supervised =>
    exact ⟨fun h => next_settle_congr (State.readbackFault_faulty on h),
      fun ht ha => ⟨fun near => next_settle_congr ((State.actTest_due on ht ha ok).trans (if_pos near)), fun far => next_settle_congr ((State.actTest_due on ht ha ok).trans (if_neg (Bool.not_eq_true _ ▸ far)))⟩,
      fun h => next_settle_congr (State.actOverload_trips on h), exec_actSupplyLost on, exec_trgReadbackFault on g⟩

end Sys2Proof.Machine
end

section
/-! SUPPORT. The encoder channels of the Spoke unit, as chapter 15 states them (R353 to R366, R374): CMP_LOAD in the order of its checks, samples, speed states, marks, signal
faults, switches; and the statement that these settle. -/
namespace Sys2Proof.Machine

/-! ### A channel that is set twice -/

section
variable {α : Type}

theorem Tbl.keep_insert (t : Tbl α) (k : Nat) (v : α) : (Tbl.insert t k v).keep (fun j => j != k) = t.keep fun j => j != k := by
  induction t with
  | nil => simp [Tbl.insert, Tbl.keep]
  | cons e t ih =>
    rw [Tbl.insert]
    split
    · simp [Tbl.keep]
    · simp only [Tbl.keep, ih]

theorem Tbl.keep_keep (p : Nat → Bool) (t : Tbl α) : (t.keep p).keep p = t.keep p := by
  induction t with
  | nil => rfl
  | cons e t ih =>
    by_cases h : p e.1 = true
    · simp only [Tbl.keep, if_pos h, ih]
    · simp only [Tbl.keep, if_neg h, ih]

/-- The later of two puts at a key stands. -/
theorem Tbl.put_put [DecidableEq α] (d : Nat → α) (t : Tbl α) (k : Nat) (v w : α) : Tbl.put d (Tbl.put d t k v) k w = Tbl.put d t k w := by
  have kept : (Tbl.put d t k v).keep (fun j => j != k) = t.keep fun j => j != k := by
    rw [Tbl.put]
    split
    · exact Tbl.keep_keep _ t
    · rw [Tbl.keep_insert, Tbl.keep_keep]
  rw [Tbl.put, kept, Tbl.put]

end

theorem State.setChan_setChan (s : State) (ch : Nat) (x y : Chan) : (s.setChan ch x).setChan ch y = s.setChan ch y := by
  simp only [State.setChan, Tbl.put_put]

/-! ### CMP_LOAD (R362 to R364, R366) -/

@[simp] theorem State.spk_cmpDrops (s : State) (ch k : Nat) : (s.cmpDrops ch k).spk = s.spk := ite_keeps rfl (s.spk_bump _ k)
@[simp] theorem State.now_cmpDrops (s : State) (ch k : Nat) : (s.cmpDrops ch k).now = s.now := ite_keeps rfl (s.now_bump _ k)

@[simp] theorem State.chan_cmpDrops (s : State) (ch k j : Nat) : (s.cmpDrops ch k).chan j = s.chan j := by rw [State.chan, s.spk_cmpDrops, State.chan]

/-- The fields of a CMP_LOAD are in order. -/
structure LoadFields (d : List Byte) : Prop where
  chan : rd d 8 1 ≤ 3
  mode : rd d 9 1 ≤ 2
  count : rd d 10 2 ≤ 8192
  clear : rd d 9 1 = 2 → rd d 10 2 = 0
  addr : hostAddr (rd d 16 8) = true

section
variable {s : State} {n : Nat} {d buf : List Byte}

/-- The entries that a load in MODE `mode` keeps. -/
def Chan.kept (c : Chan) (mode : Nat) : List CmpEntry := if mode = 0 then c.entries else []

/-- The list of channel `ch` after a load that accepts `es`: behind those kept in MODE 0, alone in another mode. -/
def State.listed (s : State) (ch mode : Nat) (es : List CmpEntry) : State :=
  (if mode = 0 then s else s.cmpDrops ch (s.chan ch).entries.length).setChan ch { s.chan ch with entries := (s.chan ch).kept mode ++ es }

/-- What the entries that a load does not list leave: a notice each without a scale, one record for the late ones. -/
def State.loadNotices (s : State) (ch late noScale : Nat) : State :=
  ((List.range noScale).foldl (fun w _ => (w.cmpDrops ch 1).raise Cause.CMP_NO_SCALE) s).raiseLate ch late

/-- What becomes of the entries that a load has read. -/
def State.loadRead (s : State) (n : Nat) (d buf : List Byte) : State :=
  let ch := rd d 8 1
  let es := cmpEntries buf (rd d 10 2)
  if es.any badEntry then s.malformed n d 16
  else if (s.chan ch).fault then
    let u := (s.cmpDrops ch (rd d 10 2)).raise Cause.CMP_DISCARDED
    u.complete n d St.OK 0 (u.cmpResult ch 0 0)
  else
    let (ok, late, noScale) := s.sortEntries ch es
    if listSize < ((s.chan ch).kept (rd d 9 1)).length + ok.length then s.complete n d St.FULL
    else
      let v := (s.listed ch (rd d 9 1) ok).loadNotices ch late noScale
      v.complete n d St.OK (if late = 0 then 0 else Cause.LATE_ACTUATION) (v.cmpResult ch ok.length late)

/-- Clearing a list and filling it leaves the new entries alone. -/
theorem State.listed_eq (s : State) (ch mode : Nat) (es : List CmpEntry) : let u := if mode = 0 then s else s.cmpClear ch
    s.listed ch mode es = u.setChan ch { u.chan ch with entries := (u.chan ch).entries ++ es } := by
  by_cases h : mode = 0
  · simp only [State.listed, Chan.kept, h, if_true]
  · simp only [State.listed, Chan.kept, h, if_false, State.cmpClear, State.chan_setChan_same, State.setChan_setChan]

theorem LoadFields.cmpLoad (h : LoadFields d) : s.cmpLoad n d buf =
    if s.encMode (rd d 8 1) = 0 ∨ s.spokeOn = false then s.complete n d St.NOT_AVAILABLE else s.reads n d (decide (rd d 10 2 ≠ 0)) fun u => u.loadRead n d buf := by
  obtain ⟨chan, mode, count, clear, addr⟩ := h
  have fits : ¬(listSize < rd d 10 2 ∨ (rd d 9 1 = 2 ∧ rd d 10 2 ≠ 0)) := by
    rintro (many | ⟨two, some⟩)
    · exact absurd count (Nat.not_le.mpr many)
    · exact some (clear two)
  have held : ∀ t : State, (if rd d 9 1 = 0 then (t.chan (rd d 8 1)).entries.length else 0) = ((t.chan (rd d 8 1)).kept (rd d 9 1)).length := fun t => by
    rw [Chan.kept, apply_ite List.length, List.length_nil]
  simp only [State.cmpLoad, Nat.not_lt.mpr chan, Nat.not_lt.mpr mode, fits, addr, Bool.true_eq_false, if_false, held, State.loadRead, State.loadNotices, State.listed_eq]

theorem LoadFields.cmpLoad_off (h : LoadFields d) (off : s.encMode (rd d 8 1) = 0 ∨ s.spokeOn = false) : s.cmpLoad n d buf = s.complete n d St.NOT_AVAILABLE :=
  h.cmpLoad.trans (if_pos off)

/-- The channel of the load runs. -/
def State.loadsTo (s : State) (d : List Byte) : Prop := s.encMode (rd d 8 1) ≠ 0 ∧ s.spokeOn = true

theorem State.loadsTo.not_off (h : s.loadsTo d) : ¬(s.encMode (rd d 8 1) = 0 ∨ s.spokeOn = false) := by
  obtain ⟨mode, on⟩ := h
  simp [mode, on]

theorem LoadFields.cmpLoad_linkDown (h : LoadFields d) (on : s.loadsTo d) (hm : rd d 10 2 ≠ 0) (hl : s.hif.linkUp = false) : s.cmpLoad n d buf = s.endDesc n d :=
  h.cmpLoad.trans ((if_neg on.not_off).trans (State.reads_linkDown _ (decide_eq_true hm) hl))

theorem LoadFields.cmpLoad_read (h : LoadFields d) (on : s.loadsTo d) (hl : rd d 10 2 ≠ 0 → s.hif.linkUp = true) : s.cmpLoad n d buf = s.loadRead n d buf := by
  have read : decide (rd d 10 2 ≠ 0) = false ∨ s.hif.linkUp = true := (Decidable.em (rd d 10 2 ≠ 0)).symm.imp decide_eq_false hl
  exact h.cmpLoad.trans ((if_neg on.not_off).trans (State.reads_done _ read))

theorem State.loadRead_bad (h : ∃ e ∈ cmpEntries buf (rd d 10 2), badEntry e = true) : s.loadRead n d buf = s.malformed n d 16 := if_pos (List.any_eq_true.mpr h)

section
variable (hb : ∀ e ∈ cmpEntries buf (rd d 10 2), badEntry e = false)
include hb

theorem State.loadRead_fault (hf : (s.chan (rd d 8 1)).fault = true) : let u := (s.cmpDrops (rd d 8 1) (rd d 10 2)).raise Cause.CMP_DISCARDED
    s.loadRead n d buf = u.complete n d St.OK 0 (u.cmpResult (rd d 8 1) 0 0) := by
  have good : ¬(cmpEntries buf (rd d 10 2)).any badEntry = true := by simpa using hb
  exact (if_neg good).trans (if_pos hf)

variable (hf : (s.chan (rd d 8 1)).fault = false)
include hf

theorem State.loadRead_sorted : s.loadRead n d buf =
    let p := s.sortEntries (rd d 8 1) (cmpEntries buf (rd d 10 2))
    if listSize < ((s.chan (rd d 8 1)).kept (rd d 9 1)).length + p.1.length then s.complete n d St.FULL
    else
      let v := (s.listed (rd d 8 1) (rd d 9 1) p.1).loadNotices (rd d 8 1) p.2.1 p.2.2
      v.complete n d St.OK (if p.2.1 = 0 then 0 else Cause.LATE_ACTUATION) (v.cmpResult (rd d 8 1) p.1.length p.2.1) := by
  have good : ¬(cmpEntries buf (rd d 10 2)).any badEntry = true := by simpa using hb
  exact (if_neg good).trans (if_neg (by rw [hf]; decide))

end

end

theorem exec_cmpLoad {s0 : State} {n : Fin 64} {w d : List Byte} (h : s0.Runs 0x09 n w d) (buf : List Byte) :
    exec (.cmpLoad n w buf) s0 = .next ((s0.starts n d).cmpLoad n d buf).settle := gate_runs _ h

/-! ### Samples and speed states (R353, R360) -/

/-- A sample moves the position and the time of a channel, whatever it makes of its speed; the entries stay. -/
theorem Chan.track_moves (c : Chan) (p : Int) (t n hold : Nat) :
    (c.track p t n hold).1.pos = p ∧ (c.track p t n hold).1.at' = t ∧ (c.track p t n hold).1.entries = c.entries := by
  unfold Chan.track
  extract_lets still moved located sg extended
  have here : located.pos = p ∧ located.at' = t ∧ located.entries = c.entries := by
    unfold located
    split <;> exact ⟨rfl, rfl, rfl⟩
  cases moved.st
  case standstill => dsimp only; split <;> exact ⟨rfl, rfl, rfl⟩
  case settling | moving => dsimp only; split_ifs <;> exact here

section
variable {s : State} {ch : Nat}

/-- The counts by which a sample moves a channel. -/
def State.sampleStep (s : State) (ch : Nat) (delta : Int) : Int :=
  (if s.encMode ch = 2 then 1024 * delta else delta) * if s.fget (Fld.SPK_ENCn_CFG_INVERT ch) = 1 then -1 else 1

/-- What a sample makes of a channel, and whether its direction turned or its movement ended. -/
def State.tracked (s : State) (ch : Nat) (delta : Int) : Chan × Bool :=
  (s.chan ch).track ((s.chan ch).pos + s.sampleStep ch delta) (max ((s.chan ch).at' + 100) s.now) (s.window ch) (10000000 * s.fget (Fld.SPK_ENCn_CFG_STANDSTILL_MS ch))

/-- The state that a sample of a running channel gives, before its count pulses end. -/
def State.sampled (s : State) (ch : Nat) (delta : Int) (frac : Nat) : State :=
  let c := (s.tracked ch delta).1
  (s.passUntil (max ((s.chan ch).at' + 100) s.now)).setChan ch
    { c with frac := frac % 256, entries := c.entries.map fun e => { e with travel := e.travel + (s.sampleStep ch delta).natAbs } }

/-- The channel runs: the unit is on, the channel is not off, and it is not in FAULT. -/
structure State.ChanRuns (s : State) (ch : Nat) : Prop where
  on : s.spokeOn = true
  mode : s.encMode ch ≠ 0
  sound : (s.chan ch).fault = false

theorem State.ChanRuns.idle (h : s.ChanRuns ch) : (!s.spokeOn || decide (s.encMode ch = 0) || (s.chan ch).fault) = false := by
  obtain ⟨on, mode, sound⟩ := h
  simp only [on, mode, sound, Bool.not_true, decide_false, Bool.or_self]

theorem State.ChanRuns.encSample (h : s.ChanRuns ch) (delta : Int) (frac : Nat) :
    s.encSample ch delta frac = if (s.tracked ch delta).2 then (s.sampled ch delta frac).endCounts ch else s.sampled ch delta frac := by
  simp only [State.encSample, h.idle, Bool.false_eq_true, if_false]
  rfl

theorem State.now_sampled (delta : Int) (frac : Nat) : (s.sampled ch delta frac).now = max s.now ((s.chan ch).at' + 100) := by
  show max s.now (max ((s.chan ch).at' + 100) s.now) = _
  omega

theorem State.chan_sampled (delta : Int) (frac : Nat) :
    ((s.sampled ch delta frac).chan ch).at' = (s.sampled ch delta frac).now ∧ ((s.sampled ch delta frac).chan ch).pos = (s.chan ch).pos + s.sampleStep ch delta ∧
    ((s.sampled ch delta frac).chan ch).entries = (s.chan ch).entries.map fun e => { e with travel := e.travel + (s.sampleStep ch delta).natAbs } := by
  obtain ⟨pos, time, entries⟩ := (s.chan ch).track_moves ((s.chan ch).pos + s.sampleStep ch delta) (max ((s.chan ch).at' + 100) s.now) (s.window ch)
    (10000000 * s.fget (Fld.SPK_ENCn_CFG_STANDSTILL_MS ch))
  rw [State.now_sampled, State.sampled, State.chan_setChan_same, Nat.max_comm s.now]
  exact ⟨time.trans (by omega), pos, congrArg _ entries⟩

theorem State.standstillTimer_due (h : (s.chan ch).st ≠ .standstill) : s.standstillTimer ch =
    (s.passUntil ((s.chan ch).tA + 10000000 * s.fget (Fld.SPK_ENCn_CFG_STANDSTILL_MS ch))).standstill ch := if_neg h

theorem State.settlingEnd_due (h : (s.chan ch).st = .settling) : s.settlingEnd ch =
    (s.passUntil ((s.chan ch).exitT + 100 * s.window ch)).setChan ch { s.chan ch with st := .moving, speed := (s.chan ch).windowed (s.window ch) } :=
  if_neg (not_not_intro h)

/-! ### Marks, faults, switches (R355, R356, R359, R374) -/

/-- The first mark of a channel fixes its phase; a COARSE channel becomes FINE. -/
theorem State.ChanRuns.mark_first (h : s.ChanRuns ch) (hp : (s.chan ch).phase = none) :
    let u := s.setChan ch { s.chan ch with phase := some ((s.chan ch).pos % (s.refPeriod ch : Int)).toNat }
    s.mark ch = if (s.chan ch).coarse = true then (u.setChan ch { u.chan ch with coarse := false }).raise Cause.ENC_REQUALIFIED 0 else u := by
  have shift : ofSigned 64 0 = 0 := by decide
  simp only [State.mark, State.requalified, shift, h.idle, hp, Bool.false_eq_true, if_false]

theorem exec_referenceMark {ch : Fin 4} (h : s.fget (Fld.SPK_ENCn_CFG_REF_MODE ch) = 1) : exec (.referenceMark ch) s = .next (s.mark ch).settle :=
  congrArg _ (if_pos h)

theorem State.now_stopGens (s : State) (ch : Nat) : (s.stopGens ch).now = s.now :=
  foldl_keeps (g := State.now) (fun t g => ite_keeps (g := State.now) (t := t.setGen g _) rfl rfl) (List.range 4) s

theorem State.ChanRuns.encFault (h : s.ChanRuns ch) :
    let u := ((s.cmpDrops ch (s.chan ch).entries.length).stopGens ch).setChan ch { s.chan ch with fault := true, faultAt := s.now, speed := 0, st := .standstill, entries := [] }
    let v := u.raiseIn Cause.ENC_SIGNAL_FAULT 8 ch
    s.encFault ch = (if (s.chan ch).entries = [] then v else v.raise Cause.CMP_DISCARDED).endCounts ch := by
  simp only [State.encFault, h.idle, Bool.false_eq_true, if_false, State.now_stopGens, State.now_cmpDrops, List.isEmpty_iff]

theorem State.encFaultEnd_due (h : (s.chan ch).fault = true) (serves : s.brk.outRegions.contains (8, ch) = false) :
    let u := s.passUntil ((s.chan ch).faultAt + 10000000)
    s.encFaultEnd ch = (u.setChan ch { s.chan ch with
      fault := false, coarse := true, st := .standstill, speed := 0, at' := u.now, pRef := (s.chan ch).pos, pA := (s.chan ch).pos, tA := u.now, nearP := (s.chan ch).pos,
      nearT := u.now, hist := [] }).endHandling 8 ch :=
  if_neg (by rw [h, serves]; decide)

theorem State.amplitudeWarn_applies (on : s.spokeOn = true) (h : s.encMode ch = 1 ∨ (s.encMode ch = 2 ∧ s.fget (Fld.SPK_ENCn_CFG_REF_MODE ch) = 1)) :
    s.amplitudeWarn ch = s.raise Cause.ENC_AMPLITUDE_WARN :=
  if_pos (by simpa [on] using h)

/-- A selected edge of a switch in MODE 1 is kept and counted. -/
theorem State.mswEdge_selected {m : Nat} {rising : Bool} (on : s.spokeOn = true) (mode : s.fget (Fld.SPK_MSWm_CFG_MODE m) = 1)
    (edge : s.fget (Fld.SPK_MSWm_CFG_EDGE m) = 1 ↔ rising = true) (t : Nat) :
    let u := s.passUntil (t + 1000 * s.fget (Fld.SPK_MSWm_CFG_DEBOUNCE_US m))
    s.mswEdge m rising t = ((u.setWord64 (Reg.SPK_MSWm_LAST_TIME m) t).setWord64 (Reg.SPK_MSWm_LAST_POS m)
      (ofSigned 64 (s.chan (s.fget (Fld.SPK_MSWm_CFG_CHAN m))).pos)).bump (Fld.SPK_MSWm_COUNT_COUNT m) := by
  have same : (s.fget (Fld.SPK_MSWm_CFG_EDGE m) == 1) = rising := by rw [Bool.eq_iff_iff, beq_iff_eq, edge]
  have acts : (!s.spokeOn || decide (s.fget (Fld.SPK_MSWm_CFG_MODE m) = 0) || (s.fget (Fld.SPK_MSWm_CFG_EDGE m) == 1) != rising) = false := by
    rw [same, on, mode, bne_self_eq_false]
    decide
  exact (if_neg (by rw [acts]; decide)).trans (if_pos mode)

end

/-- Settles O58: a load by the case that its checks reach, every other event by its equation. -/
theorem encoderEvents : Obligations.EncoderEvents := by
  unfold Obligations.EncoderEvents
  intro n wd d buf ch delta frac input rising t s0 s
  have runs : s.spokeOn = true → s.encMode ch ≠ 0 → (s.chan ch).fault = false → s.ChanRuns ch := State.ChanRuns.mk
  refine ⟨fun h => ?load, fun on mode sound => ?sample, fun h => next_settle_congr (State.standstillTimer_due h), fun h => next_settle_congr (State.settlingEnd_due h),
    fun marks on mode sound hp => (exec_referenceMark marks).trans (next_settle_congr ((runs on mode sound).mark_first hp)), fun on mode sound => next_settle_congr (runs on mode sound).encFault,
    fun h serves => next_settle_congr (State.encFaultEnd_due h serves), fun on h => next_settle_congr (State.amplitudeWarn_applies on h),
    fun on mode edge => next_settle_congr (State.mswEdge_selected on mode edge _)⟩
  case load =>
    intro _ k mode m es run chan modes count clear addr
    have good : LoadFields d := ⟨chan, modes, count, clear, addr⟩
    have answer {u : State} (e : (s0.starts n d).cmpLoad n d buf = u) : run = .next u.settle := (exec_cmpLoad h buf).trans (next_settle_congr e)
    refine ⟨fun off => answer (good.cmpLoad_off off), fun hm on some down => answer (good.cmpLoad_linkDown ⟨hm, on⟩ some down), fun hm on up => ?read⟩
    have read {u : State} (e : (s0.starts n d).loadRead n d buf = u) : run = .next u.settle := answer ((good.cmpLoad_read ⟨hm, on⟩ up).trans e)
    refine ⟨fun bad => read (State.loadRead_bad bad), fun hb => ⟨fun fault => read (State.loadRead_fault hb fault), fun sound => ?sorted⟩⟩
    exact ⟨fun full => read ((State.loadRead_sorted hb sound).trans (if_pos full)),
      fun room => ⟨_, _, read ((State.loadRead_sorted hb sound).trans (if_neg (Nat.not_lt.mpr room))), rfl, rfl⟩⟩
  case sample =>
    have sampled := (runs on mode sound).encSample delta frac.toNat
    obtain ⟨time, moved⟩ := State.chan_sampled (s := s) (ch := ch) delta frac.toNat
    refine ⟨s.sampled ch delta frac.toNat, ?_, rfl, State.now_sampled delta _, time, moved, fun j other => (State.chan_setChan _ _ _ _).trans (if_neg other)⟩
    cases turned : (s.tracked ch delta).2
    · exact .inl (next_settle_congr (congrArg (State.encFast · ch) (sampled.trans (if_neg (by rw [turned]; decide)))))
    · exact .inr (next_settle_congr (congrArg (State.encFast · ch) (sampled.trans (if_pos turned))))

end Sys2Proof.Machine
end
